-- ==== Sys2Proof/Word.lean ====
section
/-! DEFINITION. The word types of the node: octets, hut second counts, epochs, record sequences and station ids. -/

namespace Sys2Proof

/-- An octet as it crosses the hut line or the label line. -/
abbrev Octet := BitVec 8

/-- A hut second count: unsigned 32-bit, wrapping (R24). -/
abbrev Second := BitVec 32

/-- An epoch: 0..255, wrapping (R37, R40). -/
abbrev Epoch := BitVec 8

/-- The sequence of a second or minute record: 32-bit, consecutive (R178, R181). -/
abbrev Sequence := BitVec 32

/-- A station id 0..15 as the four straps give it; 0 is listen-only (R187). -/
abbrev StationId := BitVec 4

/-- The number of one of the 128 sample instants of a second (R30). -/
abbrev Instant := BitVec 7

end Sys2Proof
end

