-- ==== Sys2Proof/Config.lean ====
section
/-! DEFINITION. What the manual leaves open as a value: constants without a body. Each is applied to the state's
counter `draws`, so that every use draws a fresh value (log 4). -/

namespace Sys2Proof

/-- The spread of R7 in bit times, "drawn uniformly at random" from 0 to 15. Free value (log 4). -/
opaque Config.spreadDraw : Nat → BitVec 4

/-- The random number from which R9 draws a backoff: its low min(a, 6) bits are the backoff slots. Free value (log 4). -/
opaque Config.backoffDraw : Nat → BitVec 6

/-- The number of body octets that follow the three opening octets of an answer whose octet layout the manual does not give
(R3, R183): a body has at most 240 octets, so 0..237. Free value (log 4). -/
opaque Config.answerLength : Nat → Fin 238

/-- The body octets that follow the opening octets of an answer that carries data, by draw and place: the manual gives their
values no layout (R183). Free value (log 4). -/
opaque Config.answerOctet : Nat → Nat → Octet

end Sys2Proof
end

