-- ==== Sys2Proof/Syntax.lean ====
section
/-! DEFINITION. The commands of the node: one constructor of `Instr` per row of spec/opcode_table.json, and the types of
their operands. A row of the table carries no field: the operands are what the outside brings to the event (log 6). -/

namespace Sys2Proof

/-- The three axes of the fluxgate (chapter 05). -/
inductive Axis where
  | x | y | z
deriving DecidableEq, Repr

/-- One value per axis. -/
structure Axes (α : Type) where
  x : α
  y : α
  z : α
deriving DecidableEq, Repr

/-- The two temperature channels (chapter 07). -/
inductive Channel where
  | sensor | pier
deriving DecidableEq, Repr

/-- One value per temperature channel. -/
structure Channels (α : Type) where
  sensor : α
  pier : α
deriving DecidableEq, Repr

/-- The two transmit slots of LC (R6). -/
inductive SlotName where
  | a | b
deriving DecidableEq, Repr

/-- The eight blocks that take TB's mark notices (R29, Figure 19). -/
inductive MarkBlock where
  | re | vfe | pt | du | scn | tu | mdm | bw
deriving DecidableEq, Repr

/-- The level of a serial line in one symbol. The hut line is recessive only when no station drives it (R2). On the label line
dominant stands for low and recessive for high (R32). -/
inductive Level where
  | dominant | recessive
deriving DecidableEq, Repr

/-- An octet as a receiver takes it from a serial line, with whether a dominant (low) level stood where its stop symbol
was due (R2, R32). -/
structure RxOctet where
  data : Octet
  framing : Bool
deriving DecidableEq, Repr

/-- The fields of Figure 91 as the configuration memory stores them, before any clamp (R188, R189). Roles and enables are
stored values, off when 0. Polarize time is in tenths and gate time in hundredths of a second. -/
structure RawFields where
  vectorRole : Nat
  scalarRole : Nat
  thermalRole : Nat
  timePulse : Nat
  lineDelay : Int
  holdoverLimit : Int
  gain : Axes Int
  coarseStep : Axes Int
  fineStep : Axes Int
  retuneBand : Int
  cyclePeriod : Int
  polarizeTime : Int
  gateTime : Int
  scalarPeer : Int
  acqPeriod : Int
  slope : Channels Int
  intercept : Channels Int
  hot : Channels Int
  cool : Channels Int
  queueCode : Channels Int
  completeness : Int
  t0 : Int
  ks : Axes Int
  ko : Axes Int
  substitutePeer : Int
  slowBeta : Int
  fastBeta : Int
  fastBound : Int
  watchThreshold : Int
  releaseThreshold : Int
  onsetCount : Int
  easeCount : Int
  maxDisturbed : Int
  deltaFLimit : Int
  /-- bit c − 1 admits the event kind with code c of Figure 9 -/
  eventMask : BitVec 12
deriving DecidableEq, Repr

/-- The content of the configuration memory: its 192 octets, and the field values those octets spell, because the manual
gives no octet layout of the start-up record (log 3). -/
structure MemoryRecord where
  octets : List Octet
  fields : RawFields
deriving DecidableEq, Repr

/-- The commands, one per row of spec/opcode_table.json, in the table's order. A default of an operand only abbreviates a command
written without it; the model itself uses none. -/
inductive Instr where
  /-- POWER_ON (R190): the straps as they stand, and what the configuration memory holds (none: it does not respond). -/
  | powerOn (straps : StationId) (memory : Option MemoryRecord)
  /-- LINE_ACTIVITY_START (R5) -/
  | lineActivityStart
  /-- LINE_IDLE (R5) -/
  | lineIdle
  /-- LINE_STUCK (R5) -/
  | lineStuck
  /-- SPREAD_END (R7) -/
  | spreadEnd
  /-- COLLISION (R8, R9): the levels read back in the attempt, one per symbol driven so far. -/
  | collision (readBack : List Level := [])
  /-- JAM_END (R9): what the configuration memory holds, should a restart answer be abandoned (R19, R191). -/
  | jamEnd (memory : Option MemoryRecord := none)
  /-- BACKOFF_END (R9) -/
  | backoffEnd
  /-- FRAME_SENT (R8): what the configuration memory holds, should the frame be a restart answer (R19, R191). -/
  | frameSent (memory : Option MemoryRecord := none)
  /-- JABBER_CUT (R10): what the configuration memory holds, should a restart answer be abandoned (R19, R191). -/
  | jabberCut (memory : Option MemoryRecord := none)
  /-- JABBER_SILENCE_END (R10) -/
  | jabberSilenceEnd
  /-- JOIN_LISTEN_END (R20) -/
  | joinListenEnd
  /-- FRAME_RECEIVED (R2, R13): the levels of the run, one per symbol, from its first start symbol on, and what the
  configuration memory holds, should a restart answer be abandoned (R14, R191). -/
  | frameReceived (levels : List Level) (memory : Option MemoryRecord := none)
  /-- DISPATCH (R16) -/
  | dispatch
  /-- QUERY_EXPIRY (R17) -/
  | queryExpiry
  /-- ANNOUNCE_POINT (R18) -/
  | announcePoint
  /-- ANSWER_EXPIRY (R19): the slot whose READY answer has waited more than 1 s, and what the configuration memory holds,
  should it be a restart answer (R191). -/
  | answerExpiry (slot : SlotName) (memory : Option MemoryRecord := none)
  /-- READ_SECONDS (R184) -/
  | readSeconds
  /-- READ_MINUTES (R184) -/
  | readMinutes
  /-- STATUS (R185) -/
  | status
  /-- PEERS (R185) -/
  | peers
  /-- RECENTER (R89) -/
  | recenter
  /-- RESEED (R172) -/
  | reseed
  /-- RESTART (R19) -/
  | restart
  /-- UNKNOWN_REQUEST (R183) -/
  | unknownRequest
  /-- ANNOUNCE_HANDLED (R50) -/
  | announceHandled
  /-- SECOND_MARK (R24): the blocks that take their mark notice inside this step, in the order they take it; the notices of
  the others wait. -/
  | secondMark (now : List MarkBlock)
  /-- ENTRY_STALE (R48, R49) -/
  | entryStale
  /-- ENTRY_REMOVED (R49) -/
  | entryRemoved
  /-- HOLDOVER_EXPIRY (R72) -/
  | holdoverExpiry
  /-- HOLDOFF_END (R81) -/
  | holdoffEnd
  /-- PENDING_EXPIRY (R158) -/
  | pendingExpiry
  /-- HELD_F_LAPSE (R157) -/
  | heldFLapse
  /-- DISTURBED_TIME_EXCEEDED (R171) -/
  | disturbedTimeExceeded
  /-- SECOND_MARK_OUTPUT_END (R28) -/
  | secondMarkOutputEnd
  /-- SAMPLE_INSTANT (R30): the instant number and the residual counts then present. -/
  | sampleInstant (k : Instant) (residual : Axes (BitVec 24))
  /-- SETTLE_COMPLETE (R93): the instant that is the 32nd blanked one, and the residual counts then present. -/
  | settleComplete (k : Instant) (residual : Axes (BitVec 24))
  /-- PULSE_EDGE (R31) -/
  | pulseEdge
  /-- EDGE_WINDOW_END (R31) -/
  | edgeWindowEnd
  /-- LABEL_GAP_END (R32) -/
  | labelGapEnd
  /-- EDGE_AGE_LIMIT (R34) -/
  | edgeAgeLimit
  /-- LABEL_AGE_LIMIT (R34) -/
  | labelAgeLimit
  /-- DRIVE_GOOD_APPEARS (R77) -/
  | driveGoodAppears
  /-- DRIVE_START_TIMEOUT (R77) -/
  | driveStartTimeout
  /-- LOOP_GOOD_APPEARS (R78) -/
  | loopGoodAppears
  /-- LOOP_START_TIMEOUT (R78) -/
  | loopStartTimeout
  /-- DRIVE_GOOD_LOST (R80) -/
  | driveGoodLost
  /-- LOOP_GOOD_LOST (R80): whether drive-good is lost at the same moment. -/
  | loopGoodLost (driveLostToo : Bool)
  /-- POLARIZE_EXPIRY (R100) -/
  | polarizeExpiry
  /-- POLARIZE_CURRENT_FAULT (R101): the level of the indication from now on; the row's event is `true`. -/
  | polarizeCurrentFault (present : Bool)
  /-- DEAD_EXPIRY (R102) -/
  | deadExpiry
  /-- RISING_CROSSING (R104) -/
  | risingCrossing
  /-- SIGNAL_DETECT_LOST (R105): whether signal-detect is absent from now on; the row's event is `true`. -/
  | signalDetectLost (absent : Bool)
  /-- GATE_EXPIRY (R106) -/
  | gateExpiry
  /-- TU_SETTLE_EXPIRY (R114) -/
  | tuSettleExpiry
  /-- CONVERSION_COMPLETE (R114): the codes of the two channels. -/
  | conversionComplete (sensorCode pierCode : BitVec 16)
  /-- DIVIDE_COMPLETE (R145) -/
  | divideComplete
  /-- ROOT_COMPLETE (R153) -/
  | rootComplete
  /-- RESET_ASSERTED (R190) -/
  | resetAsserted
  /-- LABEL_OCTET_RECEIVED (R32): the levels of successive bits of an octet on the label line, from its start bit to its stop bit or a
  part of them (log 9). -/
  | labelOctetReceived (levels : List Level)
deriving DecidableEq, Repr

end Sys2Proof
end

