-- ==== Sys2Proof/WellFormed.lean ====
section
/-! DEFINITION. Which terms of `Instr` are commands of the node: the checks that the operand types do not make. -/

namespace Sys2Proof

/-- The configuration memory holds 192 octets (chapter 12). -/
def MemoryRecord.wf (m : MemoryRecord) : Bool :=
  m.octets.length == 192

/-- A block takes one mark notice per mark (R29): no block is named twice. -/
def MarkBlock.orderWf (now : List MarkBlock) : Bool :=
  decide now.Nodup

/-- What the configuration memory holds, if it responds. -/
def MemoryRecord.readWf (memory : Option MemoryRecord) : Bool :=
  memory.all MemoryRecord.wf

/-- A received run opens with a start symbol, which is dominant (R2, R13). -/
def Level.runWf (levels : List Level) : Bool :=
  levels.head? == some .dominant

/-- A symbol has been read back when a collision is found (R8). -/
def Level.readBackWf (readBack : List Level) : Bool :=
  !readBack.isEmpty

/-- An octet of the label line has ten bits, and a command brings one or more of them (R32). -/
def Level.octetWf (levels : List Level) : Bool :=
  !levels.isEmpty && decide (levels.length ≤ 10)

/-- A well-formed command. -/
def Instr.wf : Instr → Bool
  | .powerOn _ memory | .jamEnd memory | .frameSent memory | .jabberCut memory | .answerExpiry _ memory =>
    MemoryRecord.readWf memory
  | .secondMark now => MarkBlock.orderWf now
  | .frameReceived levels memory => Level.runWf levels && MemoryRecord.readWf memory
  | .collision readBack => Level.readBackWf readBack
  | .labelOctetReceived levels => Level.octetWf levels
  | .lineActivityStart | .lineIdle | .lineStuck | .spreadEnd | .backoffEnd | .jabberSilenceEnd | .joinListenEnd | .dispatch | .queryExpiry | .announcePoint
  | .readSeconds | .readMinutes | .status | .peers | .recenter | .reseed | .restart | .unknownRequest
  | .announceHandled | .entryStale | .entryRemoved | .holdoverExpiry | .holdoffEnd | .pendingExpiry | .heldFLapse
  | .disturbedTimeExceeded | .secondMarkOutputEnd | .sampleInstant _ _ | .settleComplete _ _ | .pulseEdge
  | .edgeWindowEnd | .labelGapEnd | .edgeAgeLimit | .labelAgeLimit | .driveGoodAppears | .driveStartTimeout
  | .loopGoodAppears | .loopStartTimeout | .driveGoodLost | .loopGoodLost _ | .polarizeExpiry
  | .polarizeCurrentFault _ | .deadExpiry | .risingCrossing | .signalDetectLost _ | .gateExpiry | .tuSettleExpiry
  | .conversionComplete _ _ | .divideComplete | .rootComplete | .resetAsserted => true

end Sys2Proof
end

