-- ==== Sys2Proof/Machine/State.lean ====
section
/-! DEFINITION. The state of the node as plain data, block by block as the manual's state figures give it, and its value
after reset. Timers are in periods of the local oscillator, 100 ns each (R1). -/

namespace Sys2Proof.Machine

/-! ## Clock readings -/

/-- A reading of the local clock kept by the block that took it (R23). -/
structure Stamp where
  second : Second
  tick : Nat
  epoch : Epoch
deriving DecidableEq, Repr

/-- A mark notice sent by TB and not yet taken by its block (R29). -/
structure MarkNotice where
  block : MarkBlock
  second : Second
  epoch : Epoch
deriving DecidableEq, Repr

/-- An instant notice sent by TB and not yet taken by the VFE and RE (R30). -/
structure InstantNotice where
  k : Instant
  second : Second
  epoch : Epoch
deriving DecidableEq, Repr

/-! ## Names shared by several blocks -/

/-- BW's station disturbance state (R167, R169), in the order of the codes of Figure 8. -/
inductive Disturbance where
  | quiet | onset | disturbed | easing
deriving DecidableEq, Repr

/-- A time source: the own pulse or one peer (R51). -/
inductive Reference where
  | pulse
  | peer (id : StationId)
deriving DecidableEq, Repr

/-- The 12 event kinds of Figure 9, in the order of their codes. -/
inductive EventKind where
  | disturbanceOnset | disturbanceEnd | baselineReseed | thermalStart | thermalEnd | sensorFault
  | retune | deltaFStart | deltaFEnd | referenceChange | clockStep | frontEndFault
deriving DecidableEq, Repr

/-- An event with the full second number its raising rule gives it (R182). -/
structure Event where
  kind : EventKind
  second : Second
deriving DecidableEq, Repr

/-- The clamp flag of a temperature (R119). -/
inductive ClampFlag where
  | none | low | high
deriving DecidableEq, Repr

/-- A temperature in centidegrees with its clamp flag. -/
structure TempValue where
  value : Int
  clamp : ClampFlag
deriving DecidableEq, Repr

/-- The compensation settings of one axis (R76). -/
structure Settings where
  coarse : Int
  fine : Int
deriving DecidableEq, Repr

/-- DU's discipline state (Figure 29). -/
inductive DisciplineState where
  | freeRoot | acquire | locked | holdover
deriving DecidableEq, Repr

/-! ## Start-up record -/

/-- The image in use: Figure 91 after every clamp and correction (R188, R189). -/
structure Image where
  vectorRole : Bool
  scalarRole : Bool
  thermalRole : Bool
  timePulse : Bool
  lineDelay : Int
  holdoverLimit : Nat
  gain : Axes Int
  coarseStep : Axes Int
  fineStep : Axes Int
  retuneBand : Int
  /-- seconds -/
  cyclePeriod : Nat
  /-- tenths of a second -/
  polarizeTime : Nat
  /-- hundredths of a second -/
  gateTime : Nat
  scalarPeer : StationId
  /-- seconds -/
  acqPeriod : Nat
  slope : Channels Int
  intercept : Channels Int
  hot : Channels Int
  cool : Channels Int
  queueCode : Channels Nat
  completeness : Nat
  t0 : Int
  ks : Axes Int
  ko : Axes Int
  substitutePeer : StationId
  slowBeta : Nat
  fastBeta : Nat
  fastBound : Int
  watchThreshold : Int
  releaseThreshold : Int
  onsetCount : Nat
  easeCount : Nat
  maxDisturbed : Nat
  deltaFLimit : Int
  eventMask : BitVec 12
deriving DecidableEq, Repr

/-- The default record: every field at the default of Figure 91 (R188). -/
def Image.default : Image where
  vectorRole := false
  scalarRole := false
  thermalRole := false
  timePulse := false
  lineDelay := 0
  holdoverLimit := 3600
  gain := ⟨23438, 23438, 23438⟩
  coarseStep := ⟨2000000, 2000000, 2000000⟩
  fineStep := ⟨10000, 10000, 10000⟩
  retuneBand := 2000000
  cyclePeriod := 5
  polarizeTime := 15
  gateTime := 50
  scalarPeer := 0
  acqPeriod := 10
  slope := ⟨12000, 12000⟩
  intercept := ⟨-5000, -5000⟩
  hot := ⟨4000, 4000⟩
  cool := ⟨3500, 3500⟩
  queueCode := ⟨1, 1⟩
  completeness := 96
  t0 := 2000
  ks := ⟨0, 0, 0⟩
  ko := ⟨0, 0, 0⟩
  substitutePeer := 0
  slowBeta := 10
  fastBeta := 5
  fastBound := 20000
  watchThreshold := 200000
  releaseThreshold := 100000
  onsetCount := 5
  easeCount := 60
  maxDisturbed := 7200
  deltaFLimit := 2000
  eventMask := 0xFFF

/-- The Start-Up Loader (chapter 12). -/
structure SUL where
  image : Image
  stationId : StationId
  clampCount : Nat
  /-- the latched flag CONFIG_DEFAULTS -/
  configDefaults : Bool
  /-- the image in use is the default record (R188) -/
  isDefault : Bool
deriving DecidableEq, Repr

/-- SUL after a power-on whose memory does not respond (R188), with the straps at 0. DESIGN CHOICE (log 1). -/
def SUL.reset : SUL where
  image := Image.default
  stationId := 0
  clampCount := 0
  configDefaults := true
  isDefault := true

/-! ## Timebase -/

/-- The correction schedule of the current second (R26, R27): the signed count c, positive for inserted corrections, and
how many of the |c| have been made. -/
structure Schedule where
  count : Int
  made : Nat
deriving DecidableEq, Repr

/-- The last accepted time-pulse edge (R31): its stamp (R23) and its age on the oscillator. -/
structure Edge where
  stamp : Stamp
  age : Nat
deriving DecidableEq, Repr

/-- Where the receiver of a serial line stands between two symbols (R2, R32): a dominant level where a stop symbol was due has still
to end, the line is recessive and the next dominant level is a start symbol, or the data levels of an octet taken so far. -/
inductive RxPhase where
  | held
  | ready
  | data (taken : List Level)
deriving DecidableEq, Repr

/-- A label run in progress (R32): the octets received of it in order, and what is left of the 10 ms idle gap, which runs from the
last stop bit while no octet is being received. -/
structure LabelRun where
  octets : List RxOctet
  gap : Nat
deriving DecidableEq, Repr

/-- The Timebase (Figure 17). -/
structure TB where
  second : Second
  tick : Nat
  epoch : Epoch
  trim : Int
  slew : Option Int
  rate : Int
  schedule : Option Schedule
  remainder : Int
  output : Option Nat
  edge : Option Edge
  edgeWindow : Option Nat
  /-- the receiver of the label line (R32) -/
  labelPhase : RxPhase
  label : Option LabelRun
  /-- what is left of the idle gap that the label line still lacks after a run was cut short (R32); none: a run may begin -/
  labelTail : Option Nat
  pendingLabel : Option Second
  lastLabel : Option Second
  labelAge : Option Nat
  present : Bool
  extraEdge : Nat
  labelReject : Nat
deriving DecidableEq, Repr

/-- TB after power-on (Figure 22). -/
def TB.reset : TB where
  second := 0
  tick := 0
  epoch := 0
  trim := 0
  slew := none
  rate := 0
  schedule := none
  remainder := 0
  output := none
  edge := none
  edgeWindow := none
  labelPhase := .ready
  label := none
  labelTail := none
  pendingLabel := none
  lastLabel := none
  labelAge := none
  present := false
  extraEdge := 0
  labelReject := 0

/-! ## Peer Table -/

/-- Standing of a peer entry (Figure 24). -/
inductive EntryState where
  | heard | usable | stale
deriving DecidableEq, Repr

/-- The abilities an announcement carries (Figure 8). -/
structure Abilities where
  vector : Bool
  scalar : Bool
  thermal : Bool
  pulse : Bool
deriving DecidableEq, Repr

/-- A peer's last announced total field or sensor temperature (Figure 23): value, second number, age in marks. -/
structure PeerValue where
  value : Int
  second : Second
  age : Nat
deriving DecidableEq, Repr

/-- A peer entry (Figure 23). -/
structure PeerEntry where
  id : StationId
  state : EntryState
  abilities : Abilities
  cls : Nat
  root : StationId
  depth : Nat
  locked : Bool
  reference : Option Reference
  errorBound : Nat
  lastSequence : BitVec 8
  consecutive : Nat
  missed : Nat
  lastArrival : Stamp
  offset : Option Int
  spread : Int
  rebase : Bool
  marksSince : Nat
  latestF : Option PeerValue
  latestTemp : Option PeerValue
  disturbance : Disturbance
  retuning : Bool
deriving DecidableEq, Repr

/-- The Peer Table: its entries in ascending order of id (R41). -/
structure PT where
  entries : List PeerEntry
  reject : Nat
deriving DecidableEq, Repr

/-- PT after power-on (R57). -/
def PT.reset : PT where
  entries := []
  reject := 0

/-! ## Discipline Unit -/

/-- The Discipline Unit (Figure 29). The locked flag and the reference id of the advertisement follow `state` and
`reference` at every moment (R51). -/
structure DU where
  state : DisciplineState
  reference : Option Reference
  f : Int
  lockCount : Nat
  outlierRun : Nat
  holdoverAge : Nat
  boundAtEntry : Option Nat
  heldClass : Option Nat
  errorBound : Nat
  /-- the fixed class of the advertisement -/
  cls : Nat
  /-- the fixed root id of the advertisement -/
  root : StationId
  /-- the fixed depth of the advertisement -/
  depth : Nat
  steps : Nat
  relabels : Nat
  outliers : Nat
  trimLimit : Bool
deriving DecidableEq, Repr

/-- DU after power-on (Figure 30, R57): root id is the node's own id. -/
def DU.reset (own : StationId) : DU where
  state := .freeRoot
  reference := none
  f := 0
  lockCount := 0
  outlierRun := 0
  holdoverAge := 0
  boundAtEntry := none
  heldClass := none
  errorBound := 65535
  cls := 2
  root := own
  depth := 0
  steps := 0
  relabels := 0
  outliers := 0
  trimLimit := false

/-! ## Vector Front End -/

/-- Front-end states (Figure 40). -/
inductive VfeState where
  | off | driveStart | loopStart | running | retuning | faulted
deriving DecidableEq, Repr

/-- Cause of the latest entry to FAULTED (R80). -/
inductive FaultCause where
  | driveTimeout | loopTimeout | driveLost | loopLost
deriving DecidableEq, Repr

/-- Sign of a clipped sample (R83). -/
inductive Sign where
  | positive | negative
deriving DecidableEq, Repr

/-- The Vector Front End (Figure 38), with the two drives it commands (Figure 40). -/
structure VFE where
  state : VfeState
  settings : Axes Settings
  timer : Option Nat
  holdoff : Nat
  cause : Option FaultCause
  bandRun : Axes Nat
  clipRun : Axes Nat
  lastClip : Axes (Option Sign)
  request : Bool
  blank : Nat
  excitation : Bool
  loop : Bool
  faults : Nat
  retunes : Nat
  clipped : Nat
  bandInhibit : Nat
deriving DecidableEq, Repr

/-- The settings that stand at 0 on every axis (R77). -/
def Settings.zero : Axes Settings :=
  ⟨⟨0, 0⟩, ⟨0, 0⟩, ⟨0, 0⟩⟩

/-- The VFE after a power-on with the vector role off (Figure 45). -/
def VFE.reset : VFE where
  state := .off
  settings := Settings.zero
  timer := none
  holdoff := 0
  cause := none
  bandRun := ⟨0, 0, 0⟩
  clipRun := ⟨0, 0, 0⟩
  lastClip := ⟨none, none, none⟩
  request := false
  blank := 0
  excitation := false
  loop := false
  faults := 0
  retunes := 0
  clipped := 0
  bandInhibit := 0

/-! ## Scalar Counter -/

/-- Cycle states (Figure 46). -/
inductive ScnState where
  | off | wait | polarize | dead | gate | compute | faulted
deriving DecidableEq, Repr

/-- Result of the latest ended cycle (Figures 46, 49). -/
inductive ScnOutcome where
  | f | noSignal | fewCycles | range | stepAbort | polarizeFault
deriving DecidableEq, Repr

/-- A total field with the second and epoch it is labelled with (R107). -/
structure FValue where
  value : Int
  second : Second
  epoch : Epoch
deriving DecidableEq, Repr

/-- The Scalar Counter (Figure 46), with the polarize current it drives. -/
structure SCN where
  state : ScnState
  timer : Option Nat
  current : Bool
  first : Option Stamp
  last : Option Stamp
  n : Nat
  t : Nat
  mid : Option (Second × Epoch)
  latestF : Option FValue
  outcome : Option ScnOutcome
  fCount : Nat
  absent : Nat
  faults : Nat
deriving DecidableEq, Repr

/-- SCN after a power-on with the scalar role off (Figure 53). -/
def SCN.reset : SCN where
  state := .off
  timer := none
  current := false
  first := none
  last := none
  n := 0
  t := 0
  mid := none
  latestF := none
  outcome := none
  fCount := 0
  absent := 0
  faults := 0

/-! ## Temperature Unit -/

/-- Acquisition states (Figure 54). -/
inductive TuState where
  | off | wait | settle | convert
deriving DecidableEq, Repr

/-- Excursion states (Figure 57). -/
inductive WatchState where
  | normal | counting | excursion
deriving DecidableEq, Repr

/-- A channel's latest reading (R120). -/
structure Reading where
  value : Int
  clamp : ClampFlag
  second : Second
  epoch : Epoch
  age : Nat
deriving DecidableEq, Repr

/-- One temperature channel (Figure 54). -/
structure TempChannel where
  reading : Option Reading
  /-- the channel condition is FAULTED -/
  faulted : Bool
  faultRun : Nat
  watch : WatchState
  queue : Nat
  code : Option (BitVec 16)
  faultedReadings : Nat
  clampedReadings : Nat
deriving DecidableEq, Repr

/-- A channel after reset (Figure 60). -/
def TempChannel.reset : TempChannel where
  reading := none
  faulted := false
  faultRun := 0
  watch := .normal
  queue := 0
  code := none
  faultedReadings := 0
  clampedReadings := 0

/-- The Temperature Unit (Figure 54), with the bias current it drives. -/
structure TU where
  state : TuState
  timer : Option Nat
  bias : Bool
  sensor : TempChannel
  pier : TempChannel
deriving DecidableEq, Repr

/-- TU after a power-on with the thermal role off (Figure 60). -/
def TU.reset : TU where
  state := .off
  timer := none
  bias := false
  sensor := TempChannel.reset
  pier := TempChannel.reset

/-! ## Second records -/

/-- The flags of a second record (Figure 87). -/
structure RecordFlags where
  clip : Bool
  blank : Bool
  incomplete : Bool
  step : Bool
  relabel : Bool
  retuned : Bool
  range : Bool
  noTcorr : Bool
  thermal : Bool
  disturbed : Bool
  arith : Bool
  restart : Bool
deriving DecidableEq, Repr

/-- Source of the correction temperature (Figure 66). -/
inductive TcorrSource where
  | localReading | peer | held | none
deriving DecidableEq, Repr

/-- The reason of a record's ΔF (Figure 76). -/
inductive DeltaFReason where
  | matched | noF | noVector | displaced | restart
deriving DecidableEq, Repr

/-- One axis of a second record: its corrected value, if present, and n. -/
structure AxisField where
  value : Option Int
  n : Nat
deriving DecidableEq, Repr

/-- A SENSOR or PIER reading as a record carries it: value, clamp flag, second number. -/
structure RecordReading where
  value : Int
  clamp : ClampFlag
  second : Second
deriving DecidableEq, Repr

/-- A second record (Figure 87). -/
structure SecondRecord where
  sequence : Sequence
  epoch : Epoch
  second : Second
  /-- FINAL; PROVISIONAL otherwise -/
  final : Bool
  flags : RecordFlags
  axes : Axes AxisField
  settings : Option (Axes Settings)
  tcorr : Option TempValue
  tsource : TcorrSource
  sensor : Option RecordReading
  pier : Option RecordReading
  discipline : DisciplineState
  errorBound : Nat
  disturbance : Disturbance
  magnitude : Option Int
  f : Option Int
  deltaF : Option Int
  reason : Option DeltaFReason
  ownF : Option Int
deriving DecidableEq, Repr

/-! ## Reduction Engine -/

/-- An axis sum (R130): a signed 48-bit value held as a 32-bit low part and a 16-bit signed extension. -/
structure Sum48 where
  low : BitVec 32
  ext : BitVec 16
deriving DecidableEq, Repr

/-- The sticky flags of the current second (R128). -/
structure StickyFlags where
  clip : Bool
  blank : Bool
  step : Bool
  relabel : Bool
  retuned : Bool
deriving DecidableEq, Repr

/-- Where an axis chain of a record stands (R138 to R141): not started, a DIVIDE placed for the mean, for the scale term
(with the mean), for the offset term (with the mean and the scale term), or ended. -/
inductive ChainStep where
  | waiting
  | mean
  | scale (mean : Int)
  | offset (mean scaleTerm : Int)
  | ended
deriving DecidableEq, Repr

/-- A closed record whose axis chains have not all ended (R138). -/
structure ChainRecord where
  sequence : Sequence
  epoch : Epoch
  second : Second
  sums : Axes Sum48
  n : Axes Nat
  clipped : Axes Nat
  /-- the value of the correction temperature; none with source NONE -/
  tcorr : Option Int
  steps : Axes ChainStep
  means : Axes (Option Int)
  values : Axes (Option Int)
  /-- the residual report has been handed to the VFE (R139) -/
  reported : Bool
  flags : RecordFlags
deriving DecidableEq, Repr

/-- The held correction temperature (R137). -/
structure HeldTemp where
  value : Int
  clamp : ClampFlag
  age : Nat
deriving DecidableEq, Repr

/-- The vector summary of the newest record whose axis chains have all ended (R4, R142). -/
structure VectorSummary where
  /-- the sequence of the record -/
  sequence : Sequence
  second : Second
  values : Axes (Option Int)
deriving DecidableEq, Repr

/-- The Reduction Engine (Figure 62). -/
structure RE where
  /-- OPEN; PASSED otherwise -/
  isOpen : Bool
  second : Second
  epoch : Epoch
  taken : List Instant
  sums : Axes Sum48
  n : Axes Nat
  clipped : Axes Nat
  blanked : Axes Nat
  sticky : StickyFlags
  attached : Option (Axes Settings)
  latest : Option (Axes Settings)
  chain : List ChainRecord
  held : Option HeldTemp
  summary : Option VectorSummary
  rangeClamp : Nat
  chainOverflow : Nat
deriving DecidableEq, Repr

/-- A sum of 0. -/
def Sum48.zero : Sum48 := ⟨0, 0⟩

/-- No sticky flag. -/
def StickyFlags.clear : StickyFlags := ⟨false, false, false, false, false⟩

/-- RE after power-on (Figure 72): second 0 of epoch 0, OPEN. -/
def RE.reset : RE where
  isOpen := true
  second := 0
  epoch := 0
  taken := []
  sums := ⟨Sum48.zero, Sum48.zero, Sum48.zero⟩
  n := ⟨0, 0, 0⟩
  clipped := ⟨0, 0, 0⟩
  blanked := ⟨0, 0, 0⟩
  sticky := StickyFlags.clear
  attached := none
  latest := none
  chain := []
  held := none
  summary := none
  rangeClamp := 0
  chainOverflow := 0

/-! ## Divide and Root Unit -/

/-- The six clients of the DRU (Figure 67). -/
inductive Client where
  | axis (a : Axis)
  | magnitude
  | scalar
  | minute
deriving DecidableEq, Repr

/-- The two operations of the DRU with their operands (R145). -/
inductive Operation where
  | divide (dividend : Int) (divisor : Nat)
  | root (radicand : Nat)
deriving DecidableEq, Repr

/-- A request in the DRU (Figure 68). -/
structure Request where
  client : Client
  op : Operation
deriving DecidableEq, Repr

/-- The operation in progress with the oscillator periods it still takes, 5 per step (R145). -/
structure InProgress where
  request : Request
  left : Nat
deriving DecidableEq, Repr

/-- The Divide and Root Unit (Figure 68). -/
structure DRU where
  queue : List Request
  current : Option InProgress
  divideFault : Nat
deriving DecidableEq, Repr

/-- The DRU after power-on (R147). -/
def DRU.reset : DRU where
  queue := []
  current := none
  divideFault := 0

/-! ## Magnitude and Delta-F Matcher -/

/-- The scalar source (R154). -/
inductive Source where
  | own
  | configured (id : StationId)
  | automatic (id : StationId)
  | none
deriving DecidableEq, Repr

/-- An entry of the pending-magnitude list (Figure 73). -/
structure PendingEntry where
  sequence : Sequence
  epoch : Epoch
  second : Second
  radicand : Nat
  magnitude : Option Int
  earlyF : Option Int
  marks : Nat
deriving DecidableEq, Repr

/-- The held F (R157): value, second number, marks remaining. -/
structure HeldF where
  value : Int
  second : Second
  marks : Nat
deriving DecidableEq, Repr

/-- The latest F taken from the source (R155). -/
structure LatestF where
  value : Int
  second : Second
  source : Source
deriving DecidableEq, Repr

/-- The Magnitude and Delta-F Matcher (Figure 73). -/
structure MDM where
  source : Source
  list : List PendingEntry
  /-- the sequence of the entry whose ROOT request is with the DRU -/
  root : Option Sequence
  heldF : Option HeldF
  latestF : Option LatestF
  matched : Nat
  expired : Nat
  displaced : Nat
  unmatched : Nat
  rejected : Nat
deriving DecidableEq, Repr

/-- MDM after a power-on with the default record (Figure 78): the source is AUTOMATIC and NONE until the first mark. -/
def MDM.reset : MDM where
  source := .none
  list := []
  root := none
  heldF := none
  latestF := none
  matched := 0
  expired := 0
  displaced := 0
  unmatched := 0
  rejected := 0

/-! ## Baseline Watch -/

/-- The judgement of one axis (Figure 81). -/
inductive Judgement where
  | quiet | active
deriving DecidableEq, Repr

/-- What BW keeps of one axis (Figure 79). -/
structure AxisWatch where
  baseline : Option Int
  latest : Option Int
  deviation : Option Int
  judgement : Option Judgement
deriving DecidableEq, Repr

/-- An unseeded axis (R176). -/
def AxisWatch.unseeded : AxisWatch := ⟨none, none, none, none⟩

/-- The Baseline Watch (Figure 79). -/
structure BW where
  axes : Axes AxisWatch
  state : Disturbance
  onsetRun : Nat
  easeRun : Nat
  disturbedTime : Nat
  ldf : Option Int
  /-- the ΔF watch is in EXCURSION -/
  excursion : Bool
  outside : Nat
  inside : Nat
  excluded : Nat
  reseeds : Nat
deriving DecidableEq, Repr

/-- BW after power-on (Figure 86). -/
def BW.reset : BW where
  axes := ⟨AxisWatch.unseeded, AxisWatch.unseeded, AxisWatch.unseeded⟩
  state := .quiet
  onsetRun := 0
  easeRun := 0
  disturbedTime := 0
  ldf := none
  excursion := false
  outside := 0
  inside := 0
  excluded := 0
  reseeds := 0

/-! ## Record Store -/

/-- A minute: its epoch and its number, the second number divided by 60 (R180). -/
structure Minute where
  epoch : Epoch
  number : Nat
deriving DecidableEq, Repr

/-- The five quantities of a minute record, in the order their DIVIDE requests are placed (R180). -/
inductive Quantity where
  | axis (a : Axis)
  | f
  | deltaF
deriving DecidableEq, Repr

/-- A count of present values and their mean (R181). -/
structure MeanField where
  count : Nat
  mean : Option Int
deriving DecidableEq, Repr

/-- A minute record without its sequence: what the builder gathers and what the DRU returns (R180, R181). -/
structure MinuteBody where
  minute : Minute
  held : Nat
  axes : Axes MeanField
  f : MeanField
  deltaF : MeanField
  flags : RecordFlags
deriving DecidableEq, Repr

/-- A minute record (R181). -/
structure MinuteRecord where
  sequence : Sequence
  body : MinuteBody
deriving DecidableEq, Repr

/-- A division the builder has still to see answered: the quantity, its sum and its count. -/
structure MinuteDivision where
  quantity : Quantity
  sum : Int
  count : Nat
deriving DecidableEq, Repr

/-- The minute being built (R180): what is gathered so far, and the divisions left, the first of them with the DRU. -/
structure MinuteBuild where
  body : MinuteBody
  todo : List MinuteDivision
deriving DecidableEq, Repr

/-- The Record Store (chapter 11). -/
structure RS where
  /-- oldest first, at most 1,024 -/
  seconds : List SecondRecord
  /-- oldest first, at most 512 -/
  minutes : List MinuteRecord
  /-- oldest first, at most 8 -/
  events : List Event
  /-- how many entries at the front of the event list the announcement attempt in flight carries (R11) -/
  carried : Nat
  pendingF : Option FValue
  current : Option Minute
  /-- oldest first, at most 16 -/
  buildList : List Minute
  build : Option MinuteBuild
  /-- the MINUTE request with the DRU is of a dropped head: its result is discarded (R180) -/
  discard : Bool
  eventsLost : Nat
  minuteLost : Nat
deriving DecidableEq, Repr

/-- RS after power-on (Figure 90). -/
def RS.reset : RS where
  seconds := []
  minutes := []
  events := []
  carried := 0
  pendingF := none
  current := none
  buildList := []
  build := none
  discard := false
  eventsLost := 0
  minuteLost := 0

/-! ## Line Controller -/

/-- The line monitor (R5). -/
inductive Monitor where
  | idle | busy | stuck
deriving DecidableEq, Repr

/-- The three frame kinds (Figure 7). -/
inductive FrameKind where
  | announce | query | answer
deriving DecidableEq, Repr

/-- An announcement the node composes (Figure 8). The departure stamp and the events are written at each attempt (R11). -/
structure Announcement where
  sequence : BitVec 8
  departureSecond : Second
  departureTick : Nat
  abilities : Abilities
  cls : Nat
  root : StationId
  depth : Nat
  locked : Bool
  reference : Option Reference
  errorBound : Nat
  disturbance : Disturbance
  retuning : Bool
  vectorSecond : Second
  vector : Axes (Option Int)
  f : Option (Second × Int)
  sensor : Option (Second × Int)
  pier : Option (Second × Int)
  events : List Event
deriving DecidableEq, Repr

/-- Result codes of an answer, in the order of their codes 0..5 (R183). -/
inductive ResultCode where
  | ok | badRequest | gone | notYet | busy | notRole
deriving DecidableEq, Repr

/-- LC's part of a STATUS answer (R5, R6, R21). -/
structure LineStatus where
  monitor : Monitor
  slotA : Option (Bool × FrameKind)
  slotB : Option (Bool × FrameKind)
  sendingAttempts : Option Nat
  badFrame : Nat
  ringOverrun : Nat
  queryOverrun : Nat
  queryExpired : Nat
  staleAnnouncement : Nat
  abandoned : Nat
deriving DecidableEq, Repr

/-- The five latched flags of a STATUS answer (R185). -/
structure LatchedFlags where
  stuckSeen : Bool
  jabberSeen : Bool
  trimLimit : Bool
  configDefaults : Bool
  duplicateId : Bool
deriving DecidableEq, Repr

/-- TB's part of a STATUS answer (chapter 02, "Reading the clock from the line"). -/
structure TimeStatus where
  clock : Stamp
  trim : Int
  rate : Int
  present : Bool
  extraEdge : Nat
  labelReject : Nat
deriving DecidableEq, Repr

/-- PT's part of a STATUS answer (chapter 03): announce-reject and the number of entries in each state. -/
structure PeerStatus where
  reject : Nat
  heard : Nat
  usable : Nat
  stale : Nat
deriving DecidableEq, Repr

/-- DU's part of a STATUS answer (R75); TRIM_LIMIT stands among the latched flags. -/
structure DisciplineStatus where
  state : DisciplineState
  reference : Option Reference
  f : Int
  lockCount : Nat
  outlierRun : Nat
  holdoverAge : Nat
  errorBound : Nat
  steps : Nat
  relabels : Nat
  outliers : Nat
deriving DecidableEq, Repr

/-- The VFE's part of a STATUS answer (R95). -/
structure VectorStatus where
  state : VfeState
  cause : Option FaultCause
  settings : Axes Settings
  bandRun : Axes Nat
  clipRun : Axes Nat
  request : Bool
  blank : Nat
  faults : Nat
  retunes : Nat
  clipped : Nat
  bandInhibit : Nat
deriving DecidableEq, Repr

/-- SCN's part of a STATUS answer (R109). -/
structure ScalarStatus where
  state : ScnState
  period : Nat
  outcome : Option ScnOutcome
  n : Nat
  t : Nat
  latestF : Option (Int × Second)
  fCount : Nat
  absent : Nat
  faults : Nat
deriving DecidableEq, Repr

/-- TU's part of a STATUS answer (R124). -/
structure ThermalStatus where
  state : TuState
  period : Nat
  sensor : TempChannel
  pier : TempChannel
deriving DecidableEq, Repr

/-- RE's part of a STATUS answer (chapter 08, Reset). -/
structure ReductionStatus where
  second : Second
  epoch : Epoch
  isOpen : Bool
  taken : Nat
  n : Axes Nat
  clipped : Axes Nat
  blanked : Axes Nat
  sticky : StickyFlags
  chainLength : Nat
  held : Option HeldTemp
  rangeClamp : Nat
  chainOverflow : Nat
deriving DecidableEq, Repr

/-- The DRU's part of a STATUS answer (R146). -/
structure DividerStatus where
  queue : List Client
  current : Option Client
  divideFault : Nat
deriving DecidableEq, Repr

/-- MDM's part of a STATUS answer (R160). -/
structure MatcherStatus where
  source : Source
  entries : Nat
  oldest : Option (Second × Nat)
  heldF : Option HeldF
  latestF : Option LatestF
  matched : Nat
  expired : Nat
  displaced : Nat
  unmatched : Nat
  rejected : Nat
deriving DecidableEq, Repr

/-- What STATUS reports of one axis of BW (R175); the axis is seeded when the baseline is present. -/
structure AxisWatchStatus where
  baseline : Option Int
  deviation : Option Int
  judgement : Option Judgement
deriving DecidableEq, Repr

/-- BW's part of a STATUS answer (R175). -/
structure WatchStatus where
  state : Disturbance
  onsetRun : Nat
  easeRun : Nat
  disturbedTime : Nat
  axes : Axes AxisWatchStatus
  ldf : Option Int
  excursion : Bool
  outside : Nat
  inside : Nat
  slowBeta : Nat
  fastBeta : Nat
  fastBound : Int
  watchThreshold : Int
  releaseThreshold : Int
  onsetCount : Nat
  easeCount : Nat
  maxDisturbed : Nat
  deltaFLimit : Int
  excluded : Nat
  reseeds : Nat
deriving DecidableEq, Repr

/-- RS's part of a STATUS answer (R185). -/
structure StoreStatus where
  oldestSecond : Option Sequence
  newestSecond : Option Sequence
  oldestMinute : Option Sequence
  newestMinute : Option Sequence
  events : Nat
  current : Option Minute
  buildList : Nat
  eventsLost : Nat
  minuteLost : Nat
deriving DecidableEq, Repr

/-- A STATUS answer (R185): every block's state as its chapter lists it, and the latched flags. -/
structure StatusReport where
  stationId : StationId
  clampCount : Nat
  flags : LatchedFlags
  line : LineStatus
  time : TimeStatus
  peers : PeerStatus
  discipline : DisciplineStatus
  vector : VectorStatus
  scalar : ScalarStatus
  thermal : ThermalStatus
  reduction : ReductionStatus
  divider : DividerStatus
  matcher : MatcherStatus
  watch : WatchStatus
  store : StoreStatus
deriving DecidableEq, Repr

/-- An entry as a PEERS answer gives it, with the fields R185 lists. -/
structure PeerReport where
  id : StationId
  state : EntryState
  abilities : Abilities
  cls : Nat
  root : StationId
  depth : Nat
  locked : Bool
  reference : Option Reference
  errorBound : Nat
  lastSequence : BitVec 8
  consecutive : Nat
  missed : Nat
  lastArrival : Stamp
  offset : Option Int
  spread : Int
  marksSince : Nat
  latestF : Option PeerValue
  latestTemp : Option PeerValue
  disturbance : Disturbance
  retuning : Bool
deriving DecidableEq, Repr

/-- What an answer carries beyond its opening fields (R183 to R185). -/
inductive AnswerBody where
  | nothing
  /-- NOT_YET: the newest sequence, or no sequence -/
  | newest (sequence : Option Sequence)
  /-- GONE: the oldest sequence -/
  | oldest (sequence : Sequence)
  | seconds (records : List SecondRecord)
  | minutes (records : List MinuteRecord)
  | status (report : StatusReport)
  | peers (entries : List PeerReport)
deriving DecidableEq, Repr

/-- An answer (R3, R183). `restart` marks the restart answer (R19). `rest` are its body octets after the opening ones. -/
structure Answer where
  dest : StationId
  tag : Octet
  code : Octet
  result : ResultCode
  body : AnswerBody
  restart : Bool
  rest : List Octet
deriving DecidableEq, Repr

/-- A composed frame. -/
inductive Frame where
  | announce (a : Announcement)
  | answer (a : Answer)
deriving DecidableEq, Repr

/-- A transmit slot that is not EMPTY (R6): READY or SENDING, its frame, the attempt count a, and for a READY answer what is
left of its 1 s (R19). -/
structure Slot where
  sending : Bool
  frame : Frame
  attempts : Nat
  expiry : Option Nat
deriving DecidableEq, Repr

/-- Where the SENDING frame stands (R7 to R9). `none` is no SENDING frame. An attempt holds the octets it drives and what is
left of its time. -/
inductive Contention where
  | none
  | waitIdle
  | spread (left : Nat)
  | attempt (left : Nat) (octets : List Octet)
  | jam (left : Nat)
  | backoff (left : Nat)
deriving DecidableEq, Repr

/-- A run of line activity from its first start symbol (R12, R13): the arrival stamp, whether a clock move was ordered after
the stamp (R47), whether it began within the node's own attempt, and whether its frame has been judged. -/
structure RxRun where
  arrival : Stamp
  preMove : Bool
  own : Bool
  judged : Bool
deriving DecidableEq, Repr

/-- An entry of the receive ring (R15); the body length is that of `body`. -/
structure RingEntry where
  kind : FrameKind
  source : StationId
  dest : Octet
  body : List Octet
  arrival : Stamp
  /-- a clock move was ordered after the arrival stamp was taken (R47) -/
  preMove : Bool
deriving DecidableEq, Repr

/-- The held query (R17): source id, body, what is left of its 200 ms. -/
structure HeldQuery where
  source : StationId
  body : List Octet
  left : Nat
deriving DecidableEq, Repr

/-- The Line Controller (Figure 14). -/
structure LC where
  monitor : Monitor
  slotA : Option Slot
  slotB : Option Slot
  /-- the READY slots, the one that became READY earliest first (R6) -/
  readyOrder : List SlotName
  contention : Contention
  /-- how long the line driver has been active without a break (R10) -/
  driverActive : Nat
  rx : Option RxRun
  /-- oldest first, at most 8 -/
  ring : List RingEntry
  /-- the announcement PT is handling; none: the dispatcher is free (R16) -/
  dispatcher : Option RingEntry
  holder : Option HeldQuery
  announceSeq : BitVec 8
  /-- the seconds of the current epoch whose announce point has fallen (R18) -/
  announced : List Second
  joinListen : Option Nat
  silence : Option Nat
  stuckSeen : Bool
  jabberSeen : Bool
  duplicateId : Bool
  badFrame : Nat
  ringOverrun : Nat
  queryOverrun : Nat
  queryExpired : Nat
  staleAnnouncement : Nat
  abandoned : Nat
deriving DecidableEq, Repr

/-- LC after power-on (Figure 14): the monitor in BUSY, the 2 s join listen begun. -/
def LC.reset : LC where
  monitor := .busy
  slotA := none
  slotB := none
  readyOrder := []
  contention := .none
  driverActive := 0
  rx := none
  ring := []
  dispatcher := none
  holder := none
  announceSeq := 0
  announced := []
  joinListen := some 20000000
  silence := none
  stuckSeen := false
  jabberSeen := false
  duplicateId := false
  badFrame := 0
  ringOverrun := 0
  queryOverrun := 0
  queryExpired := 0
  staleAnnouncement := 0
  abandoned := 0

/-! ## The machine -/

/-- The input pins as the outside last gave them, and the configuration memory as the node last read it. -/
structure Pins where
  straps : StationId
  memory : Option MemoryRecord
  driveGood : Bool
  loopGood : Bool
  signalDetect : Bool
  polarizeFault : Bool
  residual : Axes (BitVec 24)
  sensorCode : BitVec 16
  pierCode : BitVec 16
deriving DecidableEq, Repr

/-- The order in which the three axis clients place requests of one moment (R143). -/
inductive AxisOrder where
  | xyz | xzy | yxz | yzx | zxy | zyx
deriving DecidableEq, Repr

/-- The MODEL's own field: which of two actions of one moment inside one command is taken first, where the manual gives no
order (log 5). Every statement holds for every value of it. -/
structure Ties where
  /-- at a clock move RE takes its notice before DU changes its own state (R63, R133) -/
  closeBeforeDu : Bool
  /-- PT's offset notice is taken before its F notice (R50) -/
  offsetBeforeF : Bool
  /-- TU handles SENSOR before PIER (R114) -/
  sensorFirst : Bool
  axisOrder : AxisOrder
deriving DecidableEq, Repr

/-- The state of the node and the queue of the commands that wait. -/
structure State where
  /-- false while RESET is held or the supply is down (R190) -/
  powered : Bool
  pins : Pins
  ties : Ties
  draws : Nat
  notices : List MarkNotice
  instants : List InstantNotice
  lc : LC
  tb : TB
  pt : PT
  du : DU
  vfe : VFE
  scn : SCN
  tu : TU
  re : RE
  dru : DRU
  mdm : MDM
  bw : BW
  rs : RS
  sul : SUL
  pending : List Instr
deriving DecidableEq, Repr

/-- No command of this node ends in a fault: a fault of VFE or SCN, a bad frame or a DIVIDE_FAULT is an effect on State.
Nothing raises it (log 21). -/
inductive Fault
deriving DecidableEq, Repr

/-- Why a command has no meaning. -/
inductive Refusal where
  /-- Raised by an arm of `exec` whose command has no meaning yet. Safe: nothing is claimed of it. No arm raises it now. -/
  | notModelled (mnemonic : String)
deriving DecidableEq, Repr

/-- The pins as the outside gives them at reset: straps 0, a memory that does not respond, no indication. DESIGN CHOICE
(log 1). -/
def Pins.reset : Pins where
  straps := 0
  memory := none
  driveGood := false
  loopGood := false
  signalDetect := false
  polarizeFault := false
  residual := ⟨0, 0, 0⟩
  sensorCode := 0
  pierCode := 0

/-- DESIGN CHOICE (log 5). -/
def Ties.reset : Ties where
  closeBeforeDu := true
  offsetBeforeF := true
  sensorFirst := true
  axisOrder := .xyz

/-- The node at the start moment of a power-on (R190) with the straps at 0 and a memory that does not respond (log 1). The
start emits instant 0 of second 0 (R39). -/
def State.reset : State where
  powered := true
  pins := Pins.reset
  ties := Ties.reset
  draws := 0
  notices := []
  instants := [⟨0, 0, 0⟩]
  lc := LC.reset
  tb := TB.reset
  pt := PT.reset
  du := DU.reset 0
  vfe := VFE.reset
  scn := SCN.reset
  tu := TU.reset
  re := RE.reset
  dru := DRU.reset
  mdm := MDM.reset
  bw := BW.reset
  rs := RS.reset
  sul := SUL.reset
  pending := []

/-! ## Updates of one field -/

def State.setPowered (s : State) (v : Bool) : State := { s with powered := v }
def State.setPins (s : State) (v : Pins) : State := { s with pins := v }
def State.setDraws (s : State) (v : Nat) : State := { s with draws := v }
def State.setNotices (s : State) (v : List MarkNotice) : State := { s with notices := v }
def State.setInstants (s : State) (v : List InstantNotice) : State := { s with instants := v }
def State.setLc (s : State) (v : LC) : State := { s with lc := v }
def State.setTb (s : State) (v : TB) : State := { s with tb := v }
def State.setPt (s : State) (v : PT) : State := { s with pt := v }
def State.setDu (s : State) (v : DU) : State := { s with du := v }
def State.setVfe (s : State) (v : VFE) : State := { s with vfe := v }
def State.setScn (s : State) (v : SCN) : State := { s with scn := v }
def State.setTu (s : State) (v : TU) : State := { s with tu := v }
def State.setRe (s : State) (v : RE) : State := { s with re := v }
def State.setDru (s : State) (v : DRU) : State := { s with dru := v }
def State.setMdm (s : State) (v : MDM) : State := { s with mdm := v }
def State.setBw (s : State) (v : BW) : State := { s with bw := v }
def State.setRs (s : State) (v : RS) : State := { s with rs := v }
def State.setSul (s : State) (v : SUL) : State := { s with sul := v }
def State.setPending (s : State) (v : List Instr) : State := { s with pending := v }

end Sys2Proof.Machine
end

