-- ==== Sys2Proof/Machine/Ops.lean ====
section
/-! DEFINITION. The named operations every block uses: rounding, saturation, the comparison of 32-bit counts, per-axis
access, octet order and the frame check, and the clock reading. -/

namespace Sys2Proof.Machine

/-! ## Arithmetic -/

/-- R127: a division that rounds to nearest, an exact half away from zero. On magnitudes, then the sign of the dividend. -/
def roundDiv (a : Int) (d : Nat) : Int :=
  let q := a.natAbs / d
  let r := a.natAbs % d
  let m := if d ≤ 2 * r then q + 1 else q
  if a < 0 then -(m : Int) else (m : Int)

/-- R127 with a divisor given as a signed quantity that is positive. -/
def roundDivInt (a d : Int) : Int :=
  roundDiv a d.natAbs

/-- A division that rounds up (R74). -/
def ceilDiv (a d : Nat) : Nat :=
  (a + (d - 1)) / d

/-- A value limited to a range: below becomes the lower bound, above the upper (R189). -/
def clampInt (lo hi v : Int) : Int :=
  if v < lo then lo else if hi < v then hi else v

/-- 1 when `clampInt` changes the value, else 0: what a clamp adds to the clamp count (R189). -/
def clampHit (lo hi v : Int) : Nat :=
  if v < lo then 1 else if hi < v then 1 else 0

/-- A count that saturates. -/
def satInc (limit c : Nat) : Nat :=
  if limit ≤ c then limit else c + 1

/-- A counter of the manual's convention: 16 bits, saturating at 65,535 (scope, "Counters"). -/
def bump (c : Nat) : Nat :=
  satInc 65535 c

/-- A counter to which a quantity is added, saturating at 65,535. -/
def addSat (c k : Nat) : Nat :=
  if 65535 ≤ c + k then 65535 else c + k

/-- The signed difference a − b of two 32-bit counts modulo 2^32 (R128, R152, R156, R184). -/
def signedDiff (a b : BitVec 32) : Int :=
  (a - b).toInt

/-- a is later than b (R128). -/
def laterThan (a b : BitVec 32) : Bool :=
  decide (0 < signedDiff a b)

/-- One bit of the integer square root: `r` with bit `i` set, if its square does not exceed the radicand. -/
def rootBit (x r i : Nat) : Nat :=
  if (r + 2 ^ i) * (r + 2 ^ i) ≤ x then r + 2 ^ i else r

/-- The integer square root by bits, one step per bit from bit `k − 1` down (R145: 28 steps of one bit). -/
def rootBits (x : Nat) : Nat → Nat → Nat
  | 0, r => r
  | k + 1, r => rootBits x k (rootBit x r k)

/-- The largest integer whose square does not exceed a 56-bit radicand (R149). -/
def isqrt (x : Nat) : Nat :=
  rootBits x 28 0

/-- R149: the root rounded to nearest. -/
def roundRoot (x : Nat) : Nat :=
  let n := isqrt x
  if n * n + n < x then n + 1 else n

/-! ## Per axis and per channel -/

/-- The value of one axis. -/
def axisGet {α : Type} (v : Axes α) : Axis → α
  | .x => v.x
  | .y => v.y
  | .z => v.z

/-- The value of one axis replaced. -/
def axisSet {α : Type} (v : Axes α) (a : Axis) (w : α) : Axes α :=
  match a with
  | .x => { v with x := w }
  | .y => { v with y := w }
  | .z => { v with z := w }

/-- One value per axis from a function of the axis. -/
def axesOf {α : Type} (f : Axis → α) : Axes α :=
  ⟨f .x, f .y, f .z⟩

/-- A test passed on every axis. -/
def allAxes (p : Axis → Bool) : Bool :=
  p .x && p .y && p .z

/-- A test passed on some axis. -/
def anyAxis (p : Axis → Bool) : Bool :=
  p .x || p .y || p .z

/-- The value of one channel. -/
def channelGet {α : Type} (v : Channels α) : Channel → α
  | .sensor => v.sensor
  | .pier => v.pier

/-- The three axes in the order `ties` gives. -/
def axisOrderList : AxisOrder → List Axis
  | .xyz => [.x, .y, .z]
  | .xzy => [.x, .z, .y]
  | .yxz => [.y, .x, .z]
  | .yzx => [.y, .z, .x]
  | .zxy => [.z, .x, .y]
  | .zyx => [.z, .y, .x]

/-! ## Octets on the line -/

/-- The octets of a 32-bit field, high octet first (Figure 7). -/
def octets32 (v : BitVec 32) : List Octet :=
  [v.extractLsb' 24 8, v.extractLsb' 16 8, v.extractLsb' 8 8, v.extractLsb' 0 8]

/-- The octets of a 16-bit field, high octet first. -/
def octets16 (v : BitVec 16) : List Octet :=
  [v.extractLsb' 8 8, v.extractLsb' 0 8]

/-- Octet i of a list, 0 beyond its end. -/
def octetAt (b : List Octet) (i : Nat) : Octet :=
  b.getD i 0

/-- The 32-bit field at octet i, high octet first. -/
def word32At (b : List Octet) (i : Nat) : BitVec 32 :=
  octetAt b i ++ octetAt b (i + 1) ++ octetAt b (i + 2) ++ octetAt b (i + 3)

/-- The 16-bit field at octet i, high octet first. -/
def word16At (b : List Octet) (i : Nat) : BitVec 16 :=
  octetAt b i ++ octetAt b (i + 1)

/-- One bit into the CRC register of R3: generator 0x1021, most-significant bit first. -/
def crcBit (reg : BitVec 16) (bit : Bool) : BitVec 16 :=
  if (reg.msb ^^ bit) then (reg <<< 1) ^^^ 0x1021#16 else reg <<< 1

/-- One octet into the CRC register, most-significant bit first (R3). -/
def crcOctet (reg : BitVec 16) (o : Octet) : BitVec 16 :=
  crcBit (crcBit (crcBit (crcBit (crcBit (crcBit (crcBit (crcBit reg
    (o.getLsbD 7)) (o.getLsbD 6)) (o.getLsbD 5)) (o.getLsbD 4)) (o.getLsbD 3)) (o.getLsbD 2)) (o.getLsbD 1)) (o.getLsbD 0)

/-- The CRC-16 of R3 over a list of octets: the register starts at 0xFFFF and is not inverted. -/
def crc16 (os : List Octet) : BitVec 16 :=
  os.foldl crcOctet 0xFFFF#16

/-! ## Clock, roles and notices -/

/-- A reading of the local clock (R23). -/
def clockOf (t : TB) : Stamp :=
  ⟨t.second, t.tick, t.epoch⟩

/-- A node strapped to 0 (R187). -/
def listenOnly (s : State) : Bool :=
  s.sul.stationId == 0

/-- The effect of a command while the node holds state: nothing acts while RESET is held (R190 step 1). -/
def whenOn (s : State) (f : State → State) : State :=
  if s.powered then f s else s

/-- A timer after one oscillator period. -/
def tickDown (t : Option Nat) : Option Nat :=
  t.map (· - 1)

/-- A timer stands at its end. -/
def timerDue (t : Option Nat) : Bool :=
  t == some 0

/-- The first notice waiting for a block. -/
def noticeFor (b : MarkBlock) (ns : List MarkNotice) : Option MarkNotice :=
  ns.find? (fun n => n.block == b)

/-- The waiting notices without the first one for a block. -/
def dropNotice (b : MarkBlock) : List MarkNotice → List MarkNotice
  | [] => []
  | n :: ns => if n.block = b then ns else n :: dropNotice b ns

end Sys2Proof.Machine
end

