-- ==== Sys2Proof/Machine/Flags.lean ====
section
/-! DEFINITION. The flags: those of a second record and their union (R133, R180), and the latched flags with what clears them
(R21, R68, R185). -/

namespace Sys2Proof.Machine

/-- No record flag. -/
def noFlags : RecordFlags :=
  ⟨false, false, false, false, false, false, false, false, false, false, false, false⟩

/-- The union of two records' flags (R180). -/
def unionFlags (a b : RecordFlags) : RecordFlags where
  clip := a.clip || b.clip
  blank := a.blank || b.blank
  incomplete := a.incomplete || b.incomplete
  step := a.step || b.step
  relabel := a.relabel || b.relabel
  retuned := a.retuned || b.retuned
  range := a.range || b.range
  noTcorr := a.noTcorr || b.noTcorr
  thermal := a.thermal || b.thermal
  disturbed := a.disturbed || b.disturbed
  arith := a.arith || b.arith
  restart := a.restart || b.restart

/-- R133: INCOMPLETE, when the vector role is on and any axis has n below the completeness threshold. -/
def incompleteFlag (im : Image) (n : Axes Nat) : Bool :=
  im.vectorRole && anyAxis (fun a => decide (axisGet n a < im.completeness))

/-- R123: THERMAL, when either channel is in EXCURSION. -/
def thermalFlag (tu : TU) : Bool :=
  tu.sensor.watch == .excursion || tu.pier.watch == .excursion

/-- R173: DISTURBED, when BW's state is DISTURBED or EASING. -/
def disturbedFlag (d : Disturbance) : Bool :=
  d == .disturbed || d == .easing

/-- R164: a record flagged RETUNED, STEP or RELABEL is excluded from the watch. -/
def excludedFlags (f : RecordFlags) : Bool :=
  f.retuned || f.step || f.relabel

/-- The latched flags as a STATUS answer copies them (R185). -/
def latchedFlags (s : State) : LatchedFlags where
  stuckSeen := s.lc.stuckSeen
  jabberSeen := s.lc.jabberSeen
  trimLimit := s.du.trimLimit
  configDefaults := s.sul.configDefaults
  duplicateId := s.lc.duplicateId

/-- The trim TB holds stands at a bound (R68). -/
def trimAtBound (trim : Int) : Bool :=
  trim == 50000 || trim == -50000

/-- R185: after the copy the four flags are cleared, and a flag whose condition still holds latches again at once: STUCK_SEEN
while STUCK, JABBER_SEEN while jabber silence runs (R21), TRIM_LIMIT while the held trim is at a bound (R68),
CONFIG_DEFAULTS while the default record is in use. DUPLICATE_ID is left set. -/
def clearLatched (s : State) : State :=
  let s := s.setLc { s.lc with stuckSeen := s.lc.monitor == .stuck, jabberSeen := s.lc.silence.isSome }
  let s := s.setDu { s.du with trimLimit := trimAtBound s.tb.trim }
  s.setSul { s.sul with configDefaults := s.sul.isDefault }

end Sys2Proof.Machine
end

