-- ==== Sys2Proof/Machine/Operands.lean ====
section
/-! DEFINITION. What crosses the line: the frame and announcement layouts (R3, Figures 7 to 9), the receive tests (R13), the
body test of an announcement (R42), the opening fields of a query (R183) and the label (R32). -/

namespace Sys2Proof.Machine

/-! ## Codes -/

/-- The kind octet of a frame (Figure 7). -/
def kindCode : FrameKind → Octet
  | .announce => 0x41
  | .query => 0x51
  | .answer => 0x61

/-- The frame kind of a kind octet (R13). -/
def kindOf (o : Octet) : Option FrameKind :=
  if o = 0x41 then some .announce else if o = 0x51 then some .query else if o = 0x61 then some .answer else none

/-- The code of an event kind (Figure 9). -/
def eventCode : EventKind → Nat
  | .disturbanceOnset => 1
  | .disturbanceEnd => 2
  | .baselineReseed => 3
  | .thermalStart => 4
  | .thermalEnd => 5
  | .sensorFault => 6
  | .retune => 7
  | .deltaFStart => 8
  | .deltaFEnd => 9
  | .referenceChange => 10
  | .clockStep => 11
  | .frontEndFault => 12

/-- The code of a disturbance state (Figure 8, octet 17). -/
def disturbanceCode : Disturbance → Octet
  | .quiet => 0
  | .onset => 1
  | .disturbed => 2
  | .easing => 3

/-- The disturbance state of octet 17; none above 3 (R42). -/
def disturbanceOf (o : Octet) : Option Disturbance :=
  if o = 0 then some .quiet else if o = 1 then some .onset else if o = 2 then some .disturbed
  else if o = 3 then some .easing else none

/-- The code of a result (R183). -/
def resultCode : ResultCode → Octet
  | .ok => 0
  | .badRequest => 1
  | .gone => 2
  | .notYet => 3
  | .busy => 4
  | .notRole => 5

/-- The reference id octet (Figure 8, octet 14): 0 own pulse, 1..15 peer, 0xFF none. -/
def referenceCode : Option Reference → Octet
  | none => 0xFF
  | some .pulse => 0
  | some (.peer id) => id.setWidth 8

/-- A flag as an octet. -/
def flagOctet (b : Bool) : Octet :=
  if b then 1 else 0

/-- A presence or ability octet from its bits 0..3. -/
def bitsOctet (b0 b1 b2 b3 : Bool) : Octet :=
  BitVec.ofNat 8 (b0.toNat + 2 * b1.toNat + 4 * b2.toNat + 8 * b3.toNat)

/-! ## Sending -/

/-- A signed 32-bit value, zeros when absent (Figure 8). -/
def optInt32 (v : Option Int) : List Octet :=
  octets32 (BitVec.ofInt 32 (v.getD 0))

/-- A second number and a signed 32-bit value, zeros when absent. -/
def optPair32 (v : Option (Second × Int)) : List Octet :=
  match v with
  | none => octets32 0 ++ octets32 0
  | some (sec, x) => octets32 sec ++ octets32 (BitVec.ofInt 32 x)

/-- A second number and a signed 16-bit value, zeros when absent. -/
def optPair16 (v : Option (Second × Int)) : List Octet :=
  match v with
  | none => octets32 0 ++ octets16 0
  | some (sec, x) => octets32 sec ++ octets16 (BitVec.ofInt 16 x)

/-- An event entry: kind code and the low 24 bits of the event's second number (Figure 8). -/
def eventOctets (e : Event) : List Octet :=
  BitVec.ofNat 8 (eventCode e.kind) :: (octets32 e.second).drop 1

/-- The body octets of an announcement (Figure 8). -/
def announcementBody (a : Announcement) : List Octet :=
  [a.sequence] ++ octets32 a.departureSecond ++ octets32 (BitVec.ofNat 32 a.departureTick)
    ++ [bitsOctet a.abilities.vector a.abilities.scalar a.abilities.thermal a.abilities.pulse,
        BitVec.ofNat 8 a.cls, a.root.setWidth 8, BitVec.ofNat 8 a.depth, flagOctet a.locked, referenceCode a.reference]
    ++ octets16 (BitVec.ofNat 16 a.errorBound)
    ++ [disturbanceCode a.disturbance, flagOctet a.retuning]
    ++ octets32 a.vectorSecond
    ++ [bitsOctet a.vector.x.isSome a.vector.y.isSome a.vector.z.isSome false]
    ++ optInt32 a.vector.x ++ optInt32 a.vector.y ++ optInt32 a.vector.z
    ++ [bitsOctet a.f.isSome a.sensor.isSome a.pier.isSome false]
    ++ optPair32 a.f ++ optPair16 a.sensor ++ optPair16 a.pier
    ++ [BitVec.ofNat 8 a.events.length] ++ a.events.flatMap eventOctets

/-- The octets from the kind through the last body octet (Figure 7). -/
def frameCore (kind : FrameKind) (source dest : StationId) (body : List Octet) : List Octet :=
  [kindCode kind, source.setWidth 8, dest.setWidth 8, BitVec.ofNat 8 body.length] ++ body

/-- R3: a whole frame: opening mark, kind to body, check. -/
def frameOctets (kind : FrameKind) (source dest : StationId) (body : List Octet) : List Octet :=
  [0x2D, 0xB4] ++ frameCore kind source dest body ++ octets16 (crc16 (frameCore kind source dest body))

/-- The opening fields of an answer body: tag, request code, result code (R183). -/
def answerOpening (a : Answer) : List Octet :=
  [a.tag, a.code, resultCode a.result]

/-- The whole frame of an answer (R3): its opening fields, then the rest of its body. -/
def answerOctets (own : StationId) (a : Answer) : List Octet :=
  frameOctets .answer own a.dest (answerOpening a ++ a.rest)

/-! ## Symbols -/

/-- R2: the level that sends a data bit: 1 recessive, 0 dominant. -/
def bitLevel (b : Bool) : Level :=
  if b then .recessive else .dominant

/-- R2: the 10 symbols of an octet: a dominant start symbol, the 8 data bits least-significant first, a recessive stop symbol. -/
def octetSymbols (o : Octet) : List Level :=
  [.dominant, bitLevel (o.getLsbD 0), bitLevel (o.getLsbD 1), bitLevel (o.getLsbD 2), bitLevel (o.getLsbD 3),
    bitLevel (o.getLsbD 4), bitLevel (o.getLsbD 5), bitLevel (o.getLsbD 6), bitLevel (o.getLsbD 7), .recessive]

/-- R2: the symbols of a frame, its octets back to back. -/
def frameSymbols (os : List Octet) : List Level :=
  os.flatMap octetSymbols

/-- R8: a symbol read back differs from the symbol driven. -/
def readsBackOther (driven : List Octet) (readBack : List Level) : Bool :=
  ((frameSymbols driven).zip readBack).any (fun p => p.1 != p.2)

/-! ## Receiving -/

/-- R2, R32: the octet of eight data levels, least-significant first. -/
def octetOfLevels (ls : List Level) : Octet :=
  BitVec.ofNat 8 (ls.foldr (fun l v => 2 * v + (l == .recessive).toNat) 0)

/-- R2, R32: the receiver after one more symbol, and the octet that symbol completes. A dominant level after a recessive stretch starts
an octet of 8 data bits and a stop symbol; a dominant level where the stop symbol is due is a framing error in that octet, and has to
end before the next start (on the label line the model's choice, log 30). -/
def receiveSymbol (l : Level) : RxPhase → RxPhase × Option RxOctet
  | .held => (if l = .recessive then .ready else .held, none)
  | .ready => (if l = .dominant then .data [] else .ready, none)
  | .data taken =>
    if taken.length < 8 then (.data (taken ++ [l]), none)
    else (if l = .dominant then .held else .ready, some ⟨octetOfLevels taken, l == .dominant⟩)

/-- R2: the octets a receiver takes from the levels of successive symbols. -/
def receiveFrom (p : RxPhase) : List Level → List RxOctet
  | [] => []
  | l :: ls => (receiveSymbol l p).2.toList ++ receiveFrom (receiveSymbol l p).1 ls

/-- R2, R13: the octets of a run of line activity, from its first start symbol on. -/
def receiveOctets (levels : List Level) : List RxOctet :=
  receiveFrom .ready levels

/-- R13: the tests of a received run, in the order the octets arrive. None: the frame is bad. The fields are those a ring
entry keeps: kind, source octet, destination octet, body. Octets after the last check octet are ignored. -/
def judgeFrame (os : List RxOctet) : Option (FrameKind × Octet × Octet × List Octet) :=
  let d := os.map RxOctet.data
  let len := (octetAt d 5).toNat
  let frame := os.take (8 + len)
  let body := (d.drop 6).take len
  if os.length < 8 then none
  else if octetAt d 0 ≠ 0x2D ∨ octetAt d 1 ≠ 0xB4 then none
  else if 240 < len then none
  else if os.length < 8 + len then none
  else if frame.any RxOctet.framing then none
  else if crc16 ((d.drop 2).take (4 + len)) ≠ word16At d (6 + len) then none
  else if octetAt d 3 = 0 ∨ 15 < (octetAt d 3).toNat then none
  else match kindOf (octetAt d 2) with
    | none => none
    | some k => some (k, octetAt d 3, octetAt d 4, body)

/-- What PT takes from an announcement body (R42 to R46). -/
structure Heard where
  sequence : BitVec 8
  departureSecond : Second
  departureTick : Nat
  abilities : Abilities
  cls : Nat
  root : StationId
  depth : Nat
  locked : Bool
  reference : Option Reference
  errorBound : Nat
  disturbance : Disturbance
  retuning : Bool
  f : Option (Second × Int)
  temp : Option (Second × Int)
deriving DecidableEq, Repr

/-- The reference id of octet 14: 0..15 or 0xFF, else none of them (R42). -/
def referenceOf (o : Octet) : Option (Option Reference) :=
  if o = 0xFF then some none
  else if o = 0 then some (some .pulse)
  else if o.toNat ≤ 15 then some (some (.peer (o.setWidth 4)))
  else none

/-- R42: the body length is 58 + 4 × E, E at most 4, and every checked octet is in its range. -/
def bodyValid (b : List Octet) : Bool :=
  let e := (octetAt b 57).toNat
  decide (58 ≤ b.length) && decide (b.length = 58 + 4 * e) && decide (e ≤ 4)
    && decide ((octetAt b 10).toNat ≤ 2)
    && decide (1 ≤ (octetAt b 11).toNat) && decide ((octetAt b 11).toNat ≤ 15)
    && decide ((octetAt b 12).toNat ≤ 6)
    && decide ((octetAt b 13).toNat ≤ 1)
    && (referenceOf (octetAt b 14)).isSome
    && (disturbanceOf (octetAt b 17)).isSome
    && decide ((octetAt b 18).toNat ≤ 1)

/-- The fields of a valid announcement body (Figure 8). Unused high bits of the abilities and presence octets are ignored
(R42). -/
def heardOf (b : List Octet) : Heard where
  sequence := octetAt b 0
  departureSecond := word32At b 1
  departureTick := (word32At b 5).toNat
  abilities := ⟨(octetAt b 9).getLsbD 0, (octetAt b 9).getLsbD 1, (octetAt b 9).getLsbD 2, (octetAt b 9).getLsbD 3⟩
  cls := (octetAt b 10).toNat
  root := (octetAt b 11).setWidth 4
  depth := (octetAt b 12).toNat
  locked := octetAt b 13 == 1
  reference := (referenceOf (octetAt b 14)).getD none
  errorBound := (word16At b 15).toNat
  disturbance := (disturbanceOf (octetAt b 17)).getD .quiet
  retuning := octetAt b 18 == 1
  f := if (octetAt b 36).getLsbD 0 then some (word32At b 37, (word32At b 41).toInt) else none
  temp := if (octetAt b 36).getLsbD 1 then some (word32At b 45, (word16At b 49).toInt) else none

/-! ## Queries and labels -/

/-- The request a query body asks for (R183, Figure 88): the composing command that answers it. -/
inductive RequestKind where
  | readSeconds | readMinutes | status | peers | recenter | reseed | restart | unknown
deriving DecidableEq, Repr

/-- R183: a body shorter than 2 octets and an unknown request code are UNKNOWN_REQUEST. -/
def requestKind (b : List Octet) : RequestKind :=
  if b.length < 2 then .unknown
  else if octetAt b 1 = 1 then .readSeconds
  else if octetAt b 1 = 2 then .readMinutes
  else if octetAt b 1 = 3 then .status
  else if octetAt b 1 = 4 then .peers
  else if octetAt b 1 = 5 then .recenter
  else if octetAt b 1 = 6 then .reseed
  else if octetAt b 1 = 7 then .restart
  else .unknown

/-- The tag echoed in the answer; 0 for a body shorter than 2 octets (R183). -/
def queryTag (b : List Octet) : Octet :=
  if b.length < 2 then 0 else octetAt b 0

/-- The request code echoed in the answer; 0 for a body shorter than 2 octets (R183). -/
def queryCode (b : List Octet) : Octet :=
  if b.length < 2 then 0 else octetAt b 1

/-- R32: the label second of a valid run: exactly 5 octets, no framing error, the fifth the sum of the first four modulo 256. -/
def labelOf (os : List RxOctet) : Option Second :=
  let d := os.map RxOctet.data
  if os.length = 5 ∧ os.any RxOctet.framing = false
      ∧ octetAt d 4 = octetAt d 0 + octetAt d 1 + octetAt d 2 + octetAt d 3 then
    some (word32At d 0)
  else none

end Sys2Proof.Machine
end

