-- ==== Sys2Proof/Machine/Events.lean ====
section
/-! DEFINITION. Raising an event into the event list of RS (R182), and placing a request with the DRU (R143). -/

namespace Sys2Proof.Machine

/-- The event mask admits a kind (R182): bit code − 1 of the mask (log 12). -/
def admits (mask : BitVec 12) (k : EventKind) : Bool :=
  mask.getLsbD (eventCode k - 1)

/-- R182: an admitted event joins the newest end; a full list of 8 first loses its oldest entry and events-lost increments.
The oldest entry is among those the attempt in flight carries when it carries any (R11). -/
def raiseRs (k : EventKind) (second : Second) (rs : RS) : RS :=
  if 8 ≤ rs.events.length then
    { rs with
      events := rs.events.drop 1 ++ [⟨k, second⟩]
      eventsLost := bump rs.eventsLost
      carried := rs.carried - 1 }
  else
    { rs with events := rs.events ++ [⟨k, second⟩] }

/-- A block raises an event with the second number its rule gives (R182). -/
def raiseEvent (k : EventKind) (second : Second) (s : State) : State :=
  if admits s.sul.image.eventMask k then s.setRs (raiseRs k second s.rs) else s

/-- Oscillator periods of an operation: 66 steps of 0.5 µs for DIVIDE, 28 for ROOT (R145). -/
def opPeriods : Operation → Nat
  | .divide _ _ => 330
  | .root _ => 140

/-- R143: a request begins at once when the DRU is idle with an empty queue, else it joins the queue as the newest. -/
def placeDru (r : Request) (d : DRU) : DRU :=
  if d.current.isNone && d.queue.isEmpty then { d with current := some ⟨r, opPeriods r.op⟩ }
  else { d with queue := d.queue ++ [r] }

/-- A client places a request with the DRU. -/
def place (c : Client) (op : Operation) (s : State) : State :=
  s.setDru (placeDru ⟨c, op⟩ s.dru)

end Sys2Proof.Machine
end

