-- ==== Sys2Proof/Machine/Baseline.lean ====
section
/-! DEFINITION. The Baseline Watch (chapter 10): judging a record, the station disturbance state, the baselines, reseeding,
and the ΔF watch. -/

namespace Sys2Proof.Machine

/-- What a counting record says of one present axis (R165): whether the record seeds it, the deviation, and whether the axis
is judged ACTIVE. -/
structure Verdict where
  seeds : Bool
  deviation : Int
  active : Bool
deriving DecidableEq, Repr

/-- R165: the verdict on an axis; none when the axis is absent. -/
def verdictOf (im : Image) (w : AxisWatch) (v : Option Int) : Option Verdict :=
  match v, w.baseline with
  | none, _ => none
  | some _, none => some ⟨true, 0, false⟩
  | some x, some l => some ⟨false, x - l, decide (im.watchThreshold < ((x - l).natAbs : Int))⟩

/-- R166: the baseline after a record, by the station state before it. -/
def movedBaseline (im : Image) (before : Disturbance) (l d : Int) : Int :=
  if before = .disturbed ∨ before = .easing then l
  else if (d.natAbs : Int) ≤ im.fastBound then l + roundDiv d (2 ^ im.slowBeta)
  else if (d.natAbs : Int) ≤ im.watchThreshold then l + roundDiv d (2 ^ im.fastBeta)
  else l

/-- R164: the latest value of an axis, stored at every chains-ended notice. -/
def storeLatest (w : AxisWatch) (v : Option Int) : AxisWatch :=
  match v with
  | some x => { w with latest := some x }
  | none => w

/-- R165, R166: an axis after a counting record: seeded, or with its deviation and judgement and its baseline moved. -/
def judgedAxis (im : Image) (before : Disturbance) (w : AxisWatch) (v : Option Int) : AxisWatch :=
  match v, w.baseline, verdictOf im w v with
  | some x, none, some _ => { w with baseline := some x, deviation := some 0, judgement := some .quiet }
  | some _, some l, some u =>
    { w with
      baseline := some (movedBaseline im before l u.deviation)
      deviation := some u.deviation
      judgement := some (if u.active then .active else .quiet) }
  | _, _, _ => w

/-- R168: a peer heard and not STALE, with vector ability, announces DISTURBED. -/
def corroborated (pt : PT) : Bool :=
  pt.entries.any (fun e => e.state != .stale && e.abilities.vector && e.disturbance == .disturbed)

/-- R167, R169, Figure 82: the station state after a counting record that has an active axis or not and passes the release
test or not, and the event raised. -/
def moveStation (im : Image) (required : Nat) (active passes : Bool) (bw : BW) : BW × Option EventKind :=
  match bw.state with
  | .quiet =>
    if active then
      if required ≤ 1 then
        ({ bw with state := .disturbed, onsetRun := 0, disturbedTime := 0 }, some .disturbanceOnset)
      else ({ bw with state := .onset, onsetRun := 1 }, none)
    else (bw, none)
  | .onset =>
    if active then
      if required ≤ bw.onsetRun + 1 then
        ({ bw with state := .disturbed, onsetRun := 0, disturbedTime := 0 }, some .disturbanceOnset)
      else ({ bw with onsetRun := bw.onsetRun + 1 }, none)
    else ({ bw with state := .quiet, onsetRun := 0 }, none)
  | .disturbed =>
    if passes then
      if im.easeCount ≤ 1 then
        ({ bw with state := .quiet, easeRun := 0, disturbedTime := 0 }, some .disturbanceEnd)
      else ({ bw with state := .easing, easeRun := 1 }, none)
    else (bw, none)
  | .easing =>
    if passes then
      if im.easeCount ≤ bw.easeRun + 1 then
        ({ bw with state := .quiet, easeRun := 0, disturbedTime := 0 }, some .disturbanceEnd)
      else ({ bw with easeRun := bw.easeRun + 1 }, none)
    else ({ bw with state := .disturbed, easeRun := 0 }, none)

/-- An event raised if there is one. -/
def raiseOpt (k : Option EventKind) (second : Second) (s : State) : State :=
  match k with
  | some k => raiseEvent k second s
  | none => s

/-- The verdicts of the three axes of a record against the baselines as they stand. -/
def verdicts (im : Image) (bw : BW) (values : Axes (Option Int)) : Axes (Option Verdict) :=
  axesOf (fun a => verdictOf im (axisGet bw.axes a) (axisGet values a))

/-- An active axis (R167). -/
def hasActive (vs : Axes (Option Verdict)) : Bool :=
  anyAxis (fun a => match axisGet vs a with | some u => u.active | none => false)

/-- The release test (R169): every present axis has |d| below the release threshold. -/
def passesRelease (im : Image) (vs : Axes (Option Verdict)) : Bool :=
  allAxes (fun a => match axisGet vs a with
    | some u => decide ((u.deviation.natAbs : Int) < im.releaseThreshold)
    | none => true)

/-- R164 to R169: BW takes a chains-ended notice: latest values, then excluded, empty or counting. -/
def watchRecord (flags : RecordFlags) (values : Axes (Option Int)) (second : Second) (s : State) : State :=
  let im := s.sul.image
  let stored := axesOf (fun a => storeLatest (axisGet s.bw.axes a) (axisGet values a))
  let bw := { s.bw with axes := stored }
  if excludedFlags flags then s.setBw { bw with excluded := bump bw.excluded }
  else if anyAxis (fun a => (axisGet values a).isSome) then
    let vs := verdicts im bw values
    let required := if corroborated s.pt then 1 else im.onsetCount
    let moved := moveStation im required (hasActive vs) (passesRelease im vs) bw
    let axes := axesOf (fun a => judgedAxis im bw.state (axisGet stored a) (axisGet values a))
    raiseOpt moved.2 second (s.setBw { moved.1 with axes := axes })
  else s.setBw bw

/-- R170: the watch after a reseed. -/
def reseedBw (bw : BW) : BW :=
  { bw with
    axes := axesOf (fun a => ⟨(axisGet bw.axes a).latest, (axisGet bw.axes a).latest, none, none⟩)
    state := .quiet
    onsetRun := 0
    easeRun := 0
    disturbedTime := 0
    reseeds := bump bw.reseeds }

/-- R170: a reseed, with BASELINE_RESEED carrying the second count of the local clock. -/
def makeReseed (s : State) : State :=
  raiseEvent .baselineReseed s.tb.second (s.setBw (reseedBw s.bw))

/-- R171: BW takes a mark notice. -/
def markBw (s : State) : State :=
  if disturbedFlag s.bw.state then
    let s' := s.setBw { s.bw with disturbedTime := s.bw.disturbedTime + 1 }
    if s.sul.image.maxDisturbed < s.bw.disturbedTime + 1 then makeReseed s' else s'
  else s

/-- R174, Figure 83: the ΔF watch after a present ΔF, and the event raised. -/
def moveDeltaF (limit : Int) (df : Int) (bw : BW) : BW × Option EventKind :=
  match bw.ldf with
  | none => ({ bw with ldf := some df }, none)
  | some l =>
    let follow := some (l + roundDiv (df - l) 64)
    let out := decide (limit < ((df - l).natAbs : Int))
    match bw.excursion, out with
    | false, true =>
      if 3 ≤ bw.outside + 1 then ({ bw with excursion := true, outside := 0, inside := 0 }, some .deltaFStart)
      else ({ bw with outside := bw.outside + 1, inside := 0, ldf := follow }, none)
    | false, false => ({ bw with outside := 0, ldf := follow }, none)
    | true, false =>
      if 3 ≤ bw.inside + 1 then
        ({ bw with excursion := false, outside := 0, inside := 0, ldf := follow }, some .deltaFEnd)
      else ({ bw with inside := bw.inside + 1, outside := 0 }, none)
    | true, true => ({ bw with inside := 0 }, none)

/-- R174: BW takes a ΔF notice; an absent ΔF leaves the watch as it stands. -/
def watchDeltaF (df : Option Int) (second : Second) (s : State) : State :=
  match df with
  | none => s
  | some d =>
    let moved := moveDeltaF s.sul.image.deltaFLimit d s.bw
    raiseOpt moved.2 second (s.setBw moved.1)

end Sys2Proof.Machine
end

