-- ==== Sys2Proof/Machine/Minutes.lean ====
section
/-! DEFINITION. The minute builder of RS (R180, R181) and writes into held second records (R178). -/

namespace Sys2Proof.Machine

/-- R178: a write names a held record by its sequence; one that names a sequence no longer held is dropped. -/
def writeRecord (q : Sequence) (f : SecondRecord → SecondRecord) (rs : RS) : RS :=
  { rs with seconds := rs.seconds.map (fun r => if r.sequence = q then f r else r) }

/-- R180: a record's minute: its epoch and its second number divided by 60, rounded down. -/
def minuteOf (epoch : Epoch) (second : Second) : Minute :=
  ⟨epoch, second.toNat / 60⟩

/-- The held second records of a minute. -/
def minuteRecords (m : Minute) (rs : RS) : List SecondRecord :=
  rs.seconds.filter (fun r => minuteOf r.epoch r.second == m)

/-- R180: a record's F when present, otherwise its own F. -/
def minuteF (r : SecondRecord) : Option Int :=
  match r.f with
  | some v => some v
  | none => r.ownF

/-- The exact sum of a list of values. -/
def sumOf (vs : List Int) : Int :=
  vs.foldl (· + ·) 0

/-- The division for a quantity, placed only when at least `need` values are present (R180). -/
def divisionFor (q : Quantity) (need : Nat) (vs : List Int) : List MinuteDivision :=
  if need ≤ vs.length then [⟨q, sumOf vs, vs.length⟩] else []

/-- The present corrected values of one axis over some records. -/
def axisValues (a : Axis) (recs : List SecondRecord) : List Int :=
  recs.filterMap (fun r => (axisGet r.axes a).value)

/-- R180: what the builder reads from the held records of a minute, and the divisions it will place, in the order X, Y, Z, F,
ΔF: an axis with at least 45 present values, F or ΔF with at least 1. -/
def gatherMinute (m : Minute) (recs : List SecondRecord) : MinuteBuild :=
  let fs := recs.filterMap minuteF
  let ds := recs.filterMap SecondRecord.deltaF
  { body :=
      { minute := m
        held := recs.length
        axes := axesOf (fun a => ⟨(axisValues a recs).length, none⟩)
        f := ⟨fs.length, none⟩
        deltaF := ⟨ds.length, none⟩
        flags := recs.foldl (fun acc r => unionFlags acc r.flags) noFlags }
    todo := divisionFor (.axis .x) 45 (axisValues .x recs) ++ divisionFor (.axis .y) 45 (axisValues .y recs)
      ++ divisionFor (.axis .z) 45 (axisValues .z recs) ++ divisionFor .f 1 fs ++ divisionFor .deltaF 1 ds }

/-- A mean written into the minute body. -/
def setMean (q : Quantity) (v : Option Int) (b : MinuteBody) : MinuteBody :=
  match q with
  | .axis a => { b with axes := axisSet b.axes a { axisGet b.axes a with mean := v } }
  | .f => { b with f := { b.f with mean := v } }
  | .deltaF => { b with deltaF := { b.deltaF with mean := v } }

/-- The newest sequence of the second ring. -/
def newestSecond (rs : RS) : Option Sequence :=
  rs.seconds.getLast?.map SecondRecord.sequence

/-- The newest sequence of the minute ring. -/
def newestMinute (rs : RS) : Option Sequence :=
  rs.minutes.getLast?.map MinuteRecord.sequence

/-- The sequence after the newest, 0 for the first record after power-on (R178, R181). -/
def nextSequence (newest : Option Sequence) : Sequence :=
  match newest with
  | some q => q + 1
  | none => 0

/-- R181: the minute record enters the minute ring, which holds 512, and the head leaves the build list. -/
def enterMinute (b : MinuteBody) (rs : RS) : RS :=
  let held := if 512 ≤ rs.minutes.length then rs.minutes.drop 1 else rs.minutes
  { rs with
    minutes := held ++ [⟨nextSequence (newestMinute rs), b⟩]
    build := none
    buildList := rs.buildList.drop 1 }

/-- A division placed as client MINUTE. -/
def placeMinute (d : MinuteDivision) (s : State) : State :=
  place .minute (.divide d.sum d.count) s

/-- R180: the head of the build list is built when no build is in progress and every held second record of its minute is
FINAL. A head that needs no division enters the ring at once and the next head is tested. -/
def testHeads : Nat → State → State
  | 0, s => s
  | k + 1, s =>
    if s.rs.build.isSome || s.rs.discard then s
    else match s.rs.buildList with
      | [] => s
      | m :: _ =>
        let recs := minuteRecords m s.rs
        if recs.all SecondRecord.final then
          let b := gatherMinute m recs
          match b.todo with
          | [] => testHeads k (s.setRs (enterMinute b.body s.rs))
          | d :: _ => placeMinute d (s.setRs { s.rs with build := some b })
        else s

/-- The test of the head, "at each finalization, at each start and whenever a head leaves the list" (R180). -/
def testHead (s : State) : State :=
  testHeads s.rs.buildList.length s

/-- R180: the current minute is started. A full list of 16 first loses its oldest and minute-lost increments; if that one is
being built, its MINUTE result will be discarded. -/
def startMinuteRs (m : Minute) (rs : RS) : RS :=
  if 16 ≤ rs.buildList.length then
    { rs with
      buildList := rs.buildList.drop 1 ++ [m]
      minuteLost := bump rs.minuteLost
      discard := rs.discard || rs.build.isSome
      build := none }
  else
    { rs with buildList := rs.buildList ++ [m] }

/-- R180: the builder takes the key of an entering record. -/
def takeMinuteKey (key : Minute) (s : State) : State :=
  match s.rs.current with
  | none => s.setRs { s.rs with current := some key }
  | some m =>
    if m = key then s
    else testHead (s.setRs { startMinuteRs m s.rs with current := some key })

/-- R180: the builder takes a MINUTE result; a DIVIDE_FAULT is an absent value (R146). -/
def deliverMinute (v : Option Int) (s : State) : State :=
  if s.rs.discard then testHead (s.setRs { s.rs with discard := false })
  else match s.rs.build with
    | none => s
    | some b =>
      match b.todo with
      | [] => s
      | d :: rest =>
        let body := setMean d.quantity v b.body
        match rest with
        | [] => testHead (s.setRs (enterMinute body s.rs))
        | d' :: _ => placeMinute d' (s.setRs { s.rs with build := some ⟨body, rest⟩ })

end Sys2Proof.Machine
end

