-- ==== Sys2Proof/Machine/Matcher.lean ====
section
/-! DEFINITION. The Magnitude and Delta-F Matcher (chapter 09): the pending-magnitude list, the root requests, the scalar source,
taking and matching an F, expiry and finalization. -/

namespace Sys2Proof.Machine

/-- R159: what MDM writes into a record when it finalizes it. -/
def finalRecord (mag f df : Option Int) (reason : DeltaFReason) (r : SecondRecord) : SecondRecord :=
  { r with final := true, magnitude := mag, f := f, deltaF := df, reason := some reason }

/-- R159: MDM finalizes a record: the write, the ΔF notice to BW, and the minute builder's test at a finalization (R180). -/
def finalize (q : Sequence) (second : Second) (mag f df : Option Int) (reason : DeltaFReason) (s : State) : State :=
  testHead (watchDeltaF df second (s.setRs (writeRecord q (finalRecord mag f df reason) s.rs)))

/-- An entry finalized with ΔF absent, its |B| present if delivered (Figure 76). -/
def finalizeAbsent (reason : DeltaFReason) (e : PendingEntry) (s : State) : State :=
  finalize e.sequence e.second e.magnitude none none reason s

/-- Several entries finalized with ΔF absent, oldest first (R159). -/
def finalizeAll (reason : DeltaFReason) (es : List PendingEntry) (s : State) : State :=
  es.foldl (fun s e => finalizeAbsent reason e s) s

/-- R153: when MAGNITUDE has no request in the DRU, a ROOT is placed for the oldest entry whose |B| is absent. -/
def placeRoot (s : State) : State :=
  if s.mdm.root.isSome then s
  else match s.mdm.list.find? (fun e => e.magnitude.isNone) with
    | none => s
    | some e => place .magnitude (.root e.radicand) (s.setMdm { s.mdm with root := some e.sequence })

/-- R156: an entry with |B| present and a matched F leaves as MATCHED. -/
def resolve (e : PendingEntry) (mag f : Int) (s : State) : State :=
  let s := s.setMdm { s.mdm with
    list := s.mdm.list.filter (fun x => x.sequence != e.sequence)
    matched := bump s.mdm.matched }
  finalize e.sequence e.second (some mag) (some f) (some (mag - f)) .matched s

/-- R152: at a new-record notice carrying q, every entry whose sequence is q − 12 or lower is finalized as DISPLACED. -/
def displaceOld (q : Sequence) (s : State) : State :=
  let old := s.mdm.list.filter (fun e => decide (signedDiff e.sequence (q - 12) ≤ 0))
  let kept := s.mdm.list.filter (fun e => !decide (signedDiff e.sequence (q - 12) ≤ 0))
  finalizeAll .displaced old
    (s.setMdm { s.mdm with list := kept, displaced := addSat s.mdm.displaced old.length })

/-- R151: a full list of 12 first loses its oldest entry, finalized as DISPLACED. -/
def displaceOldest (s : State) : State :=
  if 12 ≤ s.mdm.list.length then
    match s.mdm.list with
    | [] => s
    | e :: rest =>
      finalizeAbsent .displaced e (s.setMdm { s.mdm with list := rest, displaced := bump s.mdm.displaced })
  else s

/-- R157: the held F becomes the early F of an added entry of its second number. -/
def takeHeld (e : PendingEntry) (m : MDM) : PendingEntry × MDM :=
  match m.heldF with
  | some h => if h.second = e.second then ({ e with earlyF := some h.value }, { m with heldF := none }) else (e, m)
  | none => (e, m)

/-- R150, R151: an entry is added for a record with three present axes, and the root is requested in turn (R153), after a MINUTE
request that the finalization of a displaced entry brings (R143; the model's choice, log 5). -/
def addEntry (q : Sequence) (epoch : Epoch) (second : Second) (x y z : Int) (s : State) : State :=
  let s := displaceOldest s
  let e : PendingEntry := ⟨q, epoch, second, (x * x + y * y + z * z).natAbs, none, none, 8⟩
  let em := takeHeld e s.mdm
  placeRoot (s.setMdm { em.2 with list := em.2.list ++ [em.1] })

/-- R150: MDM takes a chains-ended notice. -/
def matchRecord (q : Sequence) (epoch : Epoch) (second : Second) (values : Axes (Option Int)) (s : State) : State :=
  match values.x, values.y, values.z with
  | some x, some y, some z => addEntry q epoch second x y z s
  | _, _, _ => finalize q second none none none .noVector s

/-- R153: MDM takes the result of the root in progress. A result whose entry has left the list is discarded. A DIVIDE_FAULT
cannot come with a ROOT. A MINUTE request that the finalization brings (R180) is placed before the next ROOT (R143; the model's
choice, log 5). -/
def deliverRoot (v : Int) (s : State) : State :=
  let q := s.mdm.root
  let s := s.setMdm { s.mdm with root := none }
  match q.bind (fun q => s.mdm.list.find? (fun e => e.sequence == q)) with
  | none => placeRoot s
  | some e =>
    let s := s.setMdm { s.mdm with
      list := s.mdm.list.map (fun x => if x.sequence = e.sequence then { x with magnitude := some v } else x) }
    match e.earlyF with
    | some f => placeRoot (resolve { e with magnitude := some v } v f s)
    | none => placeRoot s

/-! ## The scalar source -/

/-- R154: a scalar peer equal to the node's own station id is taken as 0. -/
def configuredPeer (im : Image) (own : StationId) : StationId :=
  if im.scalarPeer = own then 0 else im.scalarPeer

/-- R154: the lowest id among the entries that are not STALE and announce scalar ability; entries stand in ascending order. -/
def automaticSource (pt : PT) : Source :=
  match pt.entries.find? (fun e => e.state != .stale && e.abilities.scalar) with
  | some e => .automatic e.id
  | none => .none

/-- R154, R161, R162: the source at a reset: OWN, CONFIGURED, or NONE for AUTOMATIC until the next mark. -/
def sourceAtReset (im : Image) (own : StationId) : Source :=
  if im.scalarRole then .own
  else if configuredPeer im own = 0 then .none
  else .configured (configuredPeer im own)

/-- R154: AUTOMATIC is chosen: the scalar role is off and no scalar peer is configured. -/
def automaticMode (im : Image) (own : StationId) : Bool :=
  !im.scalarRole && configuredPeer im own == 0

/-- R154: the source re-evaluated at a mark; a change discards the held F. -/
def reevaluateSource (s : State) : State :=
  if automaticMode s.sul.image s.sul.stationId then
    let src := automaticSource s.pt
    if src = s.mdm.source then s else s.setMdm { s.mdm with source := src, heldF := none }
  else s

/-! ## Taking an F -/

/-- The entries of a second number hold F as their early F while |B| is absent (R156). -/
def giveEarly (second : Second) (f : Int) (e : PendingEntry) : PendingEntry :=
  if e.second = second ∧ e.magnitude.isNone then { e with earlyF := some f } else e

/-- R156: the entries of a second number whose |B| is present are resolved, oldest first. -/
def resolveAll (f : Int) (es : List PendingEntry) (s : State) : State :=
  es.foldl (fun s e => match e.magnitude with | some m => resolve e m f s | none => s) s

/-- R156: a taken F for a second is matched against the list, held, or counted as unmatched. -/
def matchF (f : Int) (second : Second) (s : State) : State :=
  let hits := s.mdm.list.filter (fun e => e.second == second)
  if hits.isEmpty then
    if s.mdm.list.all (fun e => laterThan second e.second) then
      s.setMdm { s.mdm with heldF := some ⟨f, second, 8⟩ }
    else s.setMdm { s.mdm with unmatched := bump s.mdm.unmatched }
  else
    resolveAll f hits (s.setMdm { s.mdm with list := s.mdm.list.map (giveEarly second f) })

/-- R155: a notice from the source: rejected outside 1..200,000,000 pT, else the latest F, and matched. -/
def takeF (f : Int) (second : Second) (s : State) : State :=
  if f < 1 ∨ 200000000 < f then s.setMdm { s.mdm with rejected := bump s.mdm.rejected }
  else matchF f second (s.setMdm { s.mdm with latestF := some ⟨f, second, s.mdm.source⟩ })

/-- R155: an F notice from the own Scalar Counter is taken while the source is OWN. -/
def takeOwnF (f : Int) (second : Second) (s : State) : State :=
  if s.mdm.source = .own then takeF f second s else s

/-- R155: an F notice from PT is taken when its peer is the CONFIGURED or AUTOMATIC source. -/
def takePeerF (id : StationId) (f : Int) (second : Second) (s : State) : State :=
  if s.mdm.source = .configured id ∨ s.mdm.source = .automatic id then takeF f second s else s

/-! ## Marks -/

/-- R157: the held F after a mark. -/
def ageHeld (h : Option HeldF) : Option HeldF :=
  match h with
  | some h => if h.marks ≤ 1 then none else some { h with marks := h.marks - 1 }
  | none => none

/-- R158: every entry loses a mark; those that reach 0 leave and are finalized with NO_F, oldest first. -/
def expireEntries (s : State) : State :=
  let aged := s.mdm.list.map (fun e => { e with marks := e.marks - 1 })
  let gone := aged.filter (fun e => e.marks == 0)
  let kept := aged.filter (fun e => e.marks != 0)
  finalizeAll .noF gone
    (s.setMdm { s.mdm with list := kept, expired := addSat s.mdm.expired gone.length })

/-- MDM takes a mark notice: the source (R154), the held F (R157), the entries (R158). -/
def markMdm (s : State) : State :=
  let s := reevaluateSource s
  expireEntries (s.setMdm { s.mdm with heldF := ageHeld s.mdm.heldF })

end Sys2Proof.Machine
end

