-- ==== Sys2Proof/Machine/Store.lean ====
section
/-! DEFINITION. Record entry into the second ring (R178), the ring check of R128, and the own F (R179). -/

namespace Sys2Proof.Machine

/-- RS holds a second record with an epoch and a second number (R128, R178). -/
def ringHolds (epoch : Epoch) (second : Second) (rs : RS) : Bool :=
  rs.seconds.any (fun r => r.epoch == epoch && r.second == second)

/-- R178: a record joins the newest end of the ring, which holds 1,024. -/
def appendRecord (r : SecondRecord) (rs : RS) : RS :=
  { rs with seconds := (if 1024 ≤ rs.seconds.length then rs.seconds.drop 1 else rs.seconds) ++ [r] }

/-- R179: an F written into the held record of its epoch and second number as its own F. -/
def writeOwnF (f : FValue) (rs : RS) : RS :=
  { rs with
    seconds := rs.seconds.map (fun r =>
      if r.epoch = f.epoch ∧ r.second = f.second then { r with ownF := some f.value } else r) }

/-- R179: the pending own F at the entry of a record: written into it and cleared when it names it, cleared when the record is
of the same epoch with a later second number. -/
def applyPendingF (epoch : Epoch) (second : Second) (rs : RS) : RS :=
  match rs.pendingF with
  | none => rs
  | some f =>
    if f.epoch = epoch ∧ f.second = second then { writeOwnF f rs with pendingF := none }
    else if f.epoch = epoch ∧ laterThan second f.second = true then { rs with pendingF := none }
    else rs

/-- R178: RS takes a closed record: it joins the ring with its sequence, MDM gets the new-record notice (R152), the pending own F
is applied, and the minute builder takes the key. -/
def enterRecord (r : SecondRecord) (s : State) : State :=
  let s := s.setRs (appendRecord r s.rs)
  let s := displaceOld r.sequence s
  let s := s.setRs (applyPendingF r.epoch r.second s.rs)
  takeMinuteKey (minuteOf r.epoch r.second) s

/-- The second number of the newest held record of an epoch (R179). -/
def newestOfEpoch (epoch : Epoch) (rs : RS) : Option Second :=
  (rs.seconds.reverse.find? (fun r => r.epoch == epoch)).map SecondRecord.second

/-- R179: RS takes an F notice from the own Scalar Counter. -/
def storeOwnF (f : FValue) (rs : RS) : RS :=
  if ringHolds f.epoch f.second rs then writeOwnF f rs
  else match newestOfEpoch f.epoch rs with
    | none => { rs with pendingF := some f }
    | some newest => if laterThan f.second newest then { rs with pendingF := some f } else rs

end Sys2Proof.Machine
end

