-- ==== Sys2Proof/Machine/Vector.lean ====
section
/-! DEFINITION. The Vector Front End (chapter 05): the start sequence, faults, samples, the judgement of a closed second and the
retune. RE's reaction to the settings notice (R131) stands here, because a retune hands it over. -/

namespace Sys2Proof.Machine

/-! ## Compensation -/

/-- R76: the compensation of an axis under given settings. -/
def compOf (im : Image) (a : Axis) (st : Settings) : Int :=
  st.coarse * axisGet im.coarseStep a + st.fine * axisGet im.fineStep a

/-- R131: RE takes a settings notice: the latest settings, and on an OPEN second the flag RETUNED and the attached settings. -/
def settingsNotice (st : Axes Settings) (re : RE) : RE :=
  if re.isOpen then
    { re with latest := some st, sticky := { re.sticky with retuned := true }, attached := some st }
  else { re with latest := some st }

/-! ## Start sequence -/

/-- The loop drive turned off: loop-good is absent while the loop is off (chapter 05, "The start sequence"; log 18). -/
def loopOff (s : State) : State :=
  let s := s.setVfe { s.vfe with loop := false }
  s.setPins { s.pins with loopGood := false }

/-- R78: entry to LOOP_START. -/
def enterLoopStart (s : State) : State :=
  s.setVfe { s.vfe with state := .loopStart, loop := true, timer := some 20000000 }

/-- R77: entry to DRIVE_START; LOOP_START follows at once when drive-good is already present. -/
def enterDriveStart (s : State) : State :=
  let s := loopOff s
  let s := s.setVfe { s.vfe with
    state := .driveStart
    settings := Settings.zero
    excitation := true
    timer := some 5000000 }
  if s.pins.driveGood then enterLoopStart s else s

/-- R79: entry to RUNNING from LOOP_START. -/
def enterRunning (s : State) : State :=
  s.setVfe { s.vfe with
    state := .running
    timer := none
    bandRun := ⟨0, 0, 0⟩
    clipRun := ⟨0, 0, 0⟩
    lastClip := ⟨none, none, none⟩
    request := true }

/-- R80: entry to FAULTED. -/
def enterFaulted (c : FaultCause) (s : State) : State :=
  let s := loopOff s
  let s := s.setVfe { s.vfe with
    state := .faulted
    excitation := false
    timer := none
    blank := 0
    request := false
    cause := some c
    holdoff := 0
    faults := bump s.vfe.faults }
  raiseEvent .frontEndFault s.tb.second s

/-- R81: the VFE takes a mark notice: in FAULTED the holdoff counts, and the tenth mark enters DRIVE_START. -/
def markVfe (s : State) : State :=
  if s.vfe.state = .faulted then
    let s' := s.setVfe { s.vfe with holdoff := s.vfe.holdoff + 1 }
    if 10 ≤ s.vfe.holdoff + 1 then enterDriveStart (s'.setVfe { s'.vfe with holdoff := 10 }) else s'
  else s

/-! ## Samples -/

/-- One axis's part of a sample (R82): a value, a clip with its sign, or a blank mark. -/
inductive Part where
  | value (v : Int)
  | clip (sign : Sign)
  | blank
deriving DecidableEq, Repr

/-- R83: a residual count is clipped at 8,000,000 and above in magnitude. -/
def clips (r : BitVec 24) : Bool :=
  decide (8000000 ≤ r.toInt.natAbs)

/-- The sign of a residual count. -/
def signOf (r : BitVec 24) : Sign :=
  if r.toInt < 0 then .negative else .positive

/-- R83: an axis's part of a sample in RUNNING. -/
def partOf (im : Image) (a : Axis) (st : Settings) (r : BitVec 24) : Part :=
  if clips r then .clip (signOf r)
  else .value (compOf im a st + roundDiv (r.toInt * axisGet im.gain a) 65536)

/-- R83: what a sample in RUNNING does to the VFE: the last clip signs and the clipped-sample counter, once per clipped axis. -/
def noteClip (a : Axis) (r : BitVec 24) (v : VFE) : VFE :=
  if clips r then
    { v with lastClip := axisSet v.lastClip a (some (signOf r)), clipped := bump v.clipped }
  else v

/-- R82, R93: the VFE after an instant it takes in RETUNING; the 32nd completes the settle. -/
def settleStep (v : VFE) : VFE :=
  if 32 ≤ v.blank + 1 then { v with state := .running, blank := 0, retunes := bump v.retunes }
  else { v with blank := v.blank + 1 }

/-! ## Judging a closed second -/

/-- R84: the residual report of a closed second. -/
structure ResidualReport where
  means : Axes (Option Int)
  n : Axes Nat
  clipped : Axes Nat
  retuned : Bool
deriving DecidableEq, Repr

/-- R85: the mean residual of an axis, when available. -/
def meanResidual (im : Image) (v : VFE) (r : ResidualReport) (a : Axis) : Option Int :=
  if r.retuned then none
  else match axisGet r.means a with
    | some m => some (m - compOf im a (axisGet v.settings a))
    | none => none

/-- R85: the clip estimate of an axis. With no last clip sign, which R79 may have cleared after the clips, the axis has none (the
model's choice, log 26). -/
def clipEstimate (im : Image) (v : VFE) (a : Axis) : Option Int :=
  match axisGet v.lastClip a with
  | some .positive => some (roundDiv (8000000 * axisGet im.gain a) 65536)
  | some .negative => some (-(roundDiv (8000000 * axisGet im.gain a) 65536))
  | none => none

/-- R85: the retune residual of an axis. -/
def retuneResidual (im : Image) (v : VFE) (r : ResidualReport) (a : Axis) : Option Int :=
  match meanResidual im v r a with
  | some m => some m
  | none =>
    if axisGet r.n a = 0 ∧ 1 ≤ axisGet r.clipped a then clipEstimate im v a else none

/-- R86: the band run of an axis after an evaluation. -/
def nextBandRun (im : Image) (v : VFE) (r : ResidualReport) (a : Axis) : Nat :=
  match meanResidual im v r a with
  | some m => if im.retuneBand < (m.natAbs : Int) then satInc 3 (axisGet v.bandRun a) else 0
  | none => 0

/-- R87: the clip run of an axis after an evaluation. -/
def nextClipRun (v : VFE) (r : ResidualReport) (a : Axis) : Nat :=
  if 1 ≤ axisGet r.clipped a then satInc 2 (axisGet v.clipRun a) else 0

/-- R91: the settings computed for one axis from its retune residual. -/
def retunedSettings (im : Image) (a : Axis) (st : Settings) (rho : Int) : Settings :=
  let coarse := axisGet im.coarseStep a
  let fine := axisGet im.fineStep a
  let target := compOf im a st + rho
  let f1 := roundDivInt (target - st.coarse * coarse) fine
  if -128 ≤ f1 ∧ f1 ≤ 127 then ⟨st.coarse, f1⟩
  else
    let c2 := clampInt (-32) 31 (roundDivInt target coarse)
    ⟨c2, clampInt (-128) 127 (roundDivInt (target - c2 * coarse) fine)⟩

/-- R91: an axis with no retune residual keeps its settings. -/
def settingsAfter (im : Image) (v : VFE) (r : ResidualReport) (a : Axis) : Settings :=
  match retuneResidual im v r a with
  | some rho => retunedSettings im a (axisGet v.settings a) rho
  | none => axisGet v.settings a

/-- R88: every axis has an available mean residual. -/
def allMeans (im : Image) (v : VFE) (r : ResidualReport) : Bool :=
  allAxes (fun a => (meanResidual im v r a).isSome)

/-- R91, R92: the retune: new settings, the settings notice, RETUNING with blank count 0, band runs 0, and the request cleared
if every axis had a mean residual. The runs in `v` are those after R86 and R87. -/
def performRetune (im : Image) (v : VFE) (r : ResidualReport) (s : State) : State :=
  let st := axesOf (settingsAfter im v r)
  let s := s.setVfe { v with
    settings := st
    state := .retuning
    blank := 0
    bandRun := ⟨0, 0, 0⟩
    request := v.request && !allMeans im v r }
  s.setRe (settingsNotice st s.re)

/-- R84 to R90: the VFE evaluates a residual report when it is RUNNING or RETUNING, and discards it in any other state. -/
def evaluateReport (r : ResidualReport) (s : State) : State :=
  let im := s.sul.image
  let v := { s.vfe with
    bandRun := axesOf (nextBandRun im s.vfe r)
    clipRun := axesOf (nextClipRun s.vfe r) }
  match s.vfe.state with
  | .retuning => s.setVfe v
  | .running =>
    let band := anyAxis (fun a => axisGet v.bandRun a == 3)
    let inhibited := band && disturbedFlag s.bw.state
    let urgent := anyAxis (fun a => axisGet v.clipRun a == 2)
    let request := v.request && allMeans im v r
    let v := { v with bandInhibit := if inhibited then bump v.bandInhibit else v.bandInhibit }
    if ((band && !inhibited) || urgent || request)
        && anyAxis (fun a => (retuneResidual im v r a).isSome) then
      performRetune im v r s
    else s.setVfe v
  | _ => s

/-! ## RECENTER -/

/-- R89: the answer to RECENTER by state. -/
def recenterResult (v : VFE) : ResultCode :=
  match v.state with
  | .off => .notRole
  | .running => .ok
  | _ => .busy

/-- R89: RECENTER sets the retune request in RUNNING. -/
def recenterVfe (v : VFE) : VFE :=
  match v.state with
  | .running => { v with request := true }
  | _ => v

end Sys2Proof.Machine
end

