-- ==== Sys2Proof/Machine/Reduction.lean ====
section
/-! DEFINITION. The Reduction Engine (chapter 08): the open second, closing, steps and relabels, the correction temperature, and
the axis chains. -/

namespace Sys2Proof.Machine

/-! ## Sums -/

/-- R130: the value of an axis sum. -/
def sumValue (w : Sum48) : Int :=
  w.ext.toInt * 4294967296 + (w.low.toNat : Int)

/-- R130: an axis value added to the low part modulo 2^32; a carry increments the extension, a borrow decrements it. -/
def addToSum (w : Sum48) (v : Int) : Sum48 :=
  let t := (w.low.toNat : Int) + v
  ⟨BitVec.ofInt 32 t,
   if 4294967296 ≤ t then w.ext + 1 else if t < 0 then w.ext - 1 else w.ext⟩

/-! ## Taking a sample -/

/-- R131: one axis's part taken into the OPEN second. A blanked part attaches the latest settings. -/
def takePart (a : Axis) (p : Part) (re : RE) : RE :=
  match p with
  | .value v =>
    { re with
      sums := axisSet re.sums a (addToSum (axisGet re.sums a) v)
      n := axisSet re.n a (axisGet re.n a + 1) }
  | .clip _ =>
    { re with
      clipped := axisSet re.clipped a (axisGet re.clipped a + 1)
      sticky := { re.sticky with clip := true } }
  | .blank =>
    { re with
      blanked := axisSet re.blanked a (axisGet re.blanked a + 1)
      sticky := { re.sticky with blank := true, retuned := true }
      attached := re.latest }

/-- R129, first case: the instant joins the taken set and the three parts are taken; a repeat is discarded. -/
def takeParts (k : Instant) (ps : Axes Part) (re : RE) : RE :=
  if re.taken.contains k then re
  else
    let re := { re with taken := re.taken ++ [k] }
    takePart .z ps.z (takePart .y ps.y (takePart .x ps.x re))

/-! ## The correction temperature -/

/-- R136: the correction temperature a close chooses: its source, and the value with its clamp flag. -/
def chooseTemp (s : State) : TcorrSource × Option TempValue :=
  let im := s.sul.image
  let own := match s.tu.sensor.reading with
    | some r => if r.age ≤ 2 * im.acqPeriod then some (⟨r.value, r.clamp⟩ : TempValue) else none
    | none => none
  let peer :=
    if im.substitutePeer = 0 then none
    else match s.pt.entries.find? (fun e => e.id == im.substitutePeer) with
      | some e => match e.latestTemp with
        | some t => if t.age ≤ 30 then some (⟨t.value, .none⟩ : TempValue) else none
        | none => none
      | none => none
  let held := match s.re.held with
    | some h => if h.age ≤ 600 then some (⟨h.value, h.clamp⟩ : TempValue) else none
    | none => none
  match own, peer, held with
  | some t, _, _ => (.localReading, some t)
  | none, some t, _ => (.peer, some t)
  | none, none, some t => (.held, some t)
  | none, none, none => (.none, none)

/-- R137: the held correction temperature after a close that chose a source. -/
def heldAfter (choice : TcorrSource × Option TempValue) (old : Option HeldTemp) : Option HeldTemp :=
  match choice with
  | (.localReading, some t) => some ⟨t.value, t.clamp, 0⟩
  | (.peer, some t) => some ⟨t.value, t.clamp, 0⟩
  | _ => old

/-! ## Closing -/

/-- A TU reading as a record carries it (R133). -/
def recordReading (r : Option Reading) : Option RecordReading :=
  r.map (fun r => ⟨r.value, r.clamp, r.second⟩)

/-- R133: the record of the current second, its axes absent, PROVISIONAL, with the correction temperature chosen. -/
def closedRecord (choice : TcorrSource × Option TempValue) (s : State) : SecondRecord where
  sequence := nextSequence (newestSecond s.rs)
  epoch := s.re.epoch
  second := s.re.second
  final := false
  flags :=
    { noFlags with
      clip := s.re.sticky.clip
      blank := s.re.sticky.blank
      step := s.re.sticky.step
      relabel := s.re.sticky.relabel
      retuned := s.re.sticky.retuned
      incomplete := incompleteFlag s.sul.image s.re.n
      noTcorr := choice.1 == .none
      thermal := thermalFlag s.tu
      disturbed := disturbedFlag s.bw.state }
  axes := axesOf (fun a => ⟨none, axisGet s.re.n a⟩)
  settings := if s.re.sticky.retuned then s.re.attached else none
  tcorr := choice.2
  tsource := choice.1
  sensor := recordReading s.tu.sensor.reading
  pier := recordReading s.tu.pier.reading
  discipline := s.du.state
  errorBound := s.du.errorBound
  disturbance := s.bw.state
  magnitude := none
  f := none
  deltaF := none
  reason := none
  ownF := none

/-- The chain record of a record about to enter the chain list (R138). -/
def chainOf (r : SecondRecord) (re : RE) : ChainRecord where
  sequence := r.sequence
  epoch := r.epoch
  second := r.second
  sums := re.sums
  n := re.n
  clipped := re.clipped
  tcorr := r.tcorr.map TempValue.value
  steps := ⟨.waiting, .waiting, .waiting⟩
  means := ⟨none, none, none⟩
  values := ⟨none, none, none⟩
  reported := false
  flags := r.flags

/-- R133: the OPEN second closes: its record goes to RS, the held temperature follows R137, and the record joins the chain list.
With 12 records in the list it is refused a chain and comes back: its axes are absent and ARITH sets. -/
def closeSecond (s : State) : State × Option ChainRecord :=
  let choice := chooseTemp s
  let r := closedRecord choice s
  let c := chainOf r s.re
  if 12 ≤ s.re.chain.length then
    let r := { r with flags := { r.flags with arith := true } }
    let s := s.setRe { s.re with held := heldAfter choice s.re.held, chainOverflow := bump s.re.chainOverflow }
    (enterRecord r s, some { c with flags := r.flags, steps := ⟨.ended, .ended, .ended⟩ })
  else
    let s := s.setRe { s.re with held := heldAfter choice s.re.held, chain := s.re.chain ++ [c] }
    (enterRecord r s, none)

/-- The current second is left: an OPEN one closes, a PASSED one leaves no record (R132, R134, R135). -/
def leaveSecond (s : State) : State × Option ChainRecord :=
  if s.re.isOpen then closeSecond s else (s, none)

/-- R128: a second opens: OPEN, or PASSED when RS holds a record of its epoch and number. -/
def openSecond (second : Second) (epoch : Epoch) (flags : StickyFlags) (s : State) : State :=
  s.setRe { s.re with
    isOpen := !ringHolds epoch second s.rs
    second := second
    epoch := epoch
    taken := []
    sums := ⟨Sum48.zero, Sum48.zero, Sum48.zero⟩
    n := ⟨0, 0, 0⟩
    clipped := ⟨0, 0, 0⟩
    blanked := ⟨0, 0, 0⟩
    sticky := flags
    attached := none }

/-! ## The axis chains -/

/-- An axis has ended the first step of a record's chain: its mean has been delivered, or it has n = 0 (R139). -/
def firstStepEnded (c : ChainRecord) (a : Axis) : Bool :=
  match axisGet c.steps a with
  | .waiting | .mean => axisGet c.n a == 0
  | .scale _ | .offset _ _ | .ended => true

/-- All three chains of a record have ended (R142). -/
def chainsEnded (c : ChainRecord) : Bool :=
  allAxes (fun a => axisGet c.steps a == .ended)

/-- The residual report of a record (R139). -/
def reportOf (c : ChainRecord) : ResidualReport :=
  ⟨c.means, c.n, c.clipped, c.flags.retuned⟩

/-- R139: the chain list with the reports due marked as given, and the records whose reports they are, in close order: a record
whose report is not due yet holds those of later records back (log 19). -/
def dueReports : List ChainRecord → List ChainRecord × List ChainRecord
  | [] => ([], [])
  | c :: cs =>
    if c.reported then (c :: (dueReports cs).1, (dueReports cs).2)
    else if allAxes (firstStepEnded c) then ({ c with reported := true } :: (dueReports cs).1, c :: (dueReports cs).2)
    else (c :: cs, [])

/-- R139: RE gives the reports due. -/
def giveReports (s : State) : State :=
  let due := dueReports s.re.chain
  due.2.foldl (fun s c => evaluateReport (reportOf c) s) (s.setRe { s.re with chain := due.1 })

/-- R4, R142: the vector summary after a record's chains have ended: the newest such record. A record refused a chain (R133) can
end before older ones do (log 22). -/
def newerSummary (c : ChainRecord) (old : Option VectorSummary) : Option VectorSummary :=
  match old with
  | some o => if laterThan o.sequence c.sequence then some o else some ⟨c.sequence, c.second, c.values⟩
  | none => some ⟨c.sequence, c.second, c.values⟩

/-- R142: the chains-ended notice of a record to MDM and to BW, and the vector summary of R4. -/
def chainsEndedNotice (c : ChainRecord) (s : State) : State :=
  let s := s.setRe { s.re with summary := newerSummary c s.re.summary }
  watchRecord c.flags c.values c.second (matchRecord c.sequence c.epoch c.second c.values s)

/-- R142: the records whose three chains have ended leave the chain list, in close order. -/
def endChains (s : State) : State :=
  let done := s.re.chain.filter chainsEnded
  let s := s.setRe { s.re with chain := s.re.chain.filter (fun c => !chainsEnded c) }
  done.foldl (fun s c => chainsEndedNotice c s) s

/-- R138: an axis moves on in the chain list: it ends at once the chains of records with n = 0 and starts the first other one
it has not ended, unless it is within a chain. Returns the list and the mean request to place. -/
def startAxisList (a : Axis) : List ChainRecord → List ChainRecord × Option Operation
  | [] => ([], none)
  | c :: cs =>
    match axisGet c.steps a with
    | .ended =>
      let rest := startAxisList a cs
      (c :: rest.1, rest.2)
    | .waiting =>
      if axisGet c.n a = 0 then
        let rest := startAxisList a cs
        ({ c with steps := axisSet c.steps a .ended } :: rest.1, rest.2)
      else
        ({ c with steps := axisSet c.steps a .mean } :: cs,
          some (.divide (sumValue (axisGet c.sums a)) (axisGet c.n a)))
    | .mean | .scale _ | .offset _ _ => (c :: cs, none)

/-- R138, R139: an axis client moves on, placing its next mean request if there is one. -/
def startAxis (a : Axis) (s : State) : State :=
  let moved := startAxisList a s.re.chain
  let s := s.setRe { s.re with chain := moved.1 }
  match moved.2 with
  | some op => place (.axis a) op s
  | none => s

/-- What follows a change of the chain list: the reports due, then the records that have ended. Where both fall at one moment, the
VFE judges the report (R86) before BW takes the record's chains-ended notice (R173): the model's choice (log 5). -/
def settleChains (s : State) : State :=
  endChains (giveReports s)

/-- A record refused a chain (R133): its report with every mean absent, and its chains taken as ended at once; the report is judged
before BW takes the notice (the model's choice, log 5). -/
def refusedNotice (c : Option ChainRecord) (s : State) : State :=
  match c with
  | some c => chainsEndedNotice c (evaluateReport (reportOf c) s)
  | none => s

/-- The current second is left and another opens (R132, R134, R135); then the chains of the closed record begin (R133, R138). A
MINUTE request that the record's entry brings (R180) is placed before the means of the axes, whose order is that of `ties` (R143;
the model's choice, log 5). -/
def changeSecond (second : Second) (epoch : Epoch) (flags : StickyFlags) (s : State) : State :=
  let left := leaveSecond s
  let s := refusedNotice left.2 (openSecond second epoch flags left.1)
  settleChains ((axisOrderList s.ties.axisOrder).foldl (fun s a => startAxis a s) s)

/-- R141: the corrected value clamped to ±100,000,000 pT. -/
def clampField (v : Int) : Int :=
  clampInt (-100000000) 100000000 v

/-- R141: a value beyond the range. -/
def outOfRange (v : Int) : Bool :=
  decide (v < -100000000) || decide (100000000 < v)

/-- The chain record of an axis in progress updated. -/
def updateActive (a : Axis) (f : ChainRecord → ChainRecord) : List ChainRecord → List ChainRecord
  | [] => []
  | c :: cs =>
    match axisGet c.steps a with
    | .ended => c :: updateActive a f cs
    | _ => f c :: cs

/-- The first chain record an axis has not ended. -/
def activeRecord (a : Axis) : List ChainRecord → Option ChainRecord
  | [] => none
  | c :: cs =>
    match axisGet c.steps a with
    | .ended => activeRecord a cs
    | _ => some c

/-- A DIVIDE of an axis chain is placed and the chain stands at the given step. -/
def nextDivision (a : Axis) (step : ChainStep) (op : Operation) (s : State) : State :=
  place (.axis a) op (s.setRe { s.re with
    chain := updateActive a (fun c => { c with steps := axisSet c.steps a step }) s.re.chain })

/-- R141: an axis chain ends with a corrected value, written into the record at once; RANGE and the range-clamp counter when
the clamp acts. The axis then moves on. -/
def endWithValue (a : Axis) (q : Sequence) (v : Int) (s : State) : State :=
  let big := outOfRange v
  let w := clampField v
  let s := s.setRe { s.re with
    rangeClamp := if big then bump s.re.rangeClamp else s.re.rangeClamp
    chain := updateActive a (fun c => { c with
      steps := axisSet c.steps a .ended
      values := axisSet c.values a (some w)
      flags := { c.flags with range := c.flags.range || big } }) s.re.chain }
  let s := s.setRs (writeRecord q (fun r => { r with
    axes := axisSet r.axes a { axisGet r.axes a with value := some w }
    flags := { r.flags with range := r.flags.range || big } }) s.rs)
  startAxis a s

/-- R146: an axis chain ends without a value: the axis is absent and ARITH sets. -/
def endWithout (a : Axis) (q : Sequence) (s : State) : State :=
  let s := s.setRe { s.re with
    chain := updateActive a (fun c => { c with
      steps := axisSet c.steps a .ended
      flags := { c.flags with arith := true } }) s.re.chain }
  let s := s.setRs (writeRecord q (fun r => { r with
    axes := axisSet r.axes a { axisGet r.axes a with value := none }
    flags := { r.flags with arith := true } }) s.rs)
  startAxis a s

/-- R139 to R141: an axis client takes a DIVIDE result (none: DIVIDE_FAULT, R146) and moves to its next step. The request an axis
places when it moves on enters the DRU's queue before MAGNITUDE's ROOT of the same moment, and before a MINUTE request that the
finalization of a record whose chains end brings (NO_VECTOR, or DISPLACED; R143, R150; the model's choice, log 5). -/
def deliverAxis (a : Axis) (v : Option Int) (s : State) : State :=
  match activeRecord a s.re.chain with
  | none => s
  | some c =>
    match axisGet c.steps a, v with
    | .waiting, _ => s
    | .ended, _ => s
    | _, none => settleChains (endWithout a c.sequence s)
    | .mean, some m =>
      let s := s.setRe { s.re with
        chain := updateActive a (fun c => { c with means := axisSet c.means a (some m) }) s.re.chain }
      match c.tcorr with
      | none => settleChains (endWithValue a c.sequence m s)
      | some t =>
        settleChains (nextDivision a (.scale m)
          (.divide (m * axisGet s.sul.image.ks a * (t - s.sul.image.t0)) 100000000000) s)
    | .scale m, some sc =>
      match c.tcorr with
      | none => s
      | some t => nextDivision a (.offset m sc) (.divide (axisGet s.sul.image.ko a * (t - s.sul.image.t0)) 100) s
    | .offset m sc, some off => settleChains (endWithValue a c.sequence (m - sc - off) s)

/-! ## Notices of TB -/

/-- R132: RE acts on the accumulation at a mark notice, or at a sample of a later second (R129). -/
def markAccumulation (second : Second) (epoch : Epoch) (s : State) : State :=
  if epoch = s.re.epoch ∧ laterThan second s.re.second = true then
    changeSecond second epoch StickyFlags.clear s
  else s

/-- R132: the age of the held correction temperature, saturating at 65,535. -/
def ageHeldTemp (h : Option HeldTemp) : Option HeldTemp :=
  h.map (fun h => { h with age := bump h.age })

/-- R132: RE takes a mark notice. -/
def markRe (second : Second) (epoch : Epoch) (s : State) : State :=
  let s := markAccumulation second epoch s
  s.setRe { s.re with held := ageHeldTemp s.re.held }

/-- R129: RE takes a sample the VFE hands over. -/
def takeSample (n : InstantNotice) (ps : Axes Part) (s : State) : State :=
  let s := markAccumulation n.second n.epoch s
  if n.epoch = s.re.epoch ∧ n.second = s.re.second ∧ s.re.isOpen = true then
    s.setRe (takeParts n.k ps s.re)
  else s

/-- STEP set on the current second (R134). -/
def setStep (re : RE) : RE :=
  { re with sticky := { re.sticky with step := true } }

/-- R134: RE takes a step notice with the second count after the move. -/
def stepNotice (second : Second) (s : State) : State :=
  let s := s.setRe (setStep s.re)
  if laterThan second s.re.second then
    changeSecond second s.re.epoch { StickyFlags.clear with step := true } s
  else s

/-- R135: RE takes a relabel notice with the second count after the move and the new epoch. -/
def relabelNotice (second : Second) (epoch : Epoch) (s : State) : State :=
  let s := s.setRe { s.re with sticky := { s.re.sticky with relabel := true } }
  changeSecond second epoch { StickyFlags.clear with relabel := true } s

/-! ## The VFE's samples -/

/-- R82, R83, R93: the VFE acts on an instant notice with the residual counts then present, and hands its sample to RE. -/
def vfeInstant (n : InstantNotice) (r : Axes (BitVec 24)) (s : State) : State :=
  match s.vfe.state with
  | .running =>
    let im := s.sul.image
    let ps := axesOf (fun a => partOf im a (axisGet s.vfe.settings a) (axisGet r a))
    let v := noteClip .z r.z (noteClip .y r.y (noteClip .x r.x s.vfe))
    takeSample n ps (s.setVfe v)
  | .retuning =>
    let s := takeSample n ⟨.blank, .blank, .blank⟩ s
    let v := settleStep s.vfe
    if s.vfe.state = .retuning then
      if v.state = .running then raiseEvent .retune n.second (s.setVfe v) else s.setVfe v
    else s
  | _ => s

end Sys2Proof.Machine
end

