-- ==== Sys2Proof/Machine/Scalar.lean ====
section
/-! DEFINITION. The Scalar Counter (chapter 06): the cycle, reciprocal counting, and the F notice. -/

namespace Sys2Proof.Machine

/-- R103: what a cycle that ends without F does to SCN, with the state it enters. -/
def endCycleScn (reason : ScnOutcome) (next : ScnState) (c : SCN) : SCN :=
  { c with
    current := false
    timer := none
    latestF := none
    outcome := some reason
    absent := bump c.absent
    state := next }

/-- R103: a cycle ends without F and SCN enters WAIT. -/
def endCycle (reason : ScnOutcome) (s : State) : State :=
  s.setScn (endCycleScn reason .wait s.scn)

/-- R101: a polarize-current fault in POLARIZE. -/
def polarizeFaults (s : State) : State :=
  let c := endCycleScn .polarizeFault .faulted s.scn
  raiseEvent .frontEndFault s.tb.second (s.setScn { c with faults := bump c.faults })

/-- R100: SCN at entry to POLARIZE; the polarize time is in tenths of a second. -/
def polarizeScn (im : Image) (c : SCN) : SCN :=
  { c with
    state := .polarize
    first := none
    last := none
    n := 0
    t := 0
    current := true
    timer := some (im.polarizeTime * 1000000) }

/-- R100, R101: entry to POLARIZE, which faults at once while the indication is present. -/
def enterPolarize (s : State) : State :=
  let s := s.setScn (polarizeScn s.sul.image s.scn)
  if s.pins.polarizeFault then polarizeFaults s else s

/-- A second count that is a multiple of a period (R99, R113). -/
def startMark (second : Second) (period : Nat) : Bool :=
  second.toNat % period == 0

/-- R99: SCN takes a mark notice. -/
def markScn (second : Second) (s : State) : State :=
  if startMark second s.sul.image.cyclePeriod then
    match s.scn.state with
    | .wait | .faulted => enterPolarize s
    | _ => s
  else s

/-- R102, R100: SCN enters DEAD at the end of POLARIZE. -/
def enterDead (c : SCN) : SCN :=
  { c with state := .dead, current := false, timer := some 200000 }

/-- R104, R105: SCN enters GATE; the cycle ends at once with NO_SIGNAL when signal-detect is absent. The gate time is in
hundredths of a second. -/
def enterGate (s : State) : State :=
  let s := s.setScn { s.scn with state := .gate, timer := some (s.sul.image.gateTime * 100000) }
  if s.pins.signalDetect then s else endCycle .noSignal s

/-- Ticks from one stamp to a later one (R104); the second counts differ modulo 2^32 (log 17). -/
def ticksBetween (a b : Stamp) : Nat :=
  (signedDiff b.second a.second * 10000000 + (b.tick : Int) - (a.tick : Int)).toNat

/-- R104: SCN takes a rising crossing in the gate. -/
def crossing (now : Stamp) (c : SCN) : SCN :=
  match c.first with
  | none => { c with first := some now, last := some now }
  | some f => { c with last := some now, n := satInc 4000 c.n, t := ticksBetween f now }

/-- R106: the midpoint label: the first crossing plus rounded(T / 2) ticks, in the epoch of the first crossing. -/
def midpointOf (f : Stamp) (t : Nat) : Second × Epoch :=
  let ticks := f.tick + (roundDiv t 2).toNat
  (f.second + BitVec.ofNat 32 (ticks / 10000000), f.epoch)

/-- R106: the frequency lies outside 850..3,500 Hz, tested on the integers. -/
def outsideBand (n t : Nat) : Bool :=
  decide (n * 10000000 < 850 * t) || decide (3500 * t < n * 10000000)

/-- R106, R107: gate close: the tests in order, then the midpoint label and the DIVIDE of client SCALAR. -/
def closeGate (s : State) : State :=
  if s.scn.n < 100 then endCycle .fewCycles s
  else if outsideBand s.scn.n s.scn.t then endCycle .range s
  else
    let s := s.setScn { s.scn with
      state := .compute
      timer := none
      mid := s.scn.first.map (fun f => midpointOf f s.scn.t) }
    place .scalar (.divide ((s.scn.n : Int) * 234872000000) s.scn.t) s

/-- R107: SCN takes the result: the latest F, and the F notice to MDM and then to RS (the model's choice of order, log 5). A DIVIDE_FAULT, which its divisor never causes
(R146), leaves F absent (log 8). -/
def deliverScalar (v : Option Int) (s : State) : State :=
  match s.scn.state, v, s.scn.mid with
  | .compute, some f, some m =>
    let fv : FValue := ⟨f, m.1, m.2⟩
    let s := s.setScn { s.scn with
      latestF := some fv
      outcome := some .f
      fCount := bump s.scn.fCount
      state := .wait }
    let s := takeOwnF f m.1 s
    s.setRs (storeOwnF fv s.rs)
  | .compute, _, _ => s.setScn { s.scn with latestF := none, state := .wait }
  | _, _, _ => s

/-- R108: SCN takes a step or relabel notice. -/
def abortCycle (s : State) : State :=
  match s.scn.state with
  | .polarize | .dead | .gate => endCycle .stepAbort s
  | _ => s

end Sys2Proof.Machine
end

