-- ==== Sys2Proof/Machine/Thermal.lean ====
section
/-! DEFINITION. The Temperature Unit (chapter 07): acquisition, conversion, channel faults, the excursion watch. -/

namespace Sys2Proof.Machine

/-- R118, R119: the straight line of a channel, clamped to −4,000..8,500 cd with its clamp flag. -/
def convertCode (slope intercept : Int) (code : BitVec 16) : TempValue :=
  let v := intercept + roundDiv ((code.toNat : Int) * slope) 65536
  if v < -4000 then ⟨-4000, .low⟩ else if 8500 < v then ⟨8500, .high⟩ else ⟨v, .none⟩

/-- R121: the fault-queue depth Q of a queue code. -/
def queueDepth (code : Nat) : Nat :=
  if code = 0 then 1 else if code = 1 then 2 else if code = 2 then 4 else 6

/-- R116: a code below 500 or above 65,000 is a faulted reading. -/
def codeFaulted (code : BitVec 16) : Bool :=
  decide (code.toNat < 500) || decide (65000 < code.toNat)

/-- R116: a channel after a faulted reading, and whether SENSOR_FAULT is raised. -/
def faultedReading (c : TempChannel) : TempChannel × Bool :=
  let c := { c with faultedReadings := bump c.faultedReadings }
  if c.faultRun = 2 ∧ c.faulted = false then
    ({ c with faultRun := 3, faulted := true, reading := none }, true)
  else ({ c with faultRun := satInc 3 c.faultRun }, false)

/-- R122, Figure 57: the excursion watch after a good reading, and the event raised. -/
def moveWatch (q : Nat) (hot cool v : Int) (c : TempChannel) : TempChannel × Option EventKind :=
  match c.watch with
  | .normal =>
    if hot < v then
      if q ≤ 1 then ({ c with watch := .excursion, queue := 0 }, some .thermalStart)
      else ({ c with watch := .counting, queue := 1 }, none)
    else (c, none)
  | .counting =>
    if hot < v then
      if q ≤ c.queue + 1 then ({ c with watch := .excursion, queue := 0 }, some .thermalStart)
      else ({ c with queue := c.queue + 1 }, none)
    else ({ c with watch := .normal, queue := 0 }, none)
  | .excursion =>
    if v < cool then ({ c with watch := .normal, queue := 0 }, some .thermalEnd)
    else (c, none)

/-- R117 to R120: a channel after a good code, before the watch moves. -/
def goodReading (t : TempValue) (second : Second) (epoch : Epoch) (c : TempChannel) : TempChannel :=
  { c with
    faultRun := 0
    faulted := false
    reading := some ⟨t.value, t.clamp, second, epoch, 0⟩
    clampedReadings := if t.clamp = .none then c.clampedReadings else bump c.clampedReadings }

/-- A channel of TU. -/
def getChannel (ch : Channel) (tu : TU) : TempChannel :=
  match ch with
  | .sensor => tu.sensor
  | .pier => tu.pier

/-- A channel of TU replaced. -/
def setChannel (ch : Channel) (c : TempChannel) (tu : TU) : TU :=
  match ch with
  | .sensor => { tu with sensor := c }
  | .pier => { tu with pier := c }

/-- R116 to R122: a channel's handling of its code, with the event it raises. -/
def channelAfter (im : Image) (ch : Channel) (code : BitVec 16) (second : Second) (epoch : Epoch) (c : TempChannel) :
    TempChannel × Option EventKind :=
  if codeFaulted code then
    let r := faultedReading { c with code := some code }
    (r.1, if r.2 then some .sensorFault else none)
  else
    let t := convertCode (channelGet im.slope ch) (channelGet im.intercept ch) code
    let c := goodReading t second epoch { c with code := some code }
    moveWatch (queueDepth (channelGet im.queueCode ch)) (channelGet im.hot ch) (channelGet im.cool ch) t.value c

/-- R114: TU handles one channel's code with the label of the acquisition. -/
def handleCode (ch : Channel) (code : BitVec 16) (second : Second) (epoch : Epoch) (s : State) : State :=
  let r := channelAfter s.sul.image ch code second epoch (getChannel ch s.tu)
  raiseOpt r.2 second (s.setTu (setChannel ch r.1 s.tu))

/-- R114: the acquisition completes: bias off, WAIT, both codes handled with the clock's second and epoch as label. -/
def completeAcquisition (sensorCode pierCode : BitVec 16) (s : State) : State :=
  let s := s.setTu { s.tu with state := .wait, timer := none, bias := false }
  let sec := s.tb.second
  let ep := s.tb.epoch
  if s.ties.sensorFirst then handleCode .pier pierCode sec ep (handleCode .sensor sensorCode sec ep s)
  else handleCode .sensor sensorCode sec ep (handleCode .pier pierCode sec ep s)

/-- R120: the age of a channel's latest reading, saturating at 255. -/
def ageReading (c : TempChannel) : TempChannel :=
  { c with reading := c.reading.map (fun r => { r with age := satInc 255 r.age }) }

/-- R113: an acquisition starts. -/
def startAcquisition (tu : TU) : TU :=
  { tu with state := .settle, bias := true, timer := some 2500000 }

/-- R113, R120: TU takes a mark notice: the ages, and at a start mark in WAIT an acquisition. In OFF the mark is ignored (R112). -/
def markTu (second : Second) (s : State) : State :=
  if s.tu.state = .off then s
  else
    let tu := { s.tu with sensor := ageReading s.tu.sensor, pier := ageReading s.tu.pier }
    if startMark second s.sul.image.acqPeriod ∧ tu.state = .wait then s.setTu (startAcquisition tu)
    else s.setTu tu

end Sys2Proof.Machine
end

