-- ==== Sys2Proof/Machine/Timebase.lean ====
section
/-! DEFINITION. The Timebase (chapter 02): counting and corrections, the second mark, steps and relabels, the time pulse and its
label. -/

namespace Sys2Proof.Machine

/-! ## Rate and counting -/

/-- R26: the signed correction count of a total of running rate and remainder. -/
def correctionCount (total : Int) : Int :=
  clampInt (-3000) 3000 (roundDiv total 100)

/-- R27: position p(j) of the j-th of |c| corrections. -/
def correctionPosition (c : Int) (j : Nat) : Nat :=
  (roundDiv (10000000 * (2 * (j : Int) - 1)) (2 * c.natAbs)).toNat

/-- R25, R26: TB fixes the running rate and the correction schedule of the second that begins, and consumes the slew order. -/
def fixRate (t : TB) : TB :=
  let rate := t.trim + t.slew.getD 0
  let total := rate + t.remainder
  let c := correctionCount total
  { t with rate := rate, slew := none, remainder := total - 100 * c, schedule := some ⟨c, 0⟩ }

/-- R24, R28: the count that is a second mark: the second count increments, the tick count is 0, the rate of the second is fixed
and the second-mark output is active for 100 ms. -/
def markTb (t : TB) : TB :=
  { fixRate t with second := t.second + 1, tick := 0, output := some 1000000 }

/-- R24, R27: a count that is no second mark: ordinary, an inserted correction by two, or an omitted one that holds. -/
def countTb (t : TB) : TB :=
  match t.schedule with
  | none => { t with tick := t.tick + 1 }
  | some sc =>
    let p := correctionPosition sc.count (sc.made + 1)
    if 0 < sc.count ∧ sc.made < sc.count.natAbs ∧ t.tick + 1 = p then
      { t with tick := t.tick + 2, schedule := some { sc with made := sc.made + 1 } }
    else if sc.count < 0 ∧ sc.made < sc.count.natAbs ∧ t.tick = p then
      { t with schedule := some { sc with made := sc.made + 1 } }
    else { t with tick := t.tick + 1 }

/-- R24, R27: the count of the present period carries the tick count from 9,999,999 on, so that it is a second mark; an omitted
correction holds the tick there. -/
def countIsMark (t : TB) : Bool :=
  decide (10000000 ≤ (countTb t).tick)

/-- R30: the instant a count passes, if it passes one. -/
def instantPassed (before after : Nat) : Option Instant :=
  let k := after / 78125
  if before < 78125 * k ∧ k < 128 then some (BitVec.ofNat 7 k) else none

/-! ## Steps and relabels -/

/-- The offset in whole ticks (R36, R37). -/
def ticksOf (theta : Int) : Int :=
  roundDiv theta 100

/-- R36: the clock after a step of under a second. -/
def stepTb (theta : Int) (t : TB) : TB :=
  let sum := (t.tick : Int) + ticksOf theta
  let t := { t with schedule := none }
  if 10000000 ≤ sum then { t with tick := (sum - 10000000).toNat, second := t.second + 1 }
  else if sum < 0 then { t with tick := (sum + 10000000).toNat, second := t.second - 1 }
  else { t with tick := sum.toNat }

/-- R37: the clock after a relabel, carried across as many seconds as the sum spans, in a new epoch. -/
def relabelTb (theta : Int) (t : TB) : TB :=
  let sum := (t.tick : Int) + ticksOf theta
  { t with
    schedule := none
    second := t.second + BitVec.ofInt 32 (Int.fdiv sum 10000000)
    tick := (Int.fmod sum 10000000).toNat
    epoch := t.epoch + 1 }

/-! ## Time pulse and label -/

/-- R34: the pulse is present while an edge was accepted within 1.5 s and a valid label evaluated within 3 s. -/
def presenceOf (t : TB) : Bool :=
  match t.edge, t.labelAge with
  | some e, some a => decide (e.age ≤ 15000000) && decide (a ≤ 30000000)
  | _, _ => false

/-- R32: a label run is cut short: the line is idle again once the rest of its idle gap has passed (log 29). -/
def cutLabel (t : TB) : TB :=
  match t.label with
  | some run => { t with labelTail := if run.gap = 0 then none else some run.gap }
  | none => t

/-- R32: an octet of the label line is being received: its start bit has come and its stop bit has not. -/
def labelReceiving (t : TB) : Bool :=
  match t.labelPhase with
  | .data _ => true
  | .held | .ready => false

/-- R32: the label of a run at its end. A run whose next octet is still being received is no valid label: an edge cuts it short. That
this holds after five whole octets too is the model's choice (log 30). -/
def runLabel (run : LabelRun) (t : TB) : Option Second :=
  if labelReceiving t then none else labelOf run.octets

/-- R32: the end of a label run: a valid label becomes pending and presence is re-evaluated (R34), another is rejected. -/
def evaluateLabel (t : TB) : TB :=
  match t.label with
  | none => t
  | some run =>
    match runLabel run t with
    | some l =>
      let t := { t with label := none, pendingLabel := some l, labelAge := some 0 }
      { t with present := presenceOf t }
    | none => { t with label := none, labelReject := bump t.labelReject }

/-- R33: the label second of an accepted edge: the pending label, else the last one plus 1, which wraps from 4,294,967,295 to 0
(the model's choice, log 25). -/
def labelSecond (t : TB) : Option Second :=
  match t.pendingLabel with
  | some l => some l
  | none => t.lastLabel.map (· + 1)

/-- R31, R33, R34: TB at an accepted edge: stamp, edge age, window, label run, label second, presence. -/
def acceptEdge (t : TB) : TB :=
  let t := evaluateLabel (cutLabel { t with edge := some ⟨clockOf t, 0⟩, edgeWindow := some 9000000 })
  let t := { t with lastLabel := labelSecond t, pendingLabel := none }
  { t with present := presenceOf t }

/-- R35: the pulse offset of an edge stamped S, t with label second L, formed without wrapping (log 23). -/
def pulseOffset (l s : Second) (t : Nat) : Int :=
  if 5000000 < t then
    ((l.toNat : Int) - ((s.toNat : Int) + 1)) * 1000000000 - ((t : Int) - 10000000) * 100
  else ((l.toNat : Int) - (s.toNat : Int)) * 1000000000 - (t : Int) * 100

/-- R35: the offset handed to DU at an accepted edge, when the pulse is present and a label second exists. -/
def edgeOffset (t : TB) : Option Int :=
  match t.present, t.lastLabel with
  | true, some l => some (pulseOffset l t.second t.tick)
  | _, _ => none

/-- R32: octets join the run in progress, or begin one when the line has been idle; the idle gap of 10 ms is whole again. After a run
that was cut short, an octet before the line is idle belongs to no run (log 29). -/
def extendLabel (os : List RxOctet) (t : TB) : TB :=
  match t.label, t.labelTail with
  | some run, _ => { t with label := some ⟨run.octets ++ os, 100000⟩ }
  | none, some _ => { t with labelTail := some 100000 }
  | none, none => { t with label := some ⟨os, 100000⟩ }

/-- R32: TB takes one bit of the label line: a start bit begins a run or keeps the present one, a stop bit ends an octet and starts the
idle gap, and the bits between are the octet's. -/
def labelSymbol (t : TB) (l : Level) : TB :=
  let r := receiveSymbol l t.labelPhase
  let t := { t with labelPhase := r.1 }
  match r.2 with
  | some o => extendLabel [o] t
  | none => if r.1 = .data [] then extendLabel [] t else t

/-- R32: TB takes successive bits of the label line. -/
def labelLevels (levels : List Level) (t : TB) : TB :=
  levels.foldl labelSymbol t

/-- R32: the idle gap of 10 ms ends: the run in progress ends and is evaluated, and the line is idle. While an octet is being received
no gap runs. -/
def endLabelGap (t : TB) : TB :=
  if labelReceiving t then t else { evaluateLabel t with labelTail := none }

/-- R34: the edge age has passed 1.5 s: the pulse is absent. -/
def passEdgeAge (t : TB) : TB :=
  { t with
    edge := t.edge.map (fun e => { e with age := max e.age 15000001 })
    present := false }

/-- R34: the label age has passed 3 s: the pulse is absent. -/
def passLabelAge (t : TB) : TB :=
  { t with
    labelAge := t.labelAge.map (fun a => max a 30000001)
    present := false }

/-! ## Notices of the second mark and the instants -/

/-- R24 to R30: TB's own part of a second mark, with the mark notices and the notice of instant 0 sent. The mark fixes its rate before
DU takes its notice, so a slew order that DU gives at this mark (R70, R71) acts from the next one (R25; the model's choice, log 5). -/
def tbMark (s : State) : State :=
  let s := s.setTb (markTb s.tb)
  let note := fun b => (⟨b, s.tb.second, s.tb.epoch⟩ : MarkNotice)
  let s := s.setNotices (s.notices ++ [note .re, note .vfe, note .pt, note .du, note .scn, note .tu, note .mdm, note .bw])
  s.setInstants (s.instants ++ [⟨0, s.tb.second, s.tb.epoch⟩])

end Sys2Proof.Machine
end

