-- ==== Sys2Proof/Machine/Peers.lean ====
section
/-! DEFINITION. The Peer Table (chapter 03): taking an announcement, offsets and their spread, entry states, ageing. -/

namespace Sys2Proof.Machine

/-- R60: the offset of a peer from the departure stamp of the body, the arrival stamp and the line delay. -/
def peerOffset (lineDelay : Int) (h : Heard) (arrival : Stamp) : Int :=
  ((h.departureSecond.toNat : Int) - (arrival.second.toNat : Int)) * 1000000000
    + ((h.departureTick : Int) - (arrival.tick : Int)) * 100 + lineDelay

/-- R45: a stored value after an announcement whose bit is set; the age restarts when the part was absent or its second
number differs. -/
def refreshValue (old : Option PeerValue) (new : Option (Second × Int)) : Option PeerValue :=
  match new with
  | none => old
  | some (sec, v) =>
    match old with
    | some o => if o.second = sec then some ⟨v, sec, o.age⟩ else some ⟨v, sec, 0⟩
    | none => some ⟨v, sec, 0⟩

/-- R45: the F of an announcement is new when the entry held none or one of another second number. -/
def newF (old : Option PeerValue) (new : Option (Second × Int)) : Option (Second × Int) :=
  match new with
  | none => none
  | some (sec, v) =>
    match old with
    | some o => if o.second = sec then none else some (sec, v)
    | none => some (sec, v)

/-- R45: a SENSOR reading outside −4,000..8,500 cd is ignored. -/
def acceptedTemp (t : Option (Second × Int)) : Option (Second × Int) :=
  match t with
  | some (sec, v) => if -4000 ≤ v ∧ v ≤ 8500 then some (sec, v) else none
  | none => none

/-- R48: USABLE with a consecutive count of at least 4 and a spread of at most 50,000 ns. -/
def standing (e : PeerEntry) : EntryState :=
  if 4 ≤ e.consecutive ∧ e.spread ≤ 50000 then .usable else .heard

/-- R46: the entry after an offset was formed. -/
def updateOffset (theta : Option Int) (e : PeerEntry) : PeerEntry :=
  match theta with
  | none => e
  | some th =>
    match e.rebase, e.offset with
    | false, some last =>
      { e with
        spread := e.spread + roundDiv (((th - last).natAbs : Int) - e.spread) 4
        offset := some th }
    | _, _ => { e with offset := some th, rebase := false }

/-- R43: the entry created for a new id, before its offset. -/
def createdEntry (id : StationId) (h : Heard) (arrival : Stamp) : PeerEntry where
  id := id
  state := .heard
  abilities := h.abilities
  cls := h.cls
  root := h.root
  depth := h.depth
  locked := h.locked
  reference := h.reference
  errorBound := h.errorBound
  lastSequence := h.sequence
  consecutive := 1
  missed := 0
  lastArrival := arrival
  offset := none
  spread := 0
  rebase := false
  marksSince := 0
  latestF := refreshValue none h.f
  latestTemp := refreshValue none (acceptedTemp h.temp)
  disturbance := h.disturbance
  retuning := h.retuning

/-- R44: the sequence accounted on an existing entry. -/
def accountSequence (seq : BitVec 8) (e : PeerEntry) : PeerEntry :=
  let d := seq - e.lastSequence
  let gap := (d - 1).toNat
  match e.state with
  | .stale =>
    { e with missed := addSat e.missed gap, consecutive := 1, spread := 0, rebase := true, lastSequence := seq }
  | .heard | .usable =>
    if d = 1 then { e with consecutive := satInc 255 e.consecutive, lastSequence := seq }
    else { e with missed := addSat e.missed gap, consecutive := 1, lastSequence := seq }

/-- R44, R45: an existing entry refreshed, before its offset. -/
def refreshedEntry (h : Heard) (arrival : Stamp) (e : PeerEntry) : PeerEntry :=
  let e := accountSequence h.sequence e
  { e with
    abilities := h.abilities
    cls := h.cls
    root := h.root
    depth := h.depth
    locked := h.locked
    reference := h.reference
    errorBound := h.errorBound
    disturbance := h.disturbance
    retuning := h.retuning
    lastArrival := arrival
    marksSince := 0
    latestF := refreshValue e.latestF h.f
    latestTemp := refreshValue e.latestTemp (acceptedTemp h.temp) }

/-- R46, R48: the offset handled, then the state set. -/
def settledEntry (theta : Option Int) (e : PeerEntry) : PeerEntry :=
  let e := updateOffset theta e
  { e with state := standing e }

/-- The entry of an id. -/
def findEntry (id : StationId) (es : List PeerEntry) : Option PeerEntry :=
  es.find? (fun e => e.id == id)

/-- An entry put at its place in ascending order of id, replacing the one of its id. -/
def putEntry (e : PeerEntry) : List PeerEntry → List PeerEntry
  | [] => [e]
  | x :: xs =>
    if e.id = x.id then e :: xs
    else if e.id.toNat < x.id.toNat then e :: x :: xs
    else x :: putEntry e xs

/-- What PT hands on when it has finished with an announcement (R50). -/
structure Handed where
  pt : PT
  offset : Option Int
  newF : Option (Second × Int)
deriving DecidableEq, Repr

/-- R42 to R48: PT handles an announcement the dispatcher handed over. No offset is formed from a stamp taken before the latest
clock move (R46). -/
def handleAnnouncement (lineDelay : Int) (r : RingEntry) (pt : PT) : Handed :=
  if bodyValid r.body then
    let h := heardOf r.body
    let id : StationId := r.source
    let theta := if r.preMove then none else some (peerOffset lineDelay h r.arrival)
    match findEntry id pt.entries with
    | none =>
      let e := settledEntry theta (createdEntry id h r.arrival)
      ⟨{ pt with entries := putEntry e pt.entries }, theta, newF none h.f⟩
    | some old =>
      let e := settledEntry theta (refreshedEntry h r.arrival old)
      ⟨{ pt with entries := putEntry e pt.entries }, theta, newF old.latestF h.f⟩
  else ⟨{ pt with reject := bump pt.reject }, none, none⟩

/-- R49: an entry aged by a mark: marks since heard and the ages; STALE at 5. -/
def ageEntry (e : PeerEntry) : PeerEntry :=
  { e with
    marksSince := e.marksSince + 1
    latestF := e.latestF.map (fun v => { v with age := satInc 255 v.age })
    latestTemp := e.latestTemp.map (fun v => { v with age := satInc 255 v.age })
    state := if 5 ≤ e.marksSince + 1 then .stale else e.state }

/-- R49: PT takes a mark notice: every entry ages, and one that reaches 60 marks since heard is removed. -/
def markPt (pt : PT) : PT :=
  { pt with entries := (pt.entries.map ageEntry).filter (fun e => decide (e.marksSince < 60)) }

/-- R47: a clock-move notice sets rebase pending in every entry. -/
def clockMovePt (pt : PT) : PT :=
  { pt with entries := pt.entries.map (fun e => { e with rebase := true }) }

end Sys2Proof.Machine
end

