-- ==== Sys2Proof/Machine/Line.lean ====
section
/-! DEFINITION. The Line Controller (chapter 01): the transmit slots and their contention, attempts, composing announcements, the
receive path. A restart that a leaving answer brings about stands in Machine/Restart.lean. -/

namespace Sys2Proof.Machine

/-! ## Slots -/

/-- The content of a slot; none is EMPTY. -/
def getSlot (n : SlotName) (l : LC) : Option Slot :=
  match n with
  | .a => l.slotA
  | .b => l.slotB

/-- The content of a slot replaced. -/
def setSlot (n : SlotName) (v : Option Slot) (l : LC) : LC :=
  match n with
  | .a => { l with slotA := v }
  | .b => { l with slotB := v }

/-- A slot is SENDING. -/
def isSending (v : Option Slot) : Bool :=
  match v with
  | some x => x.sending
  | none => false

/-- The SENDING slot (R6: at most one). -/
def sendingSlot (l : LC) : Option SlotName :=
  if isSending l.slotA then some .a else if isSending l.slotB then some .b else none

/-- The EMPTY slot taken next, A before B (R18, R19). -/
def emptySlot (l : LC) : Option SlotName :=
  if l.slotA.isNone then some .a else if l.slotB.isNone then some .b else none

/-- R7: the node may begin a transmission. -/
def mayTransmit (s : State) : Bool :=
  s.lc.monitor == .idle && !listenOnly s && !s.lc.duplicateId && s.lc.joinListen.isNone && s.lc.silence.isNone

/-- R7: a SENDING frame that waits for IDLE draws a spread of 0 to 15 bit times once it may transmit; a bit time is 40 periods. -/
def contend (s : State) : State :=
  if s.lc.contention = .waitIdle ∧ mayTransmit s = true then
    (s.setLc { s.lc with contention := .spread (40 * (Config.spreadDraw s.draws).toNat) }).setDraws (s.draws + 1)
  else s

/-- R6: with no slot SENDING, the READY slot that became READY earliest becomes SENDING; its expiry timer stops (R19). -/
def promoteLc (l : LC) : LC :=
  match sendingSlot l, l.readyOrder with
  | none, n :: rest =>
    match getSlot n l with
    | some v =>
      let l := setSlot n (some { v with sending := true, expiry := none }) l
      { l with readyOrder := rest, contention := .waitIdle }
    | none => l
  | _, _ => l

/-- R6, R7: the next frame takes its turn and contends. -/
def promote (s : State) : State :=
  contend (s.setLc (promoteLc s.lc))

/-- A composed frame placed in an EMPTY slot becomes READY (R6). -/
def readyLc (n : SlotName) (f : Frame) (expiry : Option Nat) (l : LC) : LC :=
  let l := setSlot n (some ⟨false, f, 0, expiry⟩) l
  { l with readyOrder := l.readyOrder ++ [n] }

/-- A slot becomes EMPTY; one that was SENDING leaves its contention and releases the driver (R6, R8). -/
def freeLc (n : SlotName) (l : LC) : LC :=
  let was := isSending (getSlot n l)
  let l := setSlot n none l
  { l with
    readyOrder := l.readyOrder.filter (· != n)
    contention := if was then .none else l.contention
    driverActive := if was then 0 else l.driverActive }

/-- A slot becomes EMPTY; no attempt in flight carries events any more when it was SENDING (R11). -/
def freeSlot (n : SlotName) (s : State) : State :=
  let was := isSending (getSlot n s.lc)
  let s := s.setLc (freeLc n s.lc)
  if was then s.setRs { s.rs with carried := 0 } else s

/-- R6: a frame is abandoned: its slot becomes EMPTY and the abandoned counter increments. -/
def abandonSlot (n : SlotName) (s : State) : State :=
  let s := freeSlot n s
  s.setLc { s.lc with abandoned := bump s.lc.abandoned }

/-- R19: the frame of a slot is a restart answer. -/
def holdsRestart (v : Option Slot) : Bool :=
  match v with
  | some ⟨_, .answer a, _, _⟩ => a.restart
  | _ => false

/-- A slot holds an announcement that is READY. -/
def readyAnnounce (v : Option Slot) : Bool :=
  match v with
  | some ⟨false, .announce _, _, _⟩ => true
  | _ => false

/-! ## Attempts -/

/-- R11: an announcement as an attempt sends it: the departure stamp and the up to 4 oldest events. -/
def stampedAnnouncement (now : Stamp) (es : List Event) (a : Announcement) : Announcement :=
  { a with departureSecond := now.second, departureTick := now.tick, events := es.take 4 }

/-- R7, R8, R11: an attempt begins with the first start symbol of the opening mark: the line is dominant, so the monitor turns BUSY
(R5) and the run is the node's own (R12). An octet takes 400 periods. -/
def beginAttempt (n : SlotName) (v : Slot) (s : State) : State :=
  let now := clockOf s.tb
  let own := s.sul.stationId
  let lc := { s.lc with monitor := .busy, rx := some ⟨now, false, true, false⟩, driverActive := 0 }
  match v.frame with
  | .announce a =>
    let a := stampedAnnouncement now s.rs.events a
    let os := frameOctets .announce own 0 (announcementBody a)
    let s := s.setLc { setSlot n (some { v with frame := .announce a }) lc with contention := .attempt (400 * os.length) os }
    s.setRs { s.rs with carried := a.events.length }
  | .answer a =>
    let os := answerOctets own a
    s.setLc { lc with contention := .attempt (400 * os.length) os }

/-- R11: the entries the sent attempt carried and the list still holds leave the event list. -/
def removeCarried (rs : RS) : RS :=
  { rs with events := rs.events.drop rs.carried, carried := 0 }

/-- The line driver is active: an attempt or its jam (R10). -/
def driving (c : Contention) : Bool :=
  match c with
  | .attempt _ _ | .jam _ => true
  | _ => false

/-- R5, R7: the monitor turns BUSY; a spread in progress is abandoned and the frame waits for IDLE again. -/
def lineBusy (l : LC) : LC :=
  match l.contention with
  | .spread _ => { l with monitor := .busy, contention := .waitIdle }
  | _ => { l with monitor := .busy }

/-- R5, R13: the line is IDLE: a run that began outside the node's attempts and formed no frame counts once as bad. -/
def lineIdleLc (l : LC) : LC :=
  let bad := match l.rx with
    | some r => !r.own && !r.judged
    | none => false
  { l with
    monitor := .idle
    rx := none
    badFrame := if bad then bump l.badFrame else l.badFrame }

/-- R9: the backoff slots drawn after a collision: 0 to 2^min(a,6) − 1. -/
def backoffSlots (a draw : Nat) : Nat :=
  (Config.backoffDraw draw).toNat % 2 ^ (min a 6)

/-! ## Composing -/

/-- R20: LC composes. -/
def composing (s : State) : Bool :=
  !listenOnly s && s.lc.joinListen.isNone && !s.lc.duplicateId

/-- R51: the announced locked flag follows DU's state. -/
def lockedFlag (d : DU) : Bool :=
  d.state != .acquire

/-- R51: the announced reference id follows DU's state and reference. -/
def announcedReference (d : DU) : Option Reference :=
  match d.state with
  | .acquire | .locked => d.reference
  | .holdover | .freeRoot => none

/-- A channel's reading as an announcement carries it (R124): value and second, without the clamp flag. -/
def announcedReading (r : Option Reading) : Option (Second × Int) :=
  r.map (fun r => (r.second, r.value))

/-- R4: the vector summary: 0 and absent when the vector role is off or no record's chains have ended since the last reset. -/
def announcedVector (s : State) : VectorSummary :=
  if s.sul.image.vectorRole then s.re.summary.getD ⟨0, 0, ⟨none, none, none⟩⟩ else ⟨0, 0, ⟨none, none, none⟩⟩

/-- R4: the announcement composed from the state of the node. The departure stamp and the events are written at each attempt. -/
def composeAnnouncement (s : State) : Announcement where
  sequence := s.lc.announceSeq
  departureSecond := 0
  departureTick := 0
  abilities := ⟨s.sul.image.vectorRole, s.sul.image.scalarRole, s.sul.image.thermalRole, s.sul.image.timePulse⟩
  cls := s.du.cls
  root := s.du.root
  depth := s.du.depth
  locked := lockedFlag s.du
  reference := announcedReference s.du
  errorBound := s.du.errorBound
  disturbance := s.bw.state
  retuning := s.vfe.state == .retuning
  vectorSecond := (announcedVector s).second
  vector := (announcedVector s).values
  f := if s.sul.image.scalarRole then s.scn.latestF.map (fun f => (f.second, f.value)) else none
  sensor := announcedReading s.tu.sensor.reading
  pier := announcedReading s.tu.pier.reading
  events := []

/-- The READY announcement of a slot overwritten in place (R18). -/
def overwriteLc (n : SlotName) (a : Announcement) (l : LC) : LC :=
  match getSlot n l with
  | some v => setSlot n (some { v with frame := .announce a }) { l with staleAnnouncement := bump l.staleAnnouncement }
  | none => l

/-- R18, Figure 12: the new announcement placed, in the first case that applies, slot A before slot B. -/
def placeAnnouncement (a : Announcement) (s : State) : State :=
  if readyAnnounce s.lc.slotA then s.setLc (overwriteLc .a a s.lc)
  else if readyAnnounce s.lc.slotB then s.setLc (overwriteLc .b a s.lc)
  else match emptySlot s.lc with
    | some n => promote (s.setLc (readyLc n (.announce a) none s.lc))
    | none => s.setLc { s.lc with staleAnnouncement := bump s.lc.staleAnnouncement }

/-- R18: the announce point of the current second has not fallen yet (log 15). -/
def announceDue (s : State) : Bool :=
  !s.lc.announced.contains s.tb.second

/-- R18: the announce point: the second is marked, and LC composes and places an announcement unless it composes nothing. -/
def announceNow (s : State) : State :=
  let s := s.setLc { s.lc with announced := s.tb.second :: s.lc.announced }
  if composing s then
    let a := composeAnnouncement s
    placeAnnouncement a (s.setLc { s.lc with announceSeq := s.lc.announceSeq + 1 })
  else s

/-- R18: at or past tick 3,000,000 of a second not yet announced its announce point falls. -/
def announceWhenDue (s : State) : State :=
  if 3000000 ≤ s.tb.tick ∧ announceDue s = true then announceNow s else s

/-! ## Receiving -/

/-- R15: a good frame enters the ring as its newest entry, or finds it full and is dropped and counted. -/
def enterRing (e : RingEntry) (l : LC) : LC :=
  if 8 ≤ l.ring.length then { l with ringOverrun := bump l.ringOverrun }
  else { l with ring := l.ring ++ [e] }

/-- The run's frame has been judged: the rest of the run is ignored (R13). -/
def markJudged (l : LC) : LC :=
  { l with rx := l.rx.map (fun r => { r with judged := true }) }

/-- R17: a query offered to the holder enters it, with 200 ms to wait (it expires in the
first period beyond them, log 16), or is dropped and counted. -/
def offerQuery (source : StationId) (body : List Octet) (l : LC) : LC :=
  match l.holder with
  | none => { l with holder := some ⟨source, body, 2000001⟩ }
  | some _ => { l with queryOverrun := bump l.queryOverrun }

/-- R16: the dispatcher hands an entry on by kind. -/
def dispatchEntry (own : StationId) (e : RingEntry) (l : LC) : LC :=
  match e.kind with
  | .announce => { l with dispatcher := some e }
  | .query =>
    if e.dest = 0 then { l with badFrame := bump l.badFrame }
    else if e.dest = own.setWidth 8 then offerQuery e.source e.body l
    else l
  | .answer => l

/-- R47: from a clock move on, every arrival stamp taken before it is pre-move: that of the run being received, of the ring's
entries, and of the announcement PT is handling. -/
def preMoveLc (l : LC) : LC :=
  { l with
    rx := l.rx.map (fun r => { r with preMove := true })
    ring := l.ring.map (fun e => { e with preMove := true })
    dispatcher := l.dispatcher.map (fun e => { e with preMove := true }) }

/-- R18: a new epoch has announced no second yet. -/
def newEpochLc (l : LC) : LC :=
  { l with announced := [] }

end Sys2Proof.Machine
end

