-- ==== Sys2Proof/Machine/Discipline.lean ====
section
/-! DEFINITION. The Discipline Unit (chapters 03 and 04): samples, clock moves, candidates and selection, holdover, the error
bound and the advertisement. -/

namespace Sys2Proof.Machine

/-! ## Error bound -/

/-- A sum that saturates at 65,535 (R74). -/
def satBound (v : Nat) : Nat :=
  if 65535 ≤ v then 65535 else v

/-- R74: the error bound by state. LOCKED on a peer without an entry cannot come about; there the bound stands (log 8). -/
def boundOf (d : DU) (pt : PT) : Nat :=
  match d.state with
  | .locked =>
    match d.reference with
    | some .pulse => satBound (1 + ceilDiv d.f.natAbs 1000 + 1)
    | some (.peer id) =>
      match findEntry id pt.entries with
      | some e => satBound (e.errorBound + ceilDiv d.f.natAbs 1000 + 1)
      | none => d.errorBound
    | none => d.errorBound
  | .holdover => satBound (d.boundAtEntry.getD 0 + d.holdoverAge)
  | .acquire | .freeRoot => 65535

/-- The error bound computed anew (R74). -/
def rebound (pt : PT) (d : DU) : DU :=
  { d with errorBound := boundOf d pt }

/-! ## Clock moves -/

/-- R63, steps 4 to 6 and 8: DU's own state after a step or a relabel it orders. -/
def movedDu (isRelabel : Bool) (d : DU) : DU :=
  { d with
    f := 0
    lockCount := 0
    outlierRun := 0
    state := .acquire
    errorBound := 65535
    steps := if isRelabel then d.steps else bump d.steps
    relabels := if isRelabel then bump d.relabels else d.relabels }

/-- R36 to R38: TB applies a move. The slew order of 0 follows it (R63). -/
def movedTb (isRelabel : Bool) (theta : Int) (t : TB) : TB :=
  { (if isRelabel then relabelTb theta t else stepTb theta t) with slew := some 0 }

/-- RE's reaction to the notice of a move (R134, R135). -/
def moveNotice (isRelabel : Bool) (s : State) : State :=
  if isRelabel then relabelNotice s.tb.second s.tb.epoch s else stepNotice s.tb.second s

/-- R63: a step or a relabel by θ with all its effects: the clock (R36, R37), PT's clock-move notice (R47), RE and SCN (R38), DU's
own state, CLOCK_STEP with the second count after the move, and the announce point the move may bring (R18). The model puts that
last: after RE's close with all it brings at that moment (the vector summary, a retune, BW's state) and after SCN's abort
(R108), so that its announcement shows the close and carries no F of an aborted cycle (the model's choice, log 5).
The order of RE's close and DU's change of state is that of `ties` (log 5). -/
def moveClock (isRelabel : Bool) (theta : Int) (s : State) : State :=
  let s := s.setTb (movedTb isRelabel theta s.tb)
  let s := s.setPt (clockMovePt s.pt)
  let s := s.setLc (preMoveLc (if isRelabel then newEpochLc s.lc else s.lc))
  let s :=
    if s.ties.closeBeforeDu then
      let s := moveNotice isRelabel s
      s.setDu (movedDu isRelabel s.du)
    else moveNotice isRelabel (s.setDu (movedDu isRelabel s.du))
  let s := abortCycle s
  let s := raiseEvent .clockStep s.tb.second s
  announceWhenDue s

/-! ## Samples -/

/-- R66, R67, R68: an accepted sample: the filter with b, the slew order, the trim order and TRIM_LIMIT. -/
def filterSample (b : Nat) (theta : Int) (s : State) : State :=
  let f := s.du.f + roundDiv (theta - s.du.f) (2 ^ b)
  let trim := clampInt (-50000) 50000 (s.tb.trim + roundDiv f 16)
  let s := s.setTb { s.tb with slew := some (roundDiv f 4), trim := trim }
  s.setDu { s.du with f := f, trimLimit := s.du.trimLimit || trimAtBound trim }

/-- R69: the lock count after an accepted sample in ACQUIRE; at 8 DU enters LOCKED. -/
def countLock (theta : Int) (pt : PT) (d : DU) : DU :=
  if theta.natAbs < 20000 then
    if 8 ≤ d.lockCount + 1 then rebound pt { d with state := .locked, lockCount := 0, outlierRun := 0 }
    else { d with lockCount := d.lockCount + 1 }
  else { d with lockCount := 0 }

/-- R62 to R69: DU handles a sample of its reference in ACQUIRE. -/
def sampleAcquire (theta : Int) (s : State) : State :=
  if 1000000000 ≤ theta.natAbs then moveClock true theta s
  else if 1000000 ≤ theta.natAbs then moveClock false theta s
  else
    let s := filterSample 1 theta s
    s.setDu (countLock theta s.pt s.du)

/-- R62 to R66: DU handles a sample of its reference in LOCKED. -/
def sampleLocked (theta : Int) (s : State) : State :=
  if 1000000000 ≤ theta.natAbs then moveClock true theta s
  else if 1000000 ≤ theta.natAbs then
    let s' := s.setDu { s.du with outliers := bump s.du.outliers, outlierRun := s.du.outlierRun + 1 }
    if 2 ≤ s.du.outlierRun then moveClock false theta s' else s'
  else
    let s := filterSample 3 theta s
    s.setDu (rebound s.pt { s.du with outlierRun := 0 })

/-- R61: DU takes a sample; one that is not from its current reference, or comes in FREE_ROOT or HOLDOVER, is ignored. -/
def duSample (source : Reference) (theta : Int) (s : State) : State :=
  if s.du.reference = some source then
    match s.du.state with
    | .acquire => sampleAcquire theta s
    | .locked => sampleLocked theta s
    | .freeRoot | .holdover => s
  else s

/-! ## Candidates and ranking -/

/-- R52: the own pulse is a candidate. -/
def pulseCandidate (s : State) : Bool :=
  s.sul.image.timePulse && s.tb.present

/-- R52: a peer is a candidate. -/
def peerCandidate (own : StationId) (e : PeerEntry) : Bool :=
  e.state == .usable && e.locked
    && !(own != 0 && e.reference == some (.peer own))
    && e.root != own && decide (e.depth ≤ 5)

/-- R53: the key of a peer: class, root id, depth + 1, id. -/
def peerKey (e : PeerEntry) : Nat × Nat × Nat × Nat :=
  (e.cls, e.root.toNat, e.depth + 1, e.id.toNat)

/-- R53: keys compared field by field from the left. -/
def keyLess (a b : Nat × Nat × Nat × Nat) : Bool :=
  if a.1 ≠ b.1 then decide (a.1 < b.1)
  else if a.2.1 ≠ b.2.1 then decide (a.2.1 < b.2.1)
  else if a.2.2.1 ≠ b.2.2.1 then decide (a.2.2.1 < b.2.2.1)
  else decide (a.2.2.2 < b.2.2.2)

/-- The better of a candidate found so far and an entry. -/
def betterPeer (best : Option PeerEntry) (e : PeerEntry) : Option PeerEntry :=
  match best with
  | none => some e
  | some b => if keyLess (peerKey e) (peerKey b) then some e else some b

/-- The best candidate peer (R53). -/
def bestPeer (own : StationId) (es : List PeerEntry) : Option PeerEntry :=
  (es.filter (peerCandidate own)).foldl betterPeer none

/-- Figure 25: the class a root advertises. -/
def rootClass (d : DU) : Nat :=
  match d.state with
  | .holdover => if d.heldClass = some 2 then 2 else 1
  | _ => 2

/-- R53: the node's own root key; a listen-only node uses root id 16. -/
def ownRootKey (own : StationId) (d : DU) : Nat × Nat × Nat × Nat :=
  (rootClass d, if own = 0 then 16 else own.toNat, 0, 0)

/-- R54: the reference is a candidate. -/
def referenceStands (s : State) : Bool :=
  match s.du.reference with
  | none => true
  | some .pulse => pulseCandidate s
  | some (.peer id) =>
    match findEntry id s.pt.entries with
    | some e => peerCandidate s.sul.stationId e
    | none => false

/-- R70: DU leaves its reference: from LOCKED to HOLDOVER, from ACQUIRE to FREE_ROOT. -/
def loseDu (pt : PT) (d : DU) : DU :=
  let d' := { d with reference := none, f := 0, lockCount := 0, outlierRun := 0 }
  match d.state with
  | .locked =>
    rebound pt { d' with
      state := .holdover, holdoverAge := 0, boundAtEntry := some d.errorBound, heldClass := some d.cls }
  | _ => rebound pt { d' with state := .freeRoot }

/-- R70: the loss, with a slew order of 0, which TB takes after the mark (the model's choice, log 5). -/
def loseReference (s : State) : State :=
  (s.setDu (loseDu s.pt s.du)).setTb { s.tb with slew := some 0 }

/-- R71: DU takes the chosen source. -/
def selectDu (r : Reference) (d : DU) : DU :=
  { d with
    reference := some r
    state := .acquire
    f := 0
    lockCount := 0
    outlierRun := 0
    holdoverAge := 0
    boundAtEntry := none
    heldClass := none
    errorBound := 65535 }

/-- R55, R71: a selection, with a slew order of 0, which TB takes after the mark (the model's choice, log 5), and REFERENCE_CHANGE carrying
the second number of the mark. -/
def selectSource (r : Reference) (second : Second) (s : State) : State :=
  raiseEvent .referenceChange second ((s.setDu (selectDu r s.du)).setTb { s.tb with slew := some 0 })

/-- R54, step 2: what a followed reference gives way to. -/
def betterReference (s : State) : Option Reference :=
  match s.du.reference with
  | some (.peer id) =>
    if pulseCandidate s then some .pulse
    else match findEntry id s.pt.entries, bestPeer s.sul.stationId s.pt.entries with
      | some cur, some b =>
        if b.cls < cur.cls ∨ (b.cls = cur.cls ∧ b.root.toNat < cur.root.toNat) then some (.peer b.id) else none
      | _, _ => none
  | _ => none

/-- R54, step 3: what a root selects: the best candidate when it ranks better than the own root key. -/
def rootChoice (s : State) : Option Reference :=
  if pulseCandidate s then some .pulse
  else match bestPeer s.sul.stationId s.pt.entries with
    | some b => if keyLess (peerKey b) (ownRootKey s.sul.stationId s.du) then some (.peer b.id) else none
    | none => none

/-- R54: the selection of a mark. -/
def evaluateSelection (second : Second) (s : State) : State :=
  let s := if referenceStands s then s else loseReference s
  let choice := if s.du.reference.isSome then betterReference s else rootChoice s
  match choice with
  | some r => selectSource r second s
  | none => s

/-- R51, Figure 25: DU fixes class, root id and depth from its state and its reference's entry. -/
def fixAdvertisement (own : StationId) (pt : PT) (d : DU) : DU :=
  match d.state, d.reference with
  | .acquire, some (.peer id) | .locked, some (.peer id) =>
    match findEntry id pt.entries with
    | some e => { d with cls := e.cls, root := e.root, depth := e.depth + 1 }
    | none => d
  | .acquire, some .pulse | .locked, some .pulse => { d with cls := 0, root := own, depth := 0 }
  | .acquire, none | .locked, none => d
  | .holdover, _ | .freeRoot, _ => { d with cls := rootClass d, root := own, depth := 0 }

/-- R72: the holdover age advances, and HOLDOVER ends in FREE_ROOT when it exceeds the limit. -/
def ageHoldover (limit : Nat) (d : DU) : DU :=
  match d.state with
  | .holdover =>
    if limit < d.holdoverAge + 1 then
      { d with state := .freeRoot, holdoverAge := 0, boundAtEntry := none, heldClass := none, errorBound := 65535 }
    else { d with holdoverAge := d.holdoverAge + 1 }
  | _ => d

/-- DU takes a mark notice: holdover (R72), selection (R54), the advertisement (R51), the error bound (R74). -/
def markDu (second : Second) (s : State) : State :=
  let s := s.setDu (ageHoldover s.sul.image.holdoverLimit s.du)
  let s := evaluateSelection second s
  s.setDu (rebound s.pt (fixAdvertisement s.sul.stationId s.pt s.du))

end Sys2Proof.Machine
end

