-- ==== Sys2Proof/Machine/Queries.lean ====
section
/-! DEFINITION. Composing an answer to the held query (R19, R183 to R185): when LC composes, what each request is answered, and
the placing of the answer in a slot. -/

namespace Sys2Proof.Machine

/-! ## Reads -/

/-- The outcome of a read of a ring: the result code, and what the answer carries (R184). -/
structure Composition where
  result : ResultCode
  body : AnswerBody
  restart : Bool
deriving DecidableEq, Repr

/-- An answer that carries nothing beyond the opening fields. -/
def bare (r : ResultCode) : Composition :=
  ⟨r, .nothing, false⟩

/-- R184: the records from a sequence onward, up to a count, in sequence order. -/
def recordsFrom {α : Type} (sequenceOf : α → Sequence) (f : Sequence) (count : Nat) (ring : List α) : List α :=
  (ring.filter (fun r => decide (0 ≤ signedDiff (sequenceOf r) f))).take (min count 4)

/-- R184: a read of a ring at a from-sequence and a count: the first case that applies. -/
def readRing {α : Type} (sequenceOf : α → Sequence) (give : List α → AnswerBody) (f : Sequence) (count : Nat)
    (ring : List α) : Composition :=
  if count = 0 then bare .badRequest
  else match ring.head?.map sequenceOf, ring.getLast?.map sequenceOf with
    | some oldest, some newest =>
      if laterThan f newest then ⟨.notYet, .newest (some newest), false⟩
      else if signedDiff f oldest < 0 then ⟨.gone, .oldest oldest, false⟩
      else ⟨.ok, give (recordsFrom sequenceOf f count ring), false⟩
    | _, _ => ⟨.notYet, .newest none, false⟩

/-- R183, R184: the answer to READ_SECONDS; a body shorter than 7 octets is a BAD_REQUEST. -/
def readSecondsAnswer (body : List Octet) (s : State) : Composition :=
  if body.length < 7 then bare .badRequest
  else readRing SecondRecord.sequence AnswerBody.seconds (word32At body 2) (octetAt body 6).toNat s.rs.seconds

/-- R183, R184: the answer to READ_MINUTES. -/
def readMinutesAnswer (body : List Octet) (s : State) : Composition :=
  if body.length < 7 then bare .badRequest
  else readRing MinuteRecord.sequence AnswerBody.minutes (word32At body 2) (octetAt body 6).toNat s.rs.minutes

/-! ## STATUS -/

/-- The kind of a composed frame. -/
def frameKindOf : Frame → FrameKind
  | .announce _ => .announce
  | .answer _ => .answer

/-- What STATUS gives of a slot: SENDING or READY, and the frame's kind (R6). -/
def slotStatus (v : Option Slot) : Option (Bool × FrameKind) :=
  v.map (fun x => (x.sending, frameKindOf x.frame))

/-- The attempt count of the SENDING frame (R6). -/
def sendingAttempts (l : LC) : Option Nat :=
  ((sendingSlot l).bind (fun n => getSlot n l)).map Slot.attempts

/-- R6, R21: LC's part of a STATUS answer. -/
def lineStatus (l : LC) : LineStatus where
  monitor := l.monitor
  slotA := slotStatus l.slotA
  slotB := slotStatus l.slotB
  sendingAttempts := sendingAttempts l
  badFrame := l.badFrame
  ringOverrun := l.ringOverrun
  queryOverrun := l.queryOverrun
  queryExpired := l.queryExpired
  staleAnnouncement := l.staleAnnouncement
  abandoned := l.abandoned

/-- TB's part of a STATUS answer (chapter 02). -/
def timeStatus (t : TB) : TimeStatus where
  clock := clockOf t
  trim := t.trim
  rate := t.rate
  present := t.present
  extraEdge := t.extraEdge
  labelReject := t.labelReject

/-- PT's part of a STATUS answer (chapter 03). -/
def peerStatus (p : PT) : PeerStatus where
  reject := p.reject
  heard := (p.entries.filter (fun e => e.state == .heard)).length
  usable := (p.entries.filter (fun e => e.state == .usable)).length
  stale := (p.entries.filter (fun e => e.state == .stale)).length

/-- R75: DU's part of a STATUS answer. -/
def disciplineStatus (d : DU) : DisciplineStatus where
  state := d.state
  reference := d.reference
  f := d.f
  lockCount := d.lockCount
  outlierRun := d.outlierRun
  holdoverAge := d.holdoverAge
  errorBound := d.errorBound
  steps := d.steps
  relabels := d.relabels
  outliers := d.outliers

/-- R95: the VFE's part of a STATUS answer. -/
def vectorStatus (v : VFE) : VectorStatus where
  state := v.state
  cause := v.cause
  settings := v.settings
  bandRun := v.bandRun
  clipRun := v.clipRun
  request := v.request
  blank := v.blank
  faults := v.faults
  retunes := v.retunes
  clipped := v.clipped
  bandInhibit := v.bandInhibit

/-- R109: SCN's part of a STATUS answer. -/
def scalarStatus (im : Image) (c : SCN) : ScalarStatus where
  state := c.state
  period := im.cyclePeriod
  outcome := c.outcome
  n := c.n
  t := c.t
  latestF := c.latestF.map (fun f => (f.value, f.second))
  fCount := c.fCount
  absent := c.absent
  faults := c.faults

/-- R124: TU's part of a STATUS answer. -/
def thermalStatus (im : Image) (tu : TU) : ThermalStatus where
  state := tu.state
  period := im.acqPeriod
  sensor := tu.sensor
  pier := tu.pier

/-- RE's part of a STATUS answer (chapter 08). -/
def reductionStatus (re : RE) : ReductionStatus where
  second := re.second
  epoch := re.epoch
  isOpen := re.isOpen
  taken := re.taken.length
  n := re.n
  clipped := re.clipped
  blanked := re.blanked
  sticky := re.sticky
  chainLength := re.chain.length
  held := re.held
  rangeClamp := re.rangeClamp
  chainOverflow := re.chainOverflow

/-- R146: the DRU's part of a STATUS answer. -/
def dividerStatus (d : DRU) : DividerStatus where
  queue := d.queue.map Request.client
  current := d.current.map (fun c => c.request.client)
  divideFault := d.divideFault

/-- R160: MDM's part of a STATUS answer. -/
def matcherStatus (m : MDM) : MatcherStatus where
  source := m.source
  entries := m.list.length
  oldest := m.list.head?.map (fun e => (e.second, e.marks))
  heldF := m.heldF
  latestF := m.latestF
  matched := m.matched
  expired := m.expired
  displaced := m.displaced
  unmatched := m.unmatched
  rejected := m.rejected

/-- R175: BW's part of a STATUS answer. -/
def watchStatus (im : Image) (bw : BW) : WatchStatus where
  state := bw.state
  onsetRun := bw.onsetRun
  easeRun := bw.easeRun
  disturbedTime := bw.disturbedTime
  axes := axesOf (fun a =>
    ⟨(axisGet bw.axes a).baseline, (axisGet bw.axes a).deviation, (axisGet bw.axes a).judgement⟩)
  ldf := bw.ldf
  excursion := bw.excursion
  outside := bw.outside
  inside := bw.inside
  slowBeta := im.slowBeta
  fastBeta := im.fastBeta
  fastBound := im.fastBound
  watchThreshold := im.watchThreshold
  releaseThreshold := im.releaseThreshold
  onsetCount := im.onsetCount
  easeCount := im.easeCount
  maxDisturbed := im.maxDisturbed
  deltaFLimit := im.deltaFLimit
  excluded := bw.excluded
  reseeds := bw.reseeds

/-- R185: RS's part of a STATUS answer. -/
def storeStatus (rs : RS) : StoreStatus where
  oldestSecond := rs.seconds.head?.map SecondRecord.sequence
  newestSecond := newestSecond rs
  oldestMinute := rs.minutes.head?.map MinuteRecord.sequence
  newestMinute := newestMinute rs
  events := rs.events.length
  current := rs.current
  buildList := rs.buildList.length
  eventsLost := rs.eventsLost
  minuteLost := rs.minuteLost

/-- R185: every block's state as its chapter lists it for STATUS, and the latched flags. -/
def statusReport (s : State) : StatusReport where
  stationId := s.sul.stationId
  clampCount := s.sul.clampCount
  flags := latchedFlags s
  line := lineStatus s.lc
  time := timeStatus s.tb
  peers := peerStatus s.pt
  discipline := disciplineStatus s.du
  vector := vectorStatus s.vfe
  scalar := scalarStatus s.sul.image s.scn
  thermal := thermalStatus s.sul.image s.tu
  reduction := reductionStatus s.re
  divider := dividerStatus s.dru
  matcher := matcherStatus s.mdm
  watch := watchStatus s.sul.image s.bw
  store := storeStatus s.rs

/-! ## PEERS -/

/-- R185: what PEERS gives of an entry. -/
def peerReport (e : PeerEntry) : PeerReport where
  id := e.id
  state := e.state
  abilities := e.abilities
  cls := e.cls
  root := e.root
  depth := e.depth
  locked := e.locked
  reference := e.reference
  errorBound := e.errorBound
  lastSequence := e.lastSequence
  consecutive := e.consecutive
  missed := e.missed
  lastArrival := e.lastArrival
  offset := e.offset
  spread := e.spread
  marksSince := e.marksSince
  latestF := e.latestF
  latestTemp := e.latestTemp
  disturbance := e.disturbance
  retuning := e.retuning

/-! ## Composing and placing -/

/-- R19: what LC composes with now: the EMPTY slot it takes and the held query, when it composes at all. -/
def answerPlace (s : State) : Option (SlotName × HeldQuery) :=
  if composing s then
    match emptySlot s.lc, s.lc.holder with
    | some n, some q => some (n, q)
    | _, _ => none
  else none

/-- An answer's octets beyond the opening fields have no layout in the manual: they and their number are free values (log 4). -/
def answerRest (b : AnswerBody) (draw : Nat) : List Octet :=
  match b with
  | .nothing => []
  | _ => (List.range (Config.answerLength draw).val).map (Config.answerOctet draw)

/-- The draws used for the rest of an answer. -/
def drawsAfter (b : AnswerBody) (draw : Nat) : Nat :=
  match b with
  | .nothing => draw
  | _ => draw + 1

/-- R19, R183: the answer frame to a held query. -/
def answerFrame (q : HeldQuery) (c : Composition) (draw : Nat) : Answer where
  dest := q.source
  tag := queryTag q.body
  code := queryCode q.body
  result := c.result
  body := c.body
  restart := c.restart
  rest := answerRest c.body draw

/-- R19: the answer becomes READY in its slot with the expiry timer of 1 s, the holder is empty, and the frame takes its turn
(R6). -/
def placeAnswer (n : SlotName) (q : HeldQuery) (c : Composition) (s : State) : State :=
  let a := answerFrame q c s.draws
  let s := s.setDraws (drawsAfter c.body s.draws)
  promote (s.setLc (readyLc n (.answer a) (some 10000001) { s.lc with holder := none }))

/-- R19: one composing command: when LC composes and the held query asks for what the command answers, the request's effect
and the placed answer; else nothing (log 7). -/
def composeWhen (asks : List Octet → Bool) (reply : List Octet → State → Composition) (effect : State → State)
    (s : State) : State :=
  match answerPlace s with
  | some (n, q) => if asks q.body then placeAnswer n q (reply q.body s) (effect s) else s
  | none => s

/-- The held query asks for a request kind. -/
def asksFor (k : RequestKind) (b : List Octet) : Bool :=
  requestKind b == k

/-- R183: a query that UNKNOWN_REQUEST answers: too short, with an unknown code, or a read shorter than 7 octets (log 13). -/
def asksUnknown (b : List Octet) : Bool :=
  match requestKind b with
  | .unknown => true
  | .readSeconds | .readMinutes => decide (b.length < 7)
  | _ => false

/-- R89: RECENTER acts on the VFE. -/
def recenterEffect (s : State) : State :=
  s.setVfe (recenterVfe s.vfe)

/-- R172: the answer to RESEED. -/
def reseedAnswer (_ : List Octet) (s : State) : Composition :=
  bare (if s.sul.image.vectorRole then .ok else .notRole)

/-- R172: RESEED makes a reseed when the vector role is on. -/
def reseedEffect (s : State) : State :=
  if s.sul.image.vectorRole then makeReseed s else s

end Sys2Proof.Machine
end

