-- ==== Sys2Proof/Machine/StartUp.lean ====
section
/-! DEFINITION. The Start-Up Loader (chapter 12): checking the record, clamping and correcting its fields, and the power-on
sequence. -/

namespace Sys2Proof.Machine

/-! ## The check -/

/-- R188: the CRC over the first 190 octets equals octets 190 and 191, high octet first. -/
def checkMatches (octets : List Octet) : Bool :=
  decide (octets.length = 192) && crc16 (octets.take 190) == word16At octets 190

/-! ## Clamping: each field's range from Figure 91 -/

/-- A value and how often the clamp count increments for it. -/
structure Clamped (α : Type) where
  value : α
  count : Nat
deriving DecidableEq, Repr

/-- R189: one field instance clamped. -/
def clampField1 (lo hi v : Int) : Clamped Int :=
  ⟨clampInt lo hi v, clampHit lo hi v⟩

/-- R189: a field whose values are not negative, clamped. -/
def clampNat (lo hi : Nat) (v : Int) : Clamped Nat :=
  ⟨(clampInt lo hi v).toNat, clampHit lo hi v⟩

/-- R189: a station id field, 0..15. -/
def clampId (v : Int) : Clamped StationId :=
  ⟨BitVec.ofInt 4 (clampInt 0 15 v), clampHit 0 15 v⟩

/-- R189: a per-axis field clamped on each axis. -/
def clampAxes (lo hi : Int) (v : Axes Int) : Clamped (Axes Int) :=
  ⟨⟨clampInt lo hi v.x, clampInt lo hi v.y, clampInt lo hi v.z⟩,
   clampHit lo hi v.x + clampHit lo hi v.y + clampHit lo hi v.z⟩

/-- R189: a per-channel field clamped on each channel. -/
def clampChannels (lo hi : Int) (v : Channels Int) : Clamped (Channels Int) :=
  ⟨⟨clampInt lo hi v.sensor, clampInt lo hi v.pier⟩, clampHit lo hi v.sensor + clampHit lo hi v.pier⟩

/-- A numeric field of Figure 91 used as an unsigned value on each channel. -/
def natChannels (v : Channels Int) : Channels Nat :=
  ⟨v.sensor.toNat, v.pier.toNat⟩

/-- R189: a role or enable field: off when its stored value is 0. -/
def enabled (v : Nat) : Bool :=
  v != 0

/-- R189: the record's fields clamped to their ranges. -/
def clampedImage (r : RawFields) : Image where
  vectorRole := enabled r.vectorRole
  scalarRole := enabled r.scalarRole
  thermalRole := enabled r.thermalRole
  timePulse := enabled r.timePulse
  lineDelay := (clampField1 0 20000 r.lineDelay).value
  holdoverLimit := (clampNat 0 86400 r.holdoverLimit).value
  gain := (clampAxes 1 65535 r.gain).value
  coarseStep := (clampAxes 1 4000000 r.coarseStep).value
  fineStep := (clampAxes 1 40000 r.fineStep).value
  retuneBand := (clampField1 1000 8000000 r.retuneBand).value
  cyclePeriod := (clampNat 2 60 r.cyclePeriod).value
  polarizeTime := (clampNat 5 30 r.polarizeTime).value
  gateTime := (clampNat 20 100 r.gateTime).value
  scalarPeer := (clampId r.scalarPeer).value
  acqPeriod := (clampNat 1 60 r.acqPeriod).value
  slope := (clampChannels (-65535) 65535 r.slope).value
  intercept := (clampChannels (-20000) 20000 r.intercept).value
  hot := (clampChannels (-3900) 8500 r.hot).value
  cool := (clampChannels (-4000) 8400 r.cool).value
  queueCode := natChannels (clampChannels 0 3 r.queueCode).value
  completeness := (clampNat 1 128 r.completeness).value
  t0 := (clampField1 (-4000) 8500 r.t0).value
  ks := (clampAxes (-100000) 100000 r.ks).value
  ko := (clampAxes (-100000) 100000 r.ko).value
  substitutePeer := (clampId r.substitutePeer).value
  slowBeta := (clampNat 1 15 r.slowBeta).value
  fastBeta := (clampNat 1 15 r.fastBeta).value
  fastBound := (clampField1 1 10000000 r.fastBound).value
  watchThreshold := (clampField1 1 10000000 r.watchThreshold).value
  releaseThreshold := (clampField1 1 10000000 r.releaseThreshold).value
  onsetCount := (clampNat 1 60 r.onsetCount).value
  easeCount := (clampNat 1 3600 r.easeCount).value
  maxDisturbed := (clampNat 60 86400 r.maxDisturbed).value
  deltaFLimit := (clampField1 1 1000000 r.deltaFLimit).value
  eventMask := r.eventMask

/-- R189: the field instances clamped. -/
def clampHits (r : RawFields) : Nat :=
  (clampField1 0 20000 r.lineDelay).count + (clampNat 0 86400 r.holdoverLimit).count + (clampAxes 1 65535 r.gain).count
    + (clampAxes 1 4000000 r.coarseStep).count + (clampAxes 1 40000 r.fineStep).count
    + (clampField1 1000 8000000 r.retuneBand).count + (clampNat 2 60 r.cyclePeriod).count
    + (clampNat 5 30 r.polarizeTime).count + (clampNat 20 100 r.gateTime).count + (clampId r.scalarPeer).count
    + (clampNat 1 60 r.acqPeriod).count + (clampChannels (-65535) 65535 r.slope).count
    + (clampChannels (-20000) 20000 r.intercept).count + (clampChannels (-3900) 8500 r.hot).count
    + (clampChannels (-4000) 8400 r.cool).count + (clampChannels 0 3 r.queueCode).count
    + (clampNat 1 128 r.completeness).count + (clampField1 (-4000) 8500 r.t0).count
    + (clampAxes (-100000) 100000 r.ks).count + (clampAxes (-100000) 100000 r.ko).count
    + (clampId r.substitutePeer).count + (clampNat 1 15 r.slowBeta).count + (clampNat 1 15 r.fastBeta).count
    + (clampField1 1 10000000 r.fastBound).count + (clampField1 1 10000000 r.watchThreshold).count
    + (clampField1 1 10000000 r.releaseThreshold).count + (clampNat 1 60 r.onsetCount).count
    + (clampNat 1 3600 r.easeCount).count + (clampNat 60 86400 r.maxDisturbed).count
    + (clampField1 1 1000000 r.deltaFLimit).count

/-! ## Corrections -/

/-- R98: the stages and their margin in hundredths of a second: polarize, 20 ms, gate, 80 ms. -/
def stagesTime (im : Image) : Nat :=
  im.polarizeTime * 10 + 2 + im.gateTime + 8

/-- R98: the period in use. The model compares the clamped period with the stages, so that a stored period below 2 s counts for its
clamp alone where 2 s is enough (the model's choice, log 27). -/
def correctPeriod (im : Image) : Clamped Nat :=
  if im.cyclePeriod * 100 < stagesTime im then ⟨ceilDiv (stagesTime im) 100, 1⟩ else ⟨im.cyclePeriod, 0⟩

/-- R121: a cool threshold at or above hot becomes hot − 100. The model compares the clamped values (the model's choice, log 27). -/
def correctCool (hot cool : Int) : Clamped Int :=
  if hot ≤ cool then ⟨hot - 100, 1⟩ else ⟨cool, 0⟩

/-- R163: a fast bound above the watch threshold becomes the watch threshold. The model compares the clamped values (the model's choice,
log 27). -/
def correctFast (im : Image) : Clamped Int :=
  if im.watchThreshold < im.fastBound then ⟨im.watchThreshold, 1⟩ else ⟨im.fastBound, 0⟩

/-- R163: a release threshold at or above the watch threshold becomes the watch threshold − 1, or 1 with a watch threshold of 1
(log 11). The model compares the clamped values (the model's choice, log 27). -/
def correctRelease (im : Image) : Clamped Int :=
  if im.watchThreshold ≤ im.releaseThreshold then
    ⟨if im.watchThreshold = 1 then 1 else im.watchThreshold - 1, 1⟩
  else ⟨im.releaseThreshold, 0⟩

/-- R98, R121, R163: the image after the corrections the blocks make. -/
def correctedImage (im : Image) : Image :=
  { im with
    cyclePeriod := (correctPeriod im).value
    cool := ⟨(correctCool im.hot.sensor im.cool.sensor).value, (correctCool im.hot.pier im.cool.pier).value⟩
    fastBound := (correctFast im).value
    releaseThreshold := (correctRelease im).value }

/-- R189: the corrections, once each. -/
def correctionHits (im : Image) : Nat :=
  (correctPeriod im).count + (correctCool im.hot.sensor im.cool.sensor).count
    + (correctCool im.hot.pier im.cool.pier).count + (correctFast im).count + (correctRelease im).count

/-! ## The image in use -/

/-- R188: the default record in use: CONFIG_DEFAULTS latched, the clamp count 0. -/
def defaultSul (id : StationId) : SUL where
  image := Image.default
  stationId := id
  clampCount := 0
  configDefaults := true
  isDefault := true

/-- R188, R189: SUL after a read of the memory, with the station id it holds. -/
def readRecord (id : StationId) (memory : Option MemoryRecord) : SUL :=
  match memory with
  | none => defaultSul id
  | some m =>
    if checkMatches m.octets then
      { image := correctedImage (clampedImage m.fields)
        stationId := id
        clampCount := addSat (clampHits m.fields) (correctionHits (clampedImage m.fields))
        configDefaults := false
        isDefault := false }
    else defaultSul id

/-! ## Power-on -/

/-- R190 step 1: while RESET is held the drives, the currents and the outputs are off and no block holds state. The levels of
the input pins, the memory and the model's own fields stand; loop-good is absent while the loop is off. -/
def heldReset (s : State) : State :=
  { State.reset with
    powered := false
    pins := { s.pins with loopGood := false }
    ties := s.ties
    draws := s.draws
    instants := []
    pending := s.pending }

/-- R96: the VFE at a start, with every run, count, request and sign clear. -/
def startVfe (s : State) : State :=
  let s := s.setVfe VFE.reset
  if s.sul.image.vectorRole then enterDriveStart s else loopOff s

/-- R110: SCN at a start. -/
def startScn (im : Image) : SCN :=
  { SCN.reset with state := if im.scalarRole then .wait else .off }

/-- R125: TU at a start. -/
def startTu (im : Image) : TU :=
  { TU.reset with state := if im.thermalRole then .wait else .off }

/-- R161, R162: MDM at a start. -/
def startMdm (s : SUL) : MDM :=
  { MDM.reset with source := sourceAtReset s.image s.stationId }

/-- R190: the power-on sequence to its start moment: straps, record, every block's power-on values, and instant 0 of second 0
emitted (R39). -/
def powerUp (straps : StationId) (memory : Option MemoryRecord) (s : State) : State :=
  let sul := readRecord straps memory
  startVfe
    { State.reset with
      powered := true
      pins := { s.pins with straps := straps, memory := memory, loopGood := false }
      ties := s.ties
      draws := s.draws
      sul := sul
      du := DU.reset straps
      scn := startScn sul.image
      tu := startTu sul.image
      mdm := startMdm sul
      pending := s.pending }

end Sys2Proof.Machine
end

