-- ==== Sys2Proof/Machine/Restart.lean ====
section
/-! DEFINITION. The restart (R19, R191): what every block does at the moment it takes place, and the leaving of a slot that brings
it about. -/

namespace Sys2Proof.Machine

/-! ## Records finished -/

/-- R162: MDM finalizes an entry with reason RESTART; no ΔF notice is given. -/
def finishEntry (rs : RS) (e : PendingEntry) : RS :=
  writeRecord e.sequence (finalRecord e.magnitude none none .restart) rs

/-- R162: every entry of the pending list finalized, oldest first, and the list empty. -/
def finishEntries (s : State) : State :=
  (s.setRs (s.mdm.list.foldl finishEntry s.rs)).setMdm { s.mdm with list := [] }

/-- R148: the record of an OPEN second at the restart: every axis absent, source NONE, NO_TCORR and RESTART set, FINAL, reason
RESTART (log 10). -/
def restartRecord (s : State) : SecondRecord :=
  let r := closedRecord (.none, none) s
  { r with final := true, flags := { r.flags with restart := true }, reason := some .restart }

/-- R148: an OPEN current second closes into RS; a PASSED one leaves no record. -/
def closeAtRestart (s : State) : State :=
  if s.re.isOpen then enterRecord (restartRecord s) s else s

/-- R148: a record of the chain list finished: unended axes absent with ARITH, FINAL, reason RESTART. -/
def finishChain (rs : RS) (c : ChainRecord) : RS :=
  writeRecord c.sequence (fun r =>
    { r with
      final := true
      reason := some .restart
      axes := axesOf (fun a =>
        if axisGet c.steps a = .ended then axisGet r.axes a else { axisGet r.axes a with value := none })
      flags := { r.flags with arith := r.flags.arith || !chainsEnded c } }) rs

/-- R148: every record of the chain list finished, and the list empty. -/
def finishChains (s : State) : State :=
  (s.setRs (s.re.chain.foldl finishChain s.rs)).setRe { s.re with chain := [] }

/-! ## Blocks -/

/-- R40: TB at a restart, whose re-read record enables or disables the time-pulse input and the label line. The receiver of an enabled
label line goes on; a line that was disabled before counts as idle (the model's choice, log 29). -/
def restartTb (enabled : Bool) (t : TB) : TB :=
  { t with
    epoch := t.epoch + 1
    slew := none
    edge := none
    labelPhase := if enabled then t.labelPhase else .ready
    label := none
    labelTail := if enabled then (cutLabel t).labelTail else none
    pendingLabel := none
    lastLabel := none
    labelAge := none
    present := false
    extraEdge := 0
    labelReject := 0 }

/-- R58, R59: DU at a restart. -/
def restartDu (own : StationId) (d : DU) : DU :=
  let d' :=
    { DU.reset own with
      state := if d.state = .locked then .holdover else .freeRoot
      boundAtEntry := if d.state = .locked then some d.errorBound else none
      heldClass := if d.state = .locked then some d.cls else none }
  rebound PT.reset (fixAdvertisement own PT.reset d')

/-- R148: RE at a restart: the current second count opened in the new epoch under R128, with the rest of its state cleared. -/
def restartRe (t : TB) (rs : RS) : RE :=
  { RE.reset with
    isOpen := !ringHolds t.epoch t.second rs
    second := t.second
    epoch := t.epoch }

/-- R180, R186: the build list after the start of the current minute at a restart. A full list of 16 loses its oldest, but R186 keeps
the minute under build at the head, so the list then loses the minute behind it (the model's choice, log 28). -/
def restartBuildList (rs : RS) : List Minute :=
  match rs.current with
  | none => rs.buildList
  | some m =>
    let kept :=
      if rs.buildList.length < 16 then rs.buildList
      else match rs.build, rs.buildList with
        | some _, head :: _ :: rest => head :: rest
        | _, minutes => minutes.drop 1
    kept ++ [m]

/-- R186, Figure 90: RS at a restart: the rings are kept, the events and the pending own F cleared, the current minute started and
the MINUTE request abandoned; the counters are 0, also after a start that loses a minute of a full list. The build ends here, so the
test of the head that follows gathers the minute anew from its records as they then stand (the model's choice, log 31). -/
def restartRs (rs : RS) : RS :=
  { rs with
    events := []
    carried := 0
    pendingF := none
    current := none
    buildList := restartBuildList rs
    build := none
    discard := false
    eventsLost := 0
    minuteLost := 0 }

/-- R22, Figure 14: LC at a restart: as after power-on, with DUPLICATE_ID kept. -/
def restartLc (l : LC) : LC :=
  { LC.reset with duplicateId := l.duplicateId }

/-- R191: the restart. MDM and RE finish the records of the old epoch, RE's first the record of the current second; TB begins the
next epoch; SUL reads the memory again, as it then responds; every block takes its RESTART values; the builder tests its head. Notices that wait are kept (log 20). -/
def restartNode (memory : Option MemoryRecord) (s : State) : State :=
  let s := finishChains (closeAtRestart (finishEntries s))
  let s := (s.setPins { s.pins with memory := memory }).setSul (readRecord s.sul.stationId memory)
  let s := s.setTb (restartTb s.sul.image.timePulse s.tb)
  let s := s.setDru DRU.reset
  let s := s.setRs (restartRs s.rs)
  let s := s.setRe (restartRe s.tb s.rs)
  let s := s.setDu (restartDu s.sul.stationId s.du)
  let s := s.setPt PT.reset
  let s := s.setScn (startScn s.sul.image)
  let s := s.setTu (startTu s.sul.image)
  let s := s.setMdm (startMdm s.sul)
  let s := s.setBw BW.reset
  let s := startVfe s
  let s := s.setLc (restartLc s.lc)
  testHead s

/-! ## A frame leaves its slot -/

/-- R6, R19: what follows when the frame of a slot has left: the restart when it was the restart answer, else the turn of the
next READY slot. -/
def afterLeaving (memory : Option MemoryRecord) (wasRestart : Bool) (s : State) : State :=
  if wasRestart then restartNode memory s else promote s

/-- R6: a slot's frame is abandoned. -/
def abandonFrame (memory : Option MemoryRecord) (n : SlotName) (s : State) : State :=
  afterLeaving memory (holdsRestart (getSlot n s.lc)) (abandonSlot n s)

end Sys2Proof.Machine
end

