-- ==== Sys2Proof/Machine/Marks.lean ====
section
/-! DEFINITION. Taking TB's notices: a block takes a mark notice (R29), and the VFE and RE take an instant notice (R30). -/

namespace Sys2Proof.Machine

/-- PT takes a mark notice (R49). -/
def markPtState (s : State) : State :=
  s.setPt (markPt s.pt)

/-- A block acts on a mark notice with its second count and epoch (Figure 19). -/
def takeMark (b : MarkBlock) (second : Second) (epoch : Epoch) (s : State) : State :=
  match b with
  | .re => markRe second epoch s
  | .vfe => markVfe s
  | .pt => markPtState s
  | .du => markDu second s
  | .scn => markScn second s
  | .tu => markTu second s
  | .mdm => markMdm s
  | .bw => markBw s

/-- A block takes the oldest mark notice that waits for it, if one does. -/
def takeNotice (b : MarkBlock) (s : State) : State :=
  match noticeFor b s.notices with
  | some n => takeMark b n.second n.epoch (s.setNotices (dropNotice b s.notices))
  | none => s

/-- Several blocks take their notices in an order (00, "Time and order"). -/
def takeNotices (bs : List MarkBlock) (s : State) : State :=
  bs.foldl (fun s b => takeNotice b s) s

/-- A command whose event is that a block's count reaches its end at a mark: the block takes the notice that waits for it, or one
of the present second when none waits (log 6). -/
def takeOwnMark (b : MarkBlock) (s : State) : State :=
  match noticeFor b s.notices with
  | some _ => takeNotice b s
  | none => takeMark b s.tb.second s.tb.epoch s

/-- The waiting instants without the first one of number k. -/
def dropInstant (k : Instant) : List InstantNotice → List InstantNotice
  | [] => []
  | n :: ns => if n.k = k then ns else n :: dropInstant k ns

/-- R30: instant k comes about with the residual counts then present. The VFE and RE act on its notice that waits; with none
waiting, the present period makes its count, and they act when that count passes the instant's tick (log 6). -/
def emitInstant (k : Instant) (residual : Axes (BitVec 24)) (s : State) : State :=
  let s := s.setPins { s.pins with residual := residual }
  match s.instants.find? (fun n => n.k == k) with
  | some n => vfeInstant n residual (s.setInstants (dropInstant k s.instants))
  | none =>
    let t := countTb s.tb
    if instantPassed s.tb.tick t.tick = some k then vfeInstant ⟨k, t.second, t.epoch⟩ residual (s.setTb t) else s

end Sys2Proof.Machine
end

