-- ==== Sys2Proof/Machine/DividerCommands.lean ====
section
/-! DEFINITION. The commands of the Divide and Root Unit (R143 to R146, R149, R153). -/

namespace Sys2Proof.Machine

/-- R143: the next queued request begins, or the unit is idle. -/
def beginNext (d : DRU) : DRU :=
  match d.queue with
  | [] => { d with current := none }
  | r :: rest => { d with current := some ⟨r, opPeriods r.op⟩, queue := rest }

/-- R145, R146: what DIVIDE hands its client: the quotient rounded to nearest, or an absent value for a divisor of 0. -/
def quotient (dividend : Int) (divisor : Nat) : Option Int :=
  if divisor = 0 then none else some (roundDiv dividend divisor)

/-- R145: a divisor of 0 counts as a divide fault. -/
def countFault (divisor : Nat) (d : DRU) : DRU :=
  if divisor = 0 then { d with divideFault := bump d.divideFault } else d

/-- R144: a result goes to the client that placed the request. MAGNITUDE places no DIVIDE. -/
def deliverQuotient (c : Client) (v : Option Int) (s : State) : State :=
  match c with
  | .axis a => deliverAxis a v s
  | .scalar => deliverScalar v s
  | .minute => deliverMinute v s
  | .magnitude => s

/-- R145: the DIVIDE in progress completes. -/
def divideEnds (s : State) : State :=
  match s.dru.current with
  | some ⟨⟨c, .divide dividend divisor⟩, _⟩ =>
    deliverQuotient c (quotient dividend divisor) (s.setDru (countFault divisor (beginNext s.dru)))
  | _ => s

/-- DIVIDE_COMPLETE (R145) -/
def execDivideComplete (s : State) : Host.Outcome State Fault Refusal :=
  .next (whenOn s divideEnds)

/-- R149, R153: the ROOT in progress completes and MDM takes its result. -/
def rootEnds (s : State) : State :=
  match s.dru.current with
  | some ⟨⟨_, .root radicand⟩, _⟩ => deliverRoot (roundRoot radicand) (s.setDru (beginNext s.dru))
  | _ => s

/-- ROOT_COMPLETE (R153) -/
def execRootComplete (s : State) : Host.Outcome State Fault Refusal :=
  .next (whenOn s rootEnds)

end Sys2Proof.Machine
end

