-- ==== Sys2Proof/Machine/LineCommands.lean ====
section
/-! DEFINITION. The commands of the hut line (chapter 01): the monitor, attempts and their ends, the receive path, the announce point
and the expiries. A command whose event cannot come about in the state changes nothing (log 7). -/

namespace Sys2Proof.Machine

/-! ## The line monitor -/

/-- R5, R7, R12: an IDLE line turns BUSY, a spread is deferred, and the run of activity that begins is stamped. -/
def activityStart (s : State) : State :=
  if s.lc.monitor = .idle then
    s.setLc { lineBusy s.lc with rx := some ⟨clockOf s.tb, false, false, false⟩ }
  else s

/-- LINE_ACTIVITY_START (R5) -/
def execLineActivityStart (s : State) : Host.Outcome State Fault Refusal :=
  .next (whenOn s activityStart)

/-- R5, R7, R13: a BUSY or STUCK line that the node does not drive turns IDLE; a run that formed no frame is counted, and a waiting
SENDING frame draws its spread. -/
def lineGoesIdle (s : State) : State :=
  if s.lc.monitor = .idle ∨ driving s.lc.contention = true then s
  else contend (s.setLc (lineIdleLc s.lc))

/-- LINE_IDLE (R5) -/
def execLineIdle (s : State) : Host.Outcome State Fault Refusal :=
  .next (whenOn s lineGoesIdle)

/-- R5, R21: a BUSY line turns STUCK while the node's driver is off, and STUCK_SEEN is latched. -/
def lineGoesStuck (s : State) : State :=
  if s.lc.monitor = .busy ∧ driving s.lc.contention = false then
    s.setLc { s.lc with monitor := .stuck, stuckSeen := true }
  else s

/-- LINE_STUCK (R5) -/
def execLineStuck (s : State) : Host.Outcome State Fault Refusal :=
  .next (whenOn s lineGoesStuck)

/-! ## Attempts -/

/-- R7: at the end of a spread, with the monitor still IDLE, the attempt begins. -/
def spreadEnds (s : State) : State :=
  match s.lc.contention, sendingSlot s.lc with
  | .spread _, some n =>
    match getSlot n s.lc with
    | some v => if mayTransmit s then beginAttempt n v s else s
    | none => s
  | _, _ => s

/-- SPREAD_END (R7) -/
def execSpreadEnd (s : State) : Host.Outcome State Fault Refusal :=
  .next (whenOn s spreadEnds)

/-- R8, R9: a symbol that reads back other than driven ends the attempt, and the node drives the jam of 32 bit times; the attempt's
events stay in the list. -/
def collides (readBack : List Level) (s : State) : State :=
  match s.lc.contention with
  | .attempt _ os =>
    if readsBackOther os readBack then (s.setLc { s.lc with contention := .jam 1280 }).setRs { s.rs with carried := 0 }
    else s
  | _ => s

/-- COLLISION (R9) -/
def execCollision (s : State) (readBack : List Level := []) : Host.Outcome State Fault Refusal :=
  .next (whenOn s (collides readBack))

/-- R9: steps 2 to 5 for the SENDING slot: release, the attempt count, then the frame is abandoned at 8 or a backoff is drawn, 64 bit
times a slot. -/
def afterJam (memory : Option MemoryRecord) (n : SlotName) (v : Slot) (s : State) : State :=
  let a := v.attempts + 1
  let s := s.setLc (setSlot n (some { v with attempts := a }) { s.lc with driverActive := 0 })
  if 8 ≤ a then abandonFrame memory n s
  else (s.setLc { s.lc with contention := .backoff (2560 * backoffSlots a s.draws) }).setDraws (s.draws + 1)

/-- R9: the end of the jam. -/
def jamEnds (memory : Option MemoryRecord) (s : State) : State :=
  match s.lc.contention, sendingSlot s.lc with
  | .jam _, some n =>
    match getSlot n s.lc with
    | some v => afterJam memory n v s
    | none => s
  | _, _ => s

/-- JAM_END (R9) -/
def execJamEnd (s : State) (memory : Option MemoryRecord := none) : Host.Outcome State Fault Refusal :=
  .next (whenOn s (jamEnds memory))

/-- R9: step 6: at the end of the backoff the frame contends again. -/
def backoffEnds (s : State) : State :=
  match s.lc.contention with
  | .backoff _ => contend (s.setLc { s.lc with contention := .waitIdle })
  | _ => s

/-- BACKOFF_END (R9) -/
def execBackoffEnd (s : State) : Host.Outcome State Fault Refusal :=
  .next (whenOn s backoffEnds)

/-- R11: a sent announcement's entries leave the event list. -/
def entriesSent (f : Frame) (s : State) : State :=
  match f with
  | .announce _ => s.setRs (removeCarried s.rs)
  | .answer _ => s

/-- R8: the frame of the attempt is sent and its slot becomes EMPTY; the restart takes place for a restart answer (R19). -/
def frameGone (memory : Option MemoryRecord) (s : State) : State :=
  match s.lc.contention, sendingSlot s.lc with
  | .attempt _ _, some n =>
    match getSlot n s.lc with
    | some v => afterLeaving memory (holdsRestart (some v)) (freeSlot n (entriesSent v.frame s))
    | none => s
  | _, _ => s

/-- FRAME_SENT (R8) -/
def execFrameSent (s : State) (memory : Option MemoryRecord := none) : Host.Outcome State Fault Refusal :=
  .next (whenOn s (frameGone memory))

/-- R10: the guard cuts the driver, latches JABBER_SEEN, starts the silence of 1 s and abandons the frame. -/
def jabberCuts (memory : Option MemoryRecord) (s : State) : State :=
  match driving s.lc.contention, sendingSlot s.lc with
  | true, some n => abandonFrame memory n (s.setLc { s.lc with jabberSeen := true, silence := some 10000000 })
  | _, _ => s

/-- JABBER_CUT (R10) -/
def execJabberCut (s : State) (memory : Option MemoryRecord := none) : Host.Outcome State Fault Refusal :=
  .next (whenOn s (jabberCuts memory))

/-- R10: the silence ends and a SENDING frame contends again from the wait for IDLE. -/
def silenceEnds (s : State) : State :=
  contend (s.setLc { s.lc with silence := none })

/-- JABBER_SILENCE_END (R10) -/
def execJabberSilenceEnd (s : State) : Host.Outcome State Fault Refusal :=
  .next (whenOn s silenceEnds)

/-- R20: the join listen ends. -/
def joinListenEnds (s : State) : State :=
  contend (s.setLc { s.lc with joinListen := none })

/-- JOIN_LISTEN_END (R20) -/
def execJoinListenEnd (s : State) : Host.Outcome State Fault Refusal :=
  .next (whenOn s joinListenEnds)

/-! ## The receive path -/

/-- R14: DUPLICATE_ID latches; every frame held in a slot is abandoned, and a restart answer among them brings the restart about
(log 24). -/
def latchDuplicate (memory : Option MemoryRecord) (s : State) : State :=
  if s.lc.duplicateId then s
  else
    let restarts := holdsRestart s.lc.slotA || holdsRestart s.lc.slotB
    let s := s.setLc { s.lc with duplicateId := true }
    let s := if s.lc.slotA.isSome then abandonSlot .a s else s
    let s := if s.lc.slotB.isSome then abandonSlot .b s else s
    if restarts then restartNode memory s else s

/-- R13 to R15: a run judged: bad, of the node's own id, for another station, or into the ring with the run's arrival stamp. -/
def judgeRun (r : RxRun) (octets : List RxOctet) (memory : Option MemoryRecord) (s : State) : State :=
  let own : Octet := s.sul.stationId.setWidth 8
  let s := s.setLc (markJudged s.lc)
  match judgeFrame octets with
  | none => s.setLc { s.lc with badFrame := bump s.lc.badFrame }
  | some (kind, source, dest, body) =>
    if source = own then latchDuplicate memory s
    else if dest ≠ 0 ∧ dest ≠ own then s
    else s.setLc (enterRing ⟨kind, source.setWidth 4, dest, body, r.arrival, r.preMove⟩ s.lc)

/-- R2, R12, R13: the frame that the levels of the present run give, unless the run began within an attempt of the node or has been judged. -/
def receives (levels : List Level) (memory : Option MemoryRecord) (s : State) : State :=
  match s.lc.rx with
  | some r => if r.own || r.judged then s else judgeRun r (receiveOctets levels) memory s
  | none => s

/-- FRAME_RECEIVED (R13) -/
def execFrameReceived (levels : List Level) (s : State) (memory : Option MemoryRecord := none) :
    Host.Outcome State Fault Refusal :=
  .next (whenOn s (receives levels memory))

/-- R16: the free dispatcher removes the oldest ring entry and hands it on. -/
def dispatches (s : State) : State :=
  match s.lc.dispatcher, s.lc.ring with
  | none, e :: rest => s.setLc (dispatchEntry s.sul.stationId e { s.lc with ring := rest })
  | _, _ => s

/-- DISPATCH (R16) -/
def execDispatch (s : State) : Host.Outcome State Fault Refusal :=
  .next (whenOn s dispatches)

/-- R17: the held query is discarded and counted. -/
def queryExpires (s : State) : State :=
  match s.lc.holder with
  | some _ => s.setLc { s.lc with holder := none, queryExpired := bump s.lc.queryExpired }
  | none => s

/-- QUERY_EXPIRY (R17) -/
def execQueryExpiry (s : State) : Host.Outcome State Fault Refusal :=
  .next (whenOn s queryExpires)

/-! ## Announce point and answer expiry -/

/-- ANNOUNCE_POINT (R18) -/
def execAnnouncePoint (s : State) : Host.Outcome State Fault Refusal :=
  .next (whenOn s announceWhenDue)

/-- A slot holds a READY answer (R19). -/
def readyAnswer (v : Option Slot) : Bool :=
  match v with
  | some ⟨false, .answer _, _, _⟩ => true
  | _ => false

/-- R19: a READY answer is discarded and counted; a restart answer brings the restart about. -/
def answerExpires (n : SlotName) (memory : Option MemoryRecord) (s : State) : State :=
  if readyAnswer (getSlot n s.lc) then
    let restarts := holdsRestart (getSlot n s.lc)
    let s := freeSlot n s
    afterLeaving memory restarts (s.setLc { s.lc with queryExpired := bump s.lc.queryExpired })
  else s

/-- ANSWER_EXPIRY (R19) -/
def execAnswerExpiry (slot : SlotName) (s : State) (memory : Option MemoryRecord := none) :
    Host.Outcome State Fault Refusal :=
  .next (whenOn s (answerExpires slot memory))

end Sys2Proof.Machine
end

