-- ==== Sys2Proof/Machine/MarkCommands.lean ====
section
/-! DEFINITION. The commands of peers and marks: ANNOUNCE_HANDLED, SECOND_MARK with its notices, the commands in which a block's count
reaches its end at a mark, and the instants. -/

namespace Sys2Proof.Machine

/-! ## Announcements -/

/-- R50, R61: PT hands its offset notice to DU. -/
def offerOffset (id : StationId) (theta : Option Int) (s : State) : State :=
  match theta with
  | some th => duSample (.peer id) th s
  | none => s

/-- R50, R155: PT hands its F notice to MDM. -/
def offerF (id : StationId) (f : Option (Second × Int)) (s : State) : State :=
  match f with
  | some (sec, v) => takePeerF id v sec s
  | none => s

/-- R42 to R50: PT finishes with the announcement it handles: the dispatcher is free, and the offset notice and the F notice are
handed on, in the order of `ties` (log 5). -/
def handled (e : RingEntry) (s : State) : State :=
  let h := handleAnnouncement s.sul.image.lineDelay e s.pt
  let s := (s.setPt h.pt).setLc { s.lc with dispatcher := none }
  if s.ties.offsetBeforeF then offerF e.source h.newF (offerOffset e.source h.offset s)
  else offerOffset e.source h.offset (offerF e.source h.newF s)

/-- The announcement the dispatcher handed over is handled. -/
def finishAnnouncement (s : State) : State :=
  match s.lc.dispatcher with
  | some e => handled e s
  | none => s

/-- ANNOUNCE_HANDLED (R50) -/
def execAnnounceHandled (s : State) : Host.Outcome State Fault Refusal :=
  .next (whenOn s finishAnnouncement)

/-! ## The second mark -/

/-- R24: the count from tick 9,999,999 is TB's mark with its notices sent; the blocks named take theirs in this step, in the order
named, and those of the others wait (log 5). At any other tick the count is no mark, and nothing changes (log 7). -/
def marksSecond (now : List MarkBlock) (s : State) : State :=
  if countIsMark s.tb then takeNotices now (tbMark s) else s

/-- SECOND_MARK (R24) -/
def execSecondMark (now : List MarkBlock) (s : State) : Host.Outcome State Fault Refusal :=
  .next (whenOn s (marksSecond now))

/-! ## Counts that end at a mark (log 6) -/

/-- R48, R49: an entry stands one mark before STALE. -/
def staleNext (pt : PT) : Bool :=
  pt.entries.any (fun e => e.state != .stale && e.marksSince == 4)

/-- ENTRY_STALE (R48): PT takes the mark at which an entry reaches 5 marks since heard. -/
def execEntryStale (s : State) : Host.Outcome State Fault Refusal :=
  .next (whenOn s (fun s => if staleNext s.pt then takeOwnMark .pt s else s))

/-- R49: an entry stands one mark before its removal. -/
def removedNext (pt : PT) : Bool :=
  pt.entries.any (fun e => e.marksSince == 59)

/-- ENTRY_REMOVED (R49): PT takes the mark at which an entry reaches 60 marks since heard. -/
def execEntryRemoved (s : State) : Host.Outcome State Fault Refusal :=
  .next (whenOn s (fun s => if removedNext s.pt then takeOwnMark .pt s else s))

/-- R72: the next mark exceeds the holdover limit. -/
def holdoverNext (limit : Nat) (d : DU) : Bool :=
  d.state == .holdover && decide (limit < d.holdoverAge + 1)

/-- HOLDOVER_EXPIRY (R72): DU takes the mark at which the holdover age exceeds the limit. -/
def execHoldoverExpiry (s : State) : Host.Outcome State Fault Refusal :=
  .next (whenOn s (fun s => if holdoverNext s.sul.image.holdoverLimit s.du then takeOwnMark .du s else s))

/-- R81: the next mark is the tenth in FAULTED. -/
def holdoffNext (v : VFE) : Bool :=
  v.state == .faulted && decide (10 ≤ v.holdoff + 1)

/-- HOLDOFF_END (R81): the VFE takes the tenth mark in FAULTED. -/
def execHoldoffEnd (s : State) : Host.Outcome State Fault Refusal :=
  .next (whenOn s (fun s => if holdoffNext s.vfe then takeOwnMark .vfe s else s))

/-- R158: the next mark is an entry's last. -/
def expiryNext (m : MDM) : Bool :=
  m.list.any (fun e => decide (e.marks ≤ 1))

/-- PENDING_EXPIRY (R158): MDM takes the mark at which an entry reaches 0 marks remaining. -/
def execPendingExpiry (s : State) : Host.Outcome State Fault Refusal :=
  .next (whenOn s (fun s => if expiryNext s.mdm then takeOwnMark .mdm s else s))

/-- R157: the next mark is the held F's last. -/
def lapseNext (m : MDM) : Bool :=
  match m.heldF with
  | some h => decide (h.marks ≤ 1)
  | none => false

/-- HELD_F_LAPSE (R157): MDM takes the mark at which the held F reaches 0 marks remaining. -/
def execHeldFLapse (s : State) : Host.Outcome State Fault Refusal :=
  .next (whenOn s (fun s => if lapseNext s.mdm then takeOwnMark .mdm s else s))

/-- R171: the next mark exceeds the maximum disturbed time. -/
def disturbedNext (limit : Nat) (bw : BW) : Bool :=
  disturbedFlag bw.state && decide (limit < bw.disturbedTime + 1)

/-- DISTURBED_TIME_EXCEEDED (R171): BW takes the mark at which the disturbed time exceeds the maximum. -/
def execDisturbedTimeExceeded (s : State) : Host.Outcome State Fault Refusal :=
  .next (whenOn s (fun s => if disturbedNext s.sul.image.maxDisturbed s.bw then takeOwnMark .bw s else s))

/-! ## Output and instants -/

/-- SECOND_MARK_OUTPUT_END (R28) -/
def execSecondMarkOutputEnd (s : State) : Host.Outcome State Fault Refusal :=
  .next (whenOn s (fun s => s.setTb { s.tb with output := none }))

/-- SAMPLE_INSTANT (R30, R82, R83, R129) -/
def execSampleInstant (k : Instant) (residual : Axes (BitVec 24)) (s : State) : Host.Outcome State Fault Refusal :=
  .next (whenOn s (emitInstant k residual))

/-- R93: the next instant taken is the 32nd blanked one. -/
def settleNext (v : VFE) : Bool :=
  v.state == .retuning && decide (32 ≤ v.blank + 1)

/-- SETTLE_COMPLETE (R93): the instant that is the 32nd blanked one. -/
def execSettleComplete (k : Instant) (residual : Axes (BitVec 24)) (s : State) : Host.Outcome State Fault Refusal :=
  .next (whenOn s (fun s => if settleNext s.vfe then emitInstant k residual s else s))

end Sys2Proof.Machine
end

