-- ==== Sys2Proof/Machine/PowerCommands.lean ====
section
/-! DEFINITION. The commands of the supply and the RESET line: POWER_ON, RESET_ASSERTED (R190). -/

namespace Sys2Proof.Machine

/-- POWER_ON (R190): the start sequence whole, from the state that RESET left, to the start moment. -/
def execPowerOn (straps : StationId) (memory : Option MemoryRecord) (s : State) : Host.Outcome State Fault Refusal :=
  .next (powerUp straps memory s)

/-- RESET_ASSERTED (R190): every piece of state is discarded until RESET is released. -/
def execResetAsserted (s : State) : Host.Outcome State Fault Refusal :=
  .next (heldReset s)

end Sys2Proof.Machine
end

