-- ==== Sys2Proof/Machine/PulseCommands.lean ====
section
/-! DEFINITION. The commands of the time pulse and its label (R31 to R35). -/

namespace Sys2Proof.Machine

/-- R35: the pulse offset goes to DU. -/
def offerPulse (theta : Option Int) (s : State) : State :=
  match theta with
  | some th => duSample .pulse th s
  | none => s

/-- R31: an edge of the enabled time-pulse input: ignored and counted inside the edge window, else accepted. -/
def pulseEdgeComes (s : State) : State :=
  if s.sul.image.timePulse then
    match s.tb.edgeWindow with
    | some _ => s.setTb { s.tb with extraEdge := bump s.tb.extraEdge }
    | none =>
      let s := s.setTb (acceptEdge s.tb)
      offerPulse (edgeOffset s.tb) s
  else s

/-- PULSE_EDGE (R31) -/
def execPulseEdge (s : State) : Host.Outcome State Fault Refusal :=
  .next (whenOn s pulseEdgeComes)

/-- EDGE_WINDOW_END (R31) -/
def execEdgeWindowEnd (s : State) : Host.Outcome State Fault Refusal :=
  .next (whenOn s (fun s => s.setTb { s.tb with edgeWindow := none }))

/-- LABEL_GAP_END (R32) -/
def execLabelGapEnd (s : State) : Host.Outcome State Fault Refusal :=
  .next (whenOn s (fun s => s.setTb (endLabelGap s.tb)))

/-- EDGE_AGE_LIMIT (R34) -/
def execEdgeAgeLimit (s : State) : Host.Outcome State Fault Refusal :=
  .next (whenOn s (fun s => s.setTb (passEdgeAge s.tb)))

/-- LABEL_AGE_LIMIT (R34) -/
def execLabelAgeLimit (s : State) : Host.Outcome State Fault Refusal :=
  .next (whenOn s (fun s => s.setTb (passLabelAge s.tb)))

/-- LABEL_OCTET_RECEIVED (R32): bits of an octet on the enabled label line, all ten or a part of them (log 9). -/
def execLabelOctetReceived (levels : List Level) (s : State) : Host.Outcome State Fault Refusal :=
  .next (whenOn s (fun s => if s.sul.image.timePulse then s.setTb (labelLevels levels s.tb) else s))

end Sys2Proof.Machine
end

