-- ==== Sys2Proof/Machine/QueryCommands.lean ====
section
/-! DEFINITION. The commands that compose the answer to the held query (R19, R183 to R185, R89, R172): each answers the requests of
its kind, and changes nothing when LC composes none now (log 7). -/

namespace Sys2Proof.Machine

/-- READ_SECONDS (R184) -/
def execReadSeconds (s : State) : Host.Outcome State Fault Refusal :=
  .next (whenOn s (composeWhen (asksFor .readSeconds) readSecondsAnswer id))

/-- READ_MINUTES (R184) -/
def execReadMinutes (s : State) : Host.Outcome State Fault Refusal :=
  .next (whenOn s (composeWhen (asksFor .readMinutes) readMinutesAnswer id))

/-- STATUS (R185): the report of the state as it stands, then the four latched flags are cleared. -/
def execStatus (s : State) : Host.Outcome State Fault Refusal :=
  .next (whenOn s (composeWhen (asksFor .status) (fun _ s => ⟨.ok, .status (statusReport s), false⟩) clearLatched))

/-- PEERS (R185): every entry in ascending order of id. -/
def execPeers (s : State) : Host.Outcome State Fault Refusal :=
  .next (whenOn s (composeWhen (asksFor .peers) (fun _ s => ⟨.ok, .peers (s.pt.entries.map peerReport), false⟩) id))

/-- RECENTER (R89) -/
def execRecenter (s : State) : Host.Outcome State Fault Refusal :=
  .next (whenOn s (composeWhen (asksFor .recenter) (fun _ s => bare (recenterResult s.vfe)) recenterEffect))

/-- RESEED (R172) -/
def execReseed (s : State) : Host.Outcome State Fault Refusal :=
  .next (whenOn s (composeWhen (asksFor .reseed) reseedAnswer reseedEffect))

/-- RESTART (R19): answered OK, and the answer is marked as the restart answer. -/
def execRestart (s : State) : Host.Outcome State Fault Refusal :=
  .next (whenOn s (composeWhen (asksFor .restart) (fun _ _ => ⟨.ok, .nothing, true⟩) id))

/-- UNKNOWN_REQUEST (R183): a query too short or with an unknown code is answered BAD_REQUEST. -/
def execUnknownRequest (s : State) : Host.Outcome State Fault Refusal :=
  .next (whenOn s (composeWhen asksUnknown (fun _ _ => bare .badRequest) id))

end Sys2Proof.Machine
end

