-- ==== Sys2Proof/Machine/ScalarCommands.lean ====
section
/-! DEFINITION. The commands of the precession cycle (R100 to R106). An indication's level is kept in the pins whether or not RESET is
held. -/

namespace Sys2Proof.Machine

/-- R100, R102: the polarize timer expires and SCN enters DEAD. -/
def polarizeEnds (s : State) : State :=
  match s.scn.state with
  | .polarize => s.setScn (enterDead s.scn)
  | _ => s

/-- POLARIZE_EXPIRY (R100) -/
def execPolarizeExpiry (s : State) : Host.Outcome State Fault Refusal :=
  .next (whenOn s polarizeEnds)

/-- R101: the polarize-current fault indication in POLARIZE. -/
def polarizeIndication (present : Bool) (s : State) : State :=
  match present, s.scn.state with
  | true, .polarize => polarizeFaults s
  | _, _ => s

/-- POLARIZE_CURRENT_FAULT (R101) -/
def execPolarizeCurrentFault (present : Bool) (s : State) : Host.Outcome State Fault Refusal :=
  .next (whenOn (s.setPins { s.pins with polarizeFault := present }) (polarizeIndication present))

/-- R102, R104: the dead time expires and SCN enters GATE. -/
def deadEnds (s : State) : State :=
  match s.scn.state with
  | .dead => enterGate s
  | _ => s

/-- DEAD_EXPIRY (R102) -/
def execDeadExpiry (s : State) : Host.Outcome State Fault Refusal :=
  .next (whenOn s deadEnds)

/-- R104: a rising crossing in the gate. -/
def crossingComes (s : State) : State :=
  match s.scn.state with
  | .gate => s.setScn (crossing (clockOf s.tb) s.scn)
  | _ => s

/-- RISING_CROSSING (R104) -/
def execRisingCrossing (s : State) : Host.Outcome State Fault Refusal :=
  .next (whenOn s crossingComes)

/-- R105: signal-detect absent in the gate. -/
def signalIndication (absent : Bool) (s : State) : State :=
  match absent, s.scn.state with
  | true, .gate => endCycle .noSignal s
  | _, _ => s

/-- SIGNAL_DETECT_LOST (R105) -/
def execSignalDetectLost (absent : Bool) (s : State) : Host.Outcome State Fault Refusal :=
  .next (whenOn (s.setPins { s.pins with signalDetect := !absent }) (signalIndication absent))

/-- R106: the gate time expires. -/
def gateEnds (s : State) : State :=
  match s.scn.state with
  | .gate => closeGate s
  | _ => s

/-- GATE_EXPIRY (R106) -/
def execGateExpiry (s : State) : Host.Outcome State Fault Refusal :=
  .next (whenOn s gateEnds)

end Sys2Proof.Machine
end

