-- ==== Sys2Proof/Machine/ThermalCommands.lean ====
section
/-! DEFINITION. The commands of a temperature acquisition (R114). -/

namespace Sys2Proof.Machine

/-- R114: the settle of 250 ms expires: the conversion of 100 ms is commanded. -/
def tuSettleEnds (s : State) : State :=
  match s.tu.state with
  | .settle => s.setTu { s.tu with state := .convert, timer := some 1000000 }
  | _ => s

/-- TU_SETTLE_EXPIRY (R114) -/
def execTuSettleExpiry (s : State) : Host.Outcome State Fault Refusal :=
  .next (whenOn s tuSettleEnds)

/-- R114: the conversion of 100 ms expires: TU takes both codes. -/
def conversionEnds (sensorCode pierCode : BitVec 16) (s : State) : State :=
  match s.tu.state with
  | .convert =>
    completeAcquisition sensorCode pierCode
      (s.setPins { s.pins with sensorCode := sensorCode, pierCode := pierCode })
  | _ => s

/-- CONVERSION_COMPLETE (R114) -/
def execConversionComplete (sensorCode pierCode : BitVec 16) (s : State) : Host.Outcome State Fault Refusal :=
  .next (whenOn s (conversionEnds sensorCode pierCode))

end Sys2Proof.Machine
end

