-- ==== Sys2Proof/Machine/VectorCommands.lean ====
section
/-! DEFINITION. The commands of the fluxgate's indications and of the start timers (R77 to R80). An indication's level is kept in the
pins whether or not RESET is held. -/

namespace Sys2Proof.Machine

/-- R77: drive-good appears: in DRIVE_START the VFE enters LOOP_START. -/
def driveAppears (s : State) : State :=
  match s.vfe.state with
  | .driveStart => enterLoopStart s
  | _ => s

/-- The drive-good level as the outside gives it. -/
def setDriveGood (level : Bool) (s : State) : State :=
  s.setPins { s.pins with driveGood := level }

/-- DRIVE_GOOD_APPEARS (R77) -/
def execDriveGoodAppears (s : State) : Host.Outcome State Fault Refusal :=
  .next (whenOn (setDriveGood true s) driveAppears)

/-- R77: the start timer expires in DRIVE_START. -/
def driveTimesOut (s : State) : State :=
  match s.vfe.state with
  | .driveStart => enterFaulted .driveTimeout s
  | _ => s

/-- DRIVE_START_TIMEOUT (R77) -/
def execDriveStartTimeout (s : State) : Host.Outcome State Fault Refusal :=
  .next (whenOn s driveTimesOut)

/-- R78: loop-good appears while the loop is on: in LOOP_START the VFE enters RUNNING. -/
def loopAppears (s : State) : State :=
  if s.vfe.loop then
    let s := s.setPins { s.pins with loopGood := true }
    match s.vfe.state with
    | .loopStart => enterRunning s
    | _ => s
  else s

/-- LOOP_GOOD_APPEARS (R78) -/
def execLoopGoodAppears (s : State) : Host.Outcome State Fault Refusal :=
  .next (whenOn s loopAppears)

/-- R78: the start timer expires in LOOP_START. -/
def loopTimesOut (s : State) : State :=
  match s.vfe.state with
  | .loopStart => enterFaulted .loopTimeout s
  | _ => s

/-- LOOP_START_TIMEOUT (R78) -/
def execLoopStartTimeout (s : State) : Host.Outcome State Fault Refusal :=
  .next (whenOn s loopTimesOut)

/-- R78, R80: drive-good is lost in LOOP_START, RUNNING or RETUNING. -/
def driveLoses (s : State) : State :=
  match s.vfe.state with
  | .loopStart | .running | .retuning => enterFaulted .driveLost s
  | _ => s

/-- DRIVE_GOOD_LOST (R80) -/
def execDriveGoodLost (s : State) : Host.Outcome State Fault Refusal :=
  .next (whenOn (setDriveGood false s) driveLoses)

/-- R80: loop-good is lost in RUNNING or RETUNING. -/
def loopLoses (s : State) : State :=
  match s.vfe.state with
  | .running | .retuning => enterFaulted .loopLost s
  | _ => s

/-- LOOP_GOOD_LOST (R80): with drive-good lost at the same moment the cause is DRIVE_LOST. -/
def execLoopGoodLost (driveLostToo : Bool) (s : State) : Host.Outcome State Fault Refusal :=
  let s := s.setPins { s.pins with loopGood := false }
  if driveLostToo then .next (whenOn (setDriveGood false s) driveLoses) else .next (whenOn s loopLoses)

end Sys2Proof.Machine
end

