-- ==== Sys2Proof/Machine/Idle.lean ====
section
/-! DEFINITION. What the node does by itself on an empty queue (log 2): a notice that waits is taken; then the
first thing that its timers and its "whenever" rules call for is queued as a command; then one period of the local oscillator, 100 ns, passes. -/

namespace Sys2Proof.Machine

/-! ## What is due -/

/-- A command when its condition holds. -/
def dueWhen (c : Bool) (i : Instr) : List Instr :=
  if c then [i] else []

/-- The composing command that answers a request (R183). -/
def composeCommand (b : List Octet) : Instr :=
  match requestKind b with
  | .readSeconds => .readSeconds
  | .readMinutes => .readMinutes
  | .status => .status
  | .peers => .peers
  | .recenter => .recenter
  | .reseed => .reseed
  | .restart => .restart
  | .unknown => .unknownRequest

/-- R19: the answer LC composes now. -/
def dueAnswer (s : State) : List Instr :=
  match answerPlace s with
  | some (_, q) => [composeCommand q.body]
  | none => []

/-- The end of a stage of the contention of the SENDING frame (R7 to R9). -/
def dueContention (s : State) : List Instr :=
  match s.lc.contention with
  | .spread 0 => dueWhen (mayTransmit s) .spreadEnd
  | .attempt 0 _ => [.frameSent s.pins.memory]
  | .jam 0 => [.jamEnd s.pins.memory]
  | .backoff 0 => [.backoffEnd]
  | _ => []

/-- R19: a READY answer whose 1 s has passed. -/
def dueExpiry (n : SlotName) (s : State) : List Instr :=
  match getSlot n s.lc with
  | some v => dueWhen (readyAnswer (some v) && timerDue v.expiry) (.answerExpiry n s.pins.memory)
  | none => []

/-- R17: the held query whose 200 ms have passed. -/
def queryDue (l : LC) : Bool :=
  match l.holder with
  | some q => q.left == 0
  | none => false

/-- What LC calls for: R7 to R10, R16 to R20, R50. -/
def dueLine (s : State) : List Instr :=
  dueWhen (driving s.lc.contention && decide (120000 < s.lc.driverActive)) (.jabberCut s.pins.memory)
    ++ dueContention s
    ++ dueWhen (timerDue s.lc.silence) .jabberSilenceEnd
    ++ dueWhen (timerDue s.lc.joinListen) .joinListenEnd
    ++ dueWhen s.lc.dispatcher.isSome .announceHandled
    ++ dueWhen (s.lc.dispatcher.isNone && !s.lc.ring.isEmpty) .dispatch
    ++ dueWhen (decide (3000000 ≤ s.tb.tick) && announceDue s) .announcePoint
    ++ dueAnswer s
    ++ dueWhen (queryDue s.lc) .queryExpiry
    ++ dueExpiry .a s
    ++ dueExpiry .b s

/-- R34: the edge age has passed 1.5 s while the pulse is present (log 16). -/
def edgeAgePassed (t : TB) : Bool :=
  match t.edge with
  | some e => t.present && decide (15000000 < e.age)
  | none => false

/-- R34: the label age has passed 3 s while the pulse is present. -/
def labelAgePassed (t : TB) : Bool :=
  match t.labelAge with
  | some a => t.present && decide (30000000 < a)
  | none => false

/-- R32: the idle gap of the label run has ended, with no octet being received. -/
def labelGapPassed (t : TB) : Bool :=
  match t.label with
  | some run => run.gap == 0 && !labelReceiving t
  | none => false

/-- What TB calls for: R28, R31, R32, R34. -/
def dueTimebase (s : State) : List Instr :=
  dueWhen (timerDue s.tb.output) .secondMarkOutputEnd
    ++ dueWhen (timerDue s.tb.edgeWindow) .edgeWindowEnd
    ++ dueWhen (labelGapPassed s.tb) .labelGapEnd
    ++ dueWhen (edgeAgePassed s.tb) .edgeAgeLimit
    ++ dueWhen (labelAgePassed s.tb) .labelAgeLimit

/-- What the start timers call for (R77, R78). -/
def dueVector (s : State) : List Instr :=
  match s.vfe.state with
  | .driveStart => dueWhen (timerDue s.vfe.timer) .driveStartTimeout
  | .loopStart => dueWhen (timerDue s.vfe.timer) .loopStartTimeout
  | _ => []

/-- What the stage timers of the cycle call for (R100, R102, R106). -/
def dueScalar (s : State) : List Instr :=
  match s.scn.state with
  | .polarize => dueWhen (timerDue s.scn.timer) .polarizeExpiry
  | .dead => dueWhen (timerDue s.scn.timer) .deadExpiry
  | .gate => dueWhen (timerDue s.scn.timer) .gateExpiry
  | _ => []

/-- What the stage timers of the acquisition call for (R114). -/
def dueThermal (s : State) : List Instr :=
  match s.tu.state with
  | .settle => dueWhen (timerDue s.tu.timer) .tuSettleExpiry
  | .convert => dueWhen (timerDue s.tu.timer) (.conversionComplete s.pins.sensorCode s.pins.pierCode)
  | _ => []

/-- The end of the DRU's operation in progress (R145). -/
def dueDivider (s : State) : List Instr :=
  match s.dru.current with
  | some ⟨⟨_, .divide _ _⟩, 0⟩ => [.divideComplete]
  | some ⟨⟨_, .root _⟩, 0⟩ => [.rootComplete]
  | _ => []

/-- The commands that the node's own state calls for, in one order where the manual leaves it open (log 2). -/
def dueCommands (s : State) : List Instr :=
  dueLine s ++ dueTimebase s ++ dueVector s ++ dueScalar s ++ dueThermal s ++ dueDivider s

/-! ## One period of the oscillator -/

/-- A slot's expiry timer after a period (R19). -/
def tickSlot (v : Option Slot) : Option Slot :=
  v.map (fun x => { x with expiry := tickDown x.expiry })

/-- The stage of the contention after a period. -/
def tickContention (c : Contention) : Contention :=
  match c with
  | .none => .none
  | .waitIdle => .waitIdle
  | .spread k => .spread (k - 1)
  | .attempt k os => .attempt (k - 1) os
  | .jam k => .jam (k - 1)
  | .backoff k => .backoff (k - 1)

/-- LC after a period: the driver's activity (R10) and every timer. -/
def tickLc (l : LC) : LC :=
  { l with
    slotA := tickSlot l.slotA
    slotB := tickSlot l.slotB
    contention := tickContention l.contention
    driverActive := if driving l.contention then l.driverActive + 1 else l.driverActive
    holder := l.holder.map (fun q => { q with left := q.left - 1 })
    joinListen := tickDown l.joinListen
    silence := tickDown l.silence }

/-- R32: the idle gap of the label line after a period; it stands while an octet is being received. -/
def tickLabel (t : TB) : TB :=
  if labelReceiving t then t
  else
    { t with
      label := t.label.map (fun r => { r with gap := r.gap - 1 })
      labelTail := t.labelTail.bind (fun k => if k ≤ 1 then none else some (k - 1)) }

/-- TB's timers and ages after a period; the clock's count is apart. -/
def tickTb (t : TB) : TB :=
  let t := tickLabel t
  { t with
    output := tickDown t.output
    edgeWindow := tickDown t.edgeWindow
    edge := t.edge.map (fun e => { e with age := satInc 15000001 e.age })
    labelAge := t.labelAge.map (satInc 30000001) }

/-- The operation in progress after a period. -/
def tickDru (d : DRU) : DRU :=
  { d with current := d.current.map (fun c => { c with left := c.left - 1 }) }

/-- Every timer of the node after one period. -/
def tickTimers (s : State) : State :=
  { s with
    lc := tickLc s.lc
    tb := tickTb s.tb
    vfe := { s.vfe with timer := tickDown s.vfe.timer }
    scn := { s.scn with timer := tickDown s.scn.timer }
    tu := { s.tu with timer := tickDown s.tu.timer }
    dru := tickDru s.dru }

/-- R24, R30: the count of a period: a second mark, whose notices wait for their blocks, or a count that moves the tick, where an
instant it passes comes as its command. -/
def countPeriod (s : State) : State :=
  if countIsMark s.tb then tbMark s
  else
    let t := countTb s.tb
    match instantPassed s.tb.tick t.tick with
    | some k =>
      let s' := (s.setTb t).setInstants (s.instants ++ [⟨k, t.second, t.epoch⟩])
      s'.setPending [.sampleInstant k s.pins.residual]
    | none => s.setTb t

/-! ## The idle step -/

/-- What the node does on an empty queue (log 2). -/
def idleOn (s : State) : State :=
  match s.notices with
  | n :: _ => takeNotice n.block s
  | [] =>
    match s.instants with
    | n :: _ => s.setPending [.sampleInstant n.k s.pins.residual]
    | [] =>
      match dueCommands s with
      | [] => countPeriod (tickTimers s)
      | c :: _ => s.setPending [c]

/-- On an empty queue the node runs by itself; while RESET is held nothing happens. -/
def idleStep (s : State) : State :=
  whenOn s idleOn

end Sys2Proof.Machine
end

