-- ==== Sys2Proof/Machine/Dispatch.lean ====
section
/-! DEFINITION. The dispatch: one arm per command, each one direct call of its meaning. -/

namespace Sys2Proof.Machine

def exec (i : Instr) (s : State) : Host.Outcome State Fault Refusal :=
  match i with
  | .powerOn straps memory => Sys2Proof.Machine.execPowerOn straps memory s
  | .lineActivityStart => Sys2Proof.Machine.execLineActivityStart s
  | .lineIdle => Sys2Proof.Machine.execLineIdle s
  | .lineStuck => Sys2Proof.Machine.execLineStuck s
  | .spreadEnd => Sys2Proof.Machine.execSpreadEnd s
  | .collision readBack => Sys2Proof.Machine.execCollision s readBack
  | .jamEnd memory => Sys2Proof.Machine.execJamEnd s memory
  | .backoffEnd => Sys2Proof.Machine.execBackoffEnd s
  | .frameSent memory => Sys2Proof.Machine.execFrameSent s memory
  | .jabberCut memory => Sys2Proof.Machine.execJabberCut s memory
  | .jabberSilenceEnd => Sys2Proof.Machine.execJabberSilenceEnd s
  | .joinListenEnd => Sys2Proof.Machine.execJoinListenEnd s
  | .frameReceived levels memory => Sys2Proof.Machine.execFrameReceived levels s memory
  | .dispatch => Sys2Proof.Machine.execDispatch s
  | .queryExpiry => Sys2Proof.Machine.execQueryExpiry s
  | .announcePoint => Sys2Proof.Machine.execAnnouncePoint s
  | .answerExpiry slot memory => Sys2Proof.Machine.execAnswerExpiry slot s memory
  | .readSeconds => Sys2Proof.Machine.execReadSeconds s
  | .readMinutes => Sys2Proof.Machine.execReadMinutes s
  | .status => Sys2Proof.Machine.execStatus s
  | .peers => Sys2Proof.Machine.execPeers s
  | .recenter => Sys2Proof.Machine.execRecenter s
  | .reseed => Sys2Proof.Machine.execReseed s
  | .restart => Sys2Proof.Machine.execRestart s
  | .unknownRequest => Sys2Proof.Machine.execUnknownRequest s
  | .announceHandled => Sys2Proof.Machine.execAnnounceHandled s
  | .secondMark now => Sys2Proof.Machine.execSecondMark now s
  | .entryStale => Sys2Proof.Machine.execEntryStale s
  | .entryRemoved => Sys2Proof.Machine.execEntryRemoved s
  | .holdoverExpiry => Sys2Proof.Machine.execHoldoverExpiry s
  | .holdoffEnd => Sys2Proof.Machine.execHoldoffEnd s
  | .pendingExpiry => Sys2Proof.Machine.execPendingExpiry s
  | .heldFLapse => Sys2Proof.Machine.execHeldFLapse s
  | .disturbedTimeExceeded => Sys2Proof.Machine.execDisturbedTimeExceeded s
  | .secondMarkOutputEnd => Sys2Proof.Machine.execSecondMarkOutputEnd s
  | .sampleInstant k residual => Sys2Proof.Machine.execSampleInstant k residual s
  | .settleComplete k residual => Sys2Proof.Machine.execSettleComplete k residual s
  | .pulseEdge => Sys2Proof.Machine.execPulseEdge s
  | .edgeWindowEnd => Sys2Proof.Machine.execEdgeWindowEnd s
  | .labelGapEnd => Sys2Proof.Machine.execLabelGapEnd s
  | .edgeAgeLimit => Sys2Proof.Machine.execEdgeAgeLimit s
  | .labelAgeLimit => Sys2Proof.Machine.execLabelAgeLimit s
  | .driveGoodAppears => Sys2Proof.Machine.execDriveGoodAppears s
  | .driveStartTimeout => Sys2Proof.Machine.execDriveStartTimeout s
  | .loopGoodAppears => Sys2Proof.Machine.execLoopGoodAppears s
  | .loopStartTimeout => Sys2Proof.Machine.execLoopStartTimeout s
  | .driveGoodLost => Sys2Proof.Machine.execDriveGoodLost s
  | .loopGoodLost driveLostToo => Sys2Proof.Machine.execLoopGoodLost driveLostToo s
  | .polarizeExpiry => Sys2Proof.Machine.execPolarizeExpiry s
  | .polarizeCurrentFault present => Sys2Proof.Machine.execPolarizeCurrentFault present s
  | .deadExpiry => Sys2Proof.Machine.execDeadExpiry s
  | .risingCrossing => Sys2Proof.Machine.execRisingCrossing s
  | .signalDetectLost absent => Sys2Proof.Machine.execSignalDetectLost absent s
  | .gateExpiry => Sys2Proof.Machine.execGateExpiry s
  | .tuSettleExpiry => Sys2Proof.Machine.execTuSettleExpiry s
  | .conversionComplete sensorCode pierCode => Sys2Proof.Machine.execConversionComplete sensorCode pierCode s
  | .divideComplete => Sys2Proof.Machine.execDivideComplete s
  | .rootComplete => Sys2Proof.Machine.execRootComplete s
  | .resetAsserted => Sys2Proof.Machine.execResetAsserted s
  | .labelOctetReceived levels => Sys2Proof.Machine.execLabelOctetReceived levels s

end Sys2Proof.Machine
end

