-- ==== Sys2Proof/Safety.lean ====
section
/-! DEFINITION. What a safe state of the node is: the stores within their capacities, the clock quantities within the ranges the
manual states, the counters within 16 bits, and one transmit slot at a time on the line. -/

namespace Sys2Proof.Machine

/-- The stores of the node within their capacities: the receive ring (R15), the two record rings (R178, R181), the event list
(R182), the build list (R180), the chain list (R133), the pending-magnitude list (R151). -/
def WithinCapacity (s : State) : Prop :=
  s.lc.ring.length ≤ 8 ∧ s.rs.seconds.length ≤ 1024 ∧ s.rs.minutes.length ≤ 512 ∧ s.rs.events.length ≤ 8
    ∧ s.rs.buildList.length ≤ 16 ∧ s.re.chain.length ≤ 12 ∧ s.mdm.list.length ≤ 12

/-- The clock quantities within their ranges: the tick count (R24), the trim, the slew order and the running rate (R25), the
rate remainder (R26) and the offset filter (R66). -/
def ClockInRange (s : State) : Prop :=
  s.tb.tick < 10000000 ∧ s.tb.trim.natAbs ≤ 50000 ∧ (∀ x ∈ s.tb.slew, x.natAbs ≤ 250000) ∧ s.tb.rate.natAbs ≤ 300000
    ∧ s.tb.remainder.natAbs ≤ 50 ∧ s.du.f.natAbs ≤ 999999

/-- The Peer Table holds its entries in ascending order of id, at most one of each (R41). -/
def PeersOrdered (s : State) : Prop :=
  (s.pt.entries.map (fun e => e.id.toNat)).Pairwise (· < ·)

/-- The Peer Table has one position per station id 1..15, a transmitting node's own position never in use: its entries stand in order,
and no entry, no frame in the ring and none with the dispatcher is of id 0 or of the node's own (R13, R14, R41). -/
def PeersInPosition (s : State) : Prop :=
  PeersOrdered s
    ∧ (∀ e ∈ s.pt.entries, e.id ≠ 0 ∧ e.id ≠ s.sul.stationId)
    ∧ (∀ e ∈ s.lc.ring, e.source ≠ 0 ∧ e.source ≠ s.sul.stationId)
    ∧ ∀ e, s.lc.dispatcher = some e → e.source ≠ 0 ∧ e.source ≠ s.sul.stationId

/-- At most one of the two transmit slots is SENDING (R6). -/
def OneSlotSends (s : State) : Prop :=
  isSending s.lc.slotA = false ∨ isSending s.lc.slotB = false

/-- The counters of Figure 13 and of TB, PT, DU and the VFE stand within 16 bits (00, "Counters"). -/
def LineCountersFit (s : State) : Prop :=
  s.lc.badFrame ≤ 65535 ∧ s.lc.ringOverrun ≤ 65535 ∧ s.lc.queryOverrun ≤ 65535 ∧ s.lc.queryExpired ≤ 65535
    ∧ s.lc.staleAnnouncement ≤ 65535 ∧ s.lc.abandoned ≤ 65535

/-- The counters of the clock blocks within 16 bits. -/
def ClockCountersFit (s : State) : Prop :=
  s.tb.extraEdge ≤ 65535 ∧ s.tb.labelReject ≤ 65535 ∧ s.pt.reject ≤ 65535 ∧ s.du.steps ≤ 65535 ∧ s.du.relabels ≤ 65535
    ∧ s.du.outliers ≤ 65535 ∧ ∀ e ∈ s.pt.entries, e.missed ≤ 65535

/-- The counters of the front ends within 16 bits. -/
def FrontCountersFit (s : State) : Prop :=
  s.vfe.faults ≤ 65535 ∧ s.vfe.retunes ≤ 65535 ∧ s.vfe.clipped ≤ 65535 ∧ s.vfe.bandInhibit ≤ 65535
    ∧ s.scn.fCount ≤ 65535 ∧ s.scn.absent ≤ 65535 ∧ s.scn.faults ≤ 65535
    ∧ s.tu.sensor.faultedReadings ≤ 65535 ∧ s.tu.sensor.clampedReadings ≤ 65535
    ∧ s.tu.pier.faultedReadings ≤ 65535 ∧ s.tu.pier.clampedReadings ≤ 65535

/-- The counters of the record path within 16 bits. -/
def RecordCountersFit (s : State) : Prop :=
  s.re.rangeClamp ≤ 65535 ∧ s.re.chainOverflow ≤ 65535 ∧ s.dru.divideFault ≤ 65535 ∧ s.mdm.matched ≤ 65535
    ∧ s.mdm.expired ≤ 65535 ∧ s.mdm.displaced ≤ 65535 ∧ s.mdm.unmatched ≤ 65535 ∧ s.mdm.rejected ≤ 65535
    ∧ s.bw.excluded ≤ 65535 ∧ s.bw.reseeds ≤ 65535 ∧ s.rs.eventsLost ≤ 65535 ∧ s.rs.minuteLost ≤ 65535
    ∧ s.sul.clampCount ≤ 65535

/-- Every counter of the node within 16 bits: the manual's counters saturate at 65,535. -/
def CountersFit (s : State) : Prop :=
  LineCountersFit s ∧ ClockCountersFit s ∧ FrontCountersFit s ∧ RecordCountersFit s

/-- Both record rings hold a run of consecutive sequences, from the oldest held record to the newest (R178, R181). -/
def SequencesConsecutive (s : State) : Prop :=
  (s.rs.seconds.map SecondRecord.sequence).IsChain (fun a b => b = a + 1)
    ∧ (s.rs.minutes.map MinuteRecord.sequence).IsChain (fun a b => b = a + 1)

/-- The second ring holds no two records of one epoch and second number, and none of the current second while that is OPEN
(R128, R178). -/
def RecordsDistinct (s : State) : Prop :=
  (s.rs.seconds.map (fun r => (r.epoch, r.second))).Nodup
    ∧ (s.re.isOpen = true → (s.re.epoch, s.re.second) ∉ s.rs.seconds.map (fun r => (r.epoch, r.second)))

/-- Every coarse setting lies in −32..31 and every fine setting in −128..127 (R76). -/
def SettingsInRange (s : State) : Prop :=
  ∀ a : Axis, -32 ≤ (axisGet s.vfe.settings a).coarse ∧ (axisGet s.vfe.settings a).coarse ≤ 31
    ∧ -128 ≤ (axisGet s.vfe.settings a).fine ∧ (axisGet s.vfe.settings a).fine ≤ 127

/-- No instant of the current second is taken twice, no axis has more samples than instants were taken, and no axis of a held
record has a sample count above 128 (R129). -/
def SamplesCounted (s : State) : Prop :=
  s.re.taken.Nodup
    ∧ (∀ a : Axis, axisGet s.re.n a + axisGet s.re.clipped a + axisGet s.re.blanked a = s.re.taken.length)
    ∧ ∀ r ∈ s.rs.seconds, ∀ a : Axis, (axisGet r.axes a).n ≤ 128

/-- R6, R7, R19: what the Line Controller `l` has become once a frame composed for the held query took its EMPTY slot `n` as `v`. With
a frame SENDING it is READY, last in the slots' turn; with none and no other READY it is SENDING at once; an earlier READY frame
takes its turn first. A frame that waits for IDLE may draw its spread. The other slot and all else of LC stand. -/
def SlotTaken (n : SlotName) (v : Slot) (l m : LC) : Prop :=
  m = { l with
      slotA := m.slotA
      slotB := m.slotB
      readyOrder := m.readyOrder
      contention := m.contention
      holder := none }
    ∧ (sendingSlot l ≠ none → v.sending = false
        ∧ m = { setSlot n (some v) l with holder := none, readyOrder := l.readyOrder ++ [n], contention := m.contention }
        ∧ (l.contention ≠ .waitIdle → m.contention = l.contention))
    ∧ (sendingSlot l = none → l.readyOrder = [] → v.sending = true ∧ v.expiry = none
        ∧ m = { setSlot n (some v) l with holder := none, readyOrder := [], contention := m.contention })
    ∧ (∀ o w, sendingSlot l = none → l.readyOrder = [o] → o ≠ n → getSlot o l = some w → v.sending = false
        ∧ m = { setSlot o (some { w with sending := true, expiry := none }) (setSlot n (some v) l) with
            holder := none
            readyOrder := [n]
            contention := m.contention })
    ∧ (sendingSlot l = none → l.readyOrder = [] ∨ (∃ o, o ≠ n ∧ l.readyOrder = [o] ∧ getSlot o l ≠ none) →
        m.contention = .waitIdle ∨ ∃ k ≤ 15, m.contention = .spread (40 * k))

/-- What an answer just composed to the held query `q` is, in slot `n` of `t` (R19, R183), for a Line Controller that stood as `l`: its
destination, tag, request code and result, what it carries, and whether it is the restart answer. Its body is the three opening
octets alone when it carries nothing more, and at most 240 octets in every case: what else it holds are free octets (the model's
choice, log 4). A READY answer expires in the first period beyond 1 s (the model's choice, log 16). The holder is empty, the frame
has made no attempt, and of LC only the slots and their turn change. -/
def AnswerPlaced (n : SlotName) (q : HeldQuery) (result : ResultCode) (body : AnswerBody) (restart : Bool) (l : LC) (t : State) :
    Prop :=
  ∃ (v : Slot) (rest : List Octet), getSlot n t.lc = some v
    ∧ v.frame = .answer ⟨q.source, queryTag q.body, queryCode q.body, result, body, restart, rest⟩
    ∧ v.attempts = 0 ∧ (v.sending = false → v.expiry = some 10000001)
    ∧ 3 + rest.length ≤ 240 ∧ (body = .nothing → rest = [])
    ∧ SlotTaken n v l t.lc

/-- Every record of the second ring of `s` that is FINAL is FINAL in `t` while `t` holds a record of its sequence. -/
def FinalKept (s t : State) : Prop :=
  ∀ r ∈ s.rs.seconds, r.final = true → ∀ u ∈ t.rs.seconds, u.sequence = r.sequence → u.final = true

/-- R184: what a read of a ring at from-sequence `f` and count `c` is answered: the result code and what the answer carries. -/
def ReadAnswered {α : Type} (sequenceOf : α → Sequence) (give : List α → AnswerBody) (f : Sequence) (c : Nat)
    (ring : List α) (result : ResultCode) (body : AnswerBody) : Prop :=
  (c = 0 → result = .badRequest ∧ body = .nothing)
    ∧ (c ≠ 0 → ring = [] → result = .notYet ∧ body = .newest none)
    ∧ (∀ o n, c ≠ 0 → ring.head? = some o → ring.getLast? = some n →
        (0 < signedDiff f (sequenceOf n) → result = .notYet ∧ body = .newest (some (sequenceOf n)))
        ∧ (signedDiff f (sequenceOf n) ≤ 0 → signedDiff f (sequenceOf o) < 0 →
            result = .gone ∧ body = .oldest (sequenceOf o))
        ∧ (signedDiff f (sequenceOf n) ≤ 0 → 0 ≤ signedDiff f (sequenceOf o) →
            result = .ok
              ∧ body = give ((ring.filter (fun r => decide (0 ≤ signedDiff (sequenceOf r) f))).take (min c 4))))

/-- Every field of an image in its range of Figure 91, with the corrections the blocks make (R98, R121, R163, R189). -/
def Image.InRange (im : Image) : Prop :=
  (0 ≤ im.lineDelay ∧ im.lineDelay ≤ 20000) ∧ im.holdoverLimit ≤ 86400
    ∧ (∀ a, 1 ≤ axisGet im.gain a ∧ axisGet im.gain a ≤ 65535)
    ∧ (∀ a, 1 ≤ axisGet im.coarseStep a ∧ axisGet im.coarseStep a ≤ 4000000)
    ∧ (∀ a, 1 ≤ axisGet im.fineStep a ∧ axisGet im.fineStep a ≤ 40000)
    ∧ (1000 ≤ im.retuneBand ∧ im.retuneBand ≤ 8000000)
    ∧ (2 ≤ im.cyclePeriod ∧ im.cyclePeriod ≤ 60)
    ∧ (5 ≤ im.polarizeTime ∧ im.polarizeTime ≤ 30) ∧ (20 ≤ im.gateTime ∧ im.gateTime ≤ 100)
    ∧ im.polarizeTime * 10 + 2 + im.gateTime + 8 ≤ im.cyclePeriod * 100
    ∧ (1 ≤ im.acqPeriod ∧ im.acqPeriod ≤ 60)
    ∧ (∀ c, -65535 ≤ channelGet im.slope c ∧ channelGet im.slope c ≤ 65535)
    ∧ (∀ c, -20000 ≤ channelGet im.intercept c ∧ channelGet im.intercept c ≤ 20000)
    ∧ (∀ c, -3900 ≤ channelGet im.hot c ∧ channelGet im.hot c ≤ 8500)
    ∧ (∀ c, -4000 ≤ channelGet im.cool c ∧ channelGet im.cool c ≤ 8400 ∧ channelGet im.cool c < channelGet im.hot c)
    ∧ (∀ c, channelGet im.queueCode c ≤ 3)
    ∧ (1 ≤ im.completeness ∧ im.completeness ≤ 128) ∧ (-4000 ≤ im.t0 ∧ im.t0 ≤ 8500)
    ∧ (∀ a, -100000 ≤ axisGet im.ks a ∧ axisGet im.ks a ≤ 100000)
    ∧ (∀ a, -100000 ≤ axisGet im.ko a ∧ axisGet im.ko a ≤ 100000)
    ∧ (1 ≤ im.slowBeta ∧ im.slowBeta ≤ 15) ∧ (1 ≤ im.fastBeta ∧ im.fastBeta ≤ 15)
    ∧ (1 ≤ im.fastBound ∧ im.fastBound ≤ im.watchThreshold) ∧ im.watchThreshold ≤ 10000000
    ∧ (1 ≤ im.releaseThreshold ∧ im.releaseThreshold ≤ 10000000)
    ∧ (im.watchThreshold = 1 → im.releaseThreshold = 1) ∧ (1 < im.watchThreshold → im.releaseThreshold < im.watchThreshold)
    ∧ (1 ≤ im.onsetCount ∧ im.onsetCount ≤ 60) ∧ (1 ≤ im.easeCount ∧ im.easeCount ≤ 3600)
    ∧ (60 ≤ im.maxDisturbed ∧ im.maxDisturbed ≤ 86400) ∧ (1 ≤ im.deltaFLimit ∧ im.deltaFLimit ≤ 1000000)

end Sys2Proof.Machine
end

