-- ==== Sys2Proof/Certificates/Slice0/Obligations.lean ====
section
/-! DEFINITION. The statements for the provers. Each names what it states; `{ s with … }` on the right of an answer says that
every other part of the state stands as it was. -/

open Sys2Proof Sys2Proof.Machine

/-! ## The step -/

/-- A step takes the command at the front of the queue and executes it with the queue's rest. -/
def Obligations.QueueFrontRuns : Prop :=
  ∀ (c : Instr) (rest : List Instr) (s : State), step { s with pending := c :: rest } = exec c { s with pending := rest }

/-- The model's choice (log 2): on an empty queue with nothing due, one oscillator period passes. With no correction schedule
the tick count advances by one, an instant it reaches is emitted and queued, and the count from 9,999,999 is the second mark,
whose notices wait for their blocks. While RESET is held nothing happens. -/
def Obligations.PeriodPasses : Prop :=
  (∀ s : State, s.powered = false → s.pending = [] → step s = .next s)
    ∧ ∀ s : State, s.powered = true → s.pending = [] → s.notices = [] → s.instants = [] → dueCommands s = [] →
        s.tb.schedule = none →
        (s.tb.tick = 9999999 →
            step s = .next { tickTimers s with
              tb := { tickTb s.tb with
                second := s.tb.second + 1
                tick := 0
                rate := (markTb s.tb).rate
                slew := none
                remainder := (markTb s.tb).remainder
                schedule := (markTb s.tb).schedule
                output := some 1000000 }
              notices := [.re, .vfe, .pt, .du, .scn, .tu, .mdm, .bw].map (fun b => ⟨b, s.tb.second + 1, s.tb.epoch⟩)
              instants := [⟨0, s.tb.second + 1, s.tb.epoch⟩] })
        ∧ (s.tb.tick < 9999999 → (s.tb.tick + 1) % 78125 ≠ 0 →
            step s = .next { tickTimers s with tb := { tickTb s.tb with tick := s.tb.tick + 1 } })
        ∧ (∀ k : Instant, k ≠ 0 → s.tb.tick + 1 = 78125 * k.toNat →
            step s = .next { tickTimers s with
              tb := { tickTb s.tb with tick := s.tb.tick + 1 }
              instants := [⟨k, s.tb.second, s.tb.epoch⟩]
              pending := [.sampleInstant k s.pins.residual] })

/-! ## The supply and the start -/

/-- POWER_ON: every block takes its power-on values, the start moment emits instant 0 of second 0, and the enabled roles begin. -/
def Obligations.PowerOnStartsBlocks : Prop :=
  ∀ (straps : StationId) (memory : Option MemoryRecord) (s : State), ∃ t, exec (.powerOn straps memory) s = .next t
    ∧ t.powered = true ∧ t.lc = LC.reset ∧ t.tb = TB.reset ∧ t.pt = PT.reset ∧ t.du = DU.reset straps
    ∧ t.re = RE.reset ∧ t.dru = DRU.reset ∧ t.bw = BW.reset ∧ t.rs = RS.reset
    ∧ t.sul = readRecord straps memory ∧ t.sul.stationId = straps
    ∧ t.notices = [] ∧ t.instants = [⟨0, 0, 0⟩]
    ∧ t.scn = { SCN.reset with state := if t.sul.image.scalarRole then .wait else .off }
    ∧ t.tu = { TU.reset with state := if t.sul.image.thermalRole then .wait else .off }
    ∧ (t.sul.image.vectorRole = false → t.vfe = VFE.reset)
    ∧ (t.sul.image.vectorRole = true → s.pins.driveGood = false →
        t.vfe = { VFE.reset with state := .driveStart, excitation := true, timer := some 5000000 })
    ∧ (t.sul.image.vectorRole = true → s.pins.driveGood = true →
        t.vfe = { VFE.reset with state := .loopStart, excitation := true, loop := true, timer := some 20000000 })
    ∧ (t.sul.image.scalarRole = true → t.mdm = { MDM.reset with source := .own })
    ∧ (t.sul.image.scalarRole = false → t.sul.image.scalarPeer ≠ 0 → t.sul.image.scalarPeer ≠ straps →
        t.mdm = { MDM.reset with source := .configured t.sul.image.scalarPeer })
    ∧ (t.sul.image.scalarRole = false → t.sul.image.scalarPeer = 0 ∨ t.sul.image.scalarPeer = straps →
        t.mdm = { MDM.reset with source := .none })
    ∧ t.pins = { s.pins with straps := straps, memory := memory, loopGood := false }
    ∧ t.pending = s.pending

/-- RESET_ASSERTED turns the drives, the currents and the output off and discards every piece of state of
every block: each stands at its reset values, SUL's at those of log 1 (the model's choice), until the power-on. Till then other
commands leave the node as it is but for the levels of its input pins (the model's choice, log 7). -/
def Obligations.ResetAssertedTurnsOff : Prop :=
  (∀ s : State, ∃ t, exec .resetAsserted s = .next t ∧ t.powered = false
      ∧ t.vfe.excitation = false ∧ t.vfe.loop = false ∧ t.scn.current = false ∧ t.tu.bias = false ∧ t.tb.output = none
      ∧ t.lc = LC.reset ∧ t.dru = DRU.reset ∧ t.sul = SUL.reset ∧ t.notices = [] ∧ t.instants = [] ∧ t.tb = TB.reset ∧ t.pt = PT.reset
      ∧ t.du = DU.reset 0 ∧ t.vfe = VFE.reset ∧ t.scn = SCN.reset ∧ t.tu = TU.reset ∧ t.re = RE.reset
      ∧ t.mdm = MDM.reset ∧ t.bw = BW.reset ∧ t.rs = RS.reset
      ∧ t.pins = { s.pins with loopGood := false } ∧ t.pending = s.pending)
    ∧ (∀ (c : Instr) (s : State), s.powered = false → (∀ straps memory, c ≠ .powerOn straps memory) → c ≠ .resetAsserted →
      ∃ pins, exec c s = .next { s with pins := pins })

/-- Every step keeps the image in use in range: whatever the configuration memory holds at a POWER_ON or at a restart, every field of
the image in use is in its range of Figure 91, with the corrections of the blocks. A memory that does not respond, and a record whose
check fails, leave the default record in use. Of a record that passes, every field (log 3) is in use as its range clamps it and the blocks
correct it, and the clamp count is the number of field instances beyond their ranges plus that of the corrections. That the
corrections compare clamped values (log 27), that a release threshold of 1 under a watch threshold of 1 counts as one (log 11), and
that bit c − 1 of the event mask is that of code c (log 12) are the model's choice. -/
def Obligations.ImageInUseInRange : Prop :=
  (∀ s t : State, s.sul.image.InRange → step s = .next t → t.sul.image.InRange)
    ∧ (∀ (straps : StationId) (memory : Option MemoryRecord) (s t : State),
      exec (.powerOn straps memory) s = .next t → t.sul.image.InRange)
    ∧ (∀ (straps : StationId) (memory : Option MemoryRecord) (s : State),
      (∀ m, memory = some m → m.octets.length = 192 → crc16 (m.octets.take 190) ≠ word16At m.octets 190) →
        ∃ t, exec (.powerOn straps memory) s = .next t ∧ t.sul.image = Image.default ∧ t.sul.configDefaults = true
          ∧ t.sul.clampCount = 0 ∧ t.sul.image.vectorRole = false ∧ t.sul.image.scalarRole = false
          ∧ t.sul.image.thermalRole = false ∧ t.sul.image.timePulse = false)
    ∧ ∀ (straps : StationId) (m : MemoryRecord) (s : State) (f : RawFields) (lim : Int → Int → Int → Int)
        (polarize gate period stages hotS hotP coolS coolP fast watch release : Int),
      m.octets.length = 192 → crc16 (m.octets.take 190) = word16At m.octets 190 → f = m.fields →
      (∀ lo hi v, lim lo hi v = max lo (min hi v)) →
      polarize = lim 5 30 f.polarizeTime → gate = lim 20 100 f.gateTime → period = lim 2 60 f.cyclePeriod →
      stages = polarize * 10 + 2 + gate + 8 →
      hotS = lim (-3900) 8500 f.hot.sensor → hotP = lim (-3900) 8500 f.hot.pier →
      coolS = lim (-4000) 8400 f.cool.sensor → coolP = lim (-4000) 8400 f.cool.pier →
      fast = lim 1 10000000 f.fastBound → watch = lim 1 10000000 f.watchThreshold →
      release = lim 1 10000000 f.releaseThreshold →
      ∃ t, exec (.powerOn straps (some m)) s = .next t ∧ t.sul.stationId = straps ∧ t.sul.configDefaults = false
        ∧ t.sul.image = {
          vectorRole := decide (f.vectorRole ≠ 0)
          scalarRole := decide (f.scalarRole ≠ 0)
          thermalRole := decide (f.thermalRole ≠ 0)
          timePulse := decide (f.timePulse ≠ 0)
          lineDelay := lim 0 20000 f.lineDelay
          holdoverLimit := (lim 0 86400 f.holdoverLimit).toNat
          gain := ⟨lim 1 65535 f.gain.x, lim 1 65535 f.gain.y, lim 1 65535 f.gain.z⟩
          coarseStep := ⟨lim 1 4000000 f.coarseStep.x, lim 1 4000000 f.coarseStep.y, lim 1 4000000 f.coarseStep.z⟩
          fineStep := ⟨lim 1 40000 f.fineStep.x, lim 1 40000 f.fineStep.y, lim 1 40000 f.fineStep.z⟩
          retuneBand := lim 1000 8000000 f.retuneBand
          cyclePeriod := (if period * 100 < stages then (stages + 99) / 100 else period).toNat
          polarizeTime := polarize.toNat
          gateTime := gate.toNat
          scalarPeer := BitVec.ofInt 4 (lim 0 15 f.scalarPeer)
          acqPeriod := (lim 1 60 f.acqPeriod).toNat
          slope := ⟨lim (-65535) 65535 f.slope.sensor, lim (-65535) 65535 f.slope.pier⟩
          intercept := ⟨lim (-20000) 20000 f.intercept.sensor, lim (-20000) 20000 f.intercept.pier⟩
          hot := ⟨hotS, hotP⟩
          cool := ⟨if hotS ≤ coolS then hotS - 100 else coolS, if hotP ≤ coolP then hotP - 100 else coolP⟩
          queueCode := ⟨(lim 0 3 f.queueCode.sensor).toNat, (lim 0 3 f.queueCode.pier).toNat⟩
          completeness := (lim 1 128 f.completeness).toNat
          t0 := lim (-4000) 8500 f.t0
          ks := ⟨lim (-100000) 100000 f.ks.x, lim (-100000) 100000 f.ks.y, lim (-100000) 100000 f.ks.z⟩
          ko := ⟨lim (-100000) 100000 f.ko.x, lim (-100000) 100000 f.ko.y, lim (-100000) 100000 f.ko.z⟩
          substitutePeer := BitVec.ofInt 4 (lim 0 15 f.substitutePeer)
          slowBeta := (lim 1 15 f.slowBeta).toNat
          fastBeta := (lim 1 15 f.fastBeta).toNat
          fastBound := min fast watch
          watchThreshold := watch
          releaseThreshold := max 1 (min release (watch - 1))
          onsetCount := (lim 1 60 f.onsetCount).toNat
          easeCount := (lim 1 3600 f.easeCount).toNat
          maxDisturbed := (lim 60 86400 f.maxDisturbed).toNat
          deltaFLimit := lim 1 1000000 f.deltaFLimit
          eventMask := f.eventMask }
        ∧ ∀ stored : List (Int × Int × Int), stored = [
            (0, 20000, f.lineDelay), (0, 86400, f.holdoverLimit),
            (1, 65535, f.gain.x), (1, 65535, f.gain.y), (1, 65535, f.gain.z),
            (1, 4000000, f.coarseStep.x), (1, 4000000, f.coarseStep.y), (1, 4000000, f.coarseStep.z),
            (1, 40000, f.fineStep.x), (1, 40000, f.fineStep.y), (1, 40000, f.fineStep.z),
            (1000, 8000000, f.retuneBand), (2, 60, f.cyclePeriod), (5, 30, f.polarizeTime), (20, 100, f.gateTime),
            (0, 15, f.scalarPeer), (1, 60, f.acqPeriod),
            (-65535, 65535, f.slope.sensor), (-65535, 65535, f.slope.pier),
            (-20000, 20000, f.intercept.sensor), (-20000, 20000, f.intercept.pier),
            (-3900, 8500, f.hot.sensor), (-3900, 8500, f.hot.pier),
            (-4000, 8400, f.cool.sensor), (-4000, 8400, f.cool.pier),
            (0, 3, f.queueCode.sensor), (0, 3, f.queueCode.pier),
            (1, 128, f.completeness), (-4000, 8500, f.t0),
            (-100000, 100000, f.ks.x), (-100000, 100000, f.ks.y), (-100000, 100000, f.ks.z),
            (-100000, 100000, f.ko.x), (-100000, 100000, f.ko.y), (-100000, 100000, f.ko.z),
            (0, 15, f.substitutePeer), (1, 15, f.slowBeta), (1, 15, f.fastBeta),
            (1, 10000000, f.fastBound), (1, 10000000, f.watchThreshold), (1, 10000000, f.releaseThreshold),
            (1, 60, f.onsetCount), (1, 3600, f.easeCount), (60, 86400, f.maxDisturbed), (1, 1000000, f.deltaFLimit)] →
          t.sul.clampCount = (stored.filter (fun x => decide (x.2.2 < x.1 ∨ x.2.1 < x.2.2))).length
            + (if period * 100 < stages then 1 else 0) + (if hotS ≤ coolS then 1 else 0) + (if hotP ≤ coolP then 1 else 0)
            + (if watch < fast then 1 else 0) + (if watch ≤ release then 1 else 0)

/-! ## The hut line -/

/-- LINE_ACTIVITY_START, LINE_STUCK and LINE_IDLE move the monitor. -/
def Obligations.LineMonitorMoves : Prop :=
  ∀ s : State, s.powered = true →
    (s.lc.monitor = .idle → (∀ k, s.lc.contention ≠ .spread k) →
        exec .lineActivityStart s = .next { s with lc := { s.lc with
          monitor := .busy
          rx := some ⟨⟨s.tb.second, s.tb.tick, s.tb.epoch⟩, false, false, false⟩ } })
    ∧ (∀ k, s.lc.monitor = .idle → s.lc.contention = .spread k →
        exec .lineActivityStart s = .next { s with lc := { s.lc with
          monitor := .busy
          contention := .waitIdle
          rx := some ⟨⟨s.tb.second, s.tb.tick, s.tb.epoch⟩, false, false, false⟩ } })
    ∧ (s.lc.monitor = .busy → driving s.lc.contention = false →
        exec .lineStuck s = .next { s with lc := { s.lc with monitor := .stuck, stuckSeen := true } })
    ∧ (s.lc.monitor ≠ .idle → driving s.lc.contention = false →
        ∃ t, exec .lineIdle s = .next t ∧ t.lc.monitor = .idle ∧ t.lc.rx = none
          ∧ (∀ r, s.lc.rx = some r → r.own = false → r.judged = false → t.lc.badFrame = bump s.lc.badFrame)
          ∧ ((∀ r, s.lc.rx = some r → r.own = true ∨ r.judged = true) → t.lc.badFrame = s.lc.badFrame)
          ∧ (s.lc.contention ≠ .waitIdle ∨ listenOnly s = true ∨ s.lc.duplicateId = true ∨ s.lc.joinListen ≠ none
              ∨ s.lc.silence ≠ none → t.lc.contention = s.lc.contention ∧ t.draws = s.draws)
          ∧ (s.lc.contention = .waitIdle → listenOnly s = false → s.lc.duplicateId = false → s.lc.joinListen = none →
              s.lc.silence = none → ∃ k ≤ 15, t.lc.contention = .spread (40 * k))
          ∧ t = { s with
              draws := t.draws
              lc := { s.lc with
                monitor := .idle
                rx := none
                badFrame := t.lc.badFrame
                contention := t.lc.contention } })

/-- SPREAD_END: the attempt of the SENDING frame begins. An announcement takes the clock and the up to 4 oldest events, and its
frame has 66 + 4 × E octets of 400 periods each. An answer's frame is its opening octets and the rest of its body: those octets and
their number are the model's choice where it carries data (log 4). -/
def Obligations.AttemptBegins : Prop :=
  ∀ (s : State) (n : SlotName) (v : Slot) (k : Nat), s.powered = true → OneSlotSends s → s.lc.contention = .spread k →
    getSlot n s.lc = some v → v.sending = true → mayTransmit s = true →
    (∀ a : Announcement, v.frame = .announce a →
        ∃ a' : Announcement,
          a' = { a with departureSecond := s.tb.second, departureTick := s.tb.tick, events := s.rs.events.take 4 }
          ∧ exec .spreadEnd s = .next { s with
              lc := setSlot n (some { v with frame := .announce a' }) { s.lc with
                monitor := .busy
                rx := some ⟨⟨s.tb.second, s.tb.tick, s.tb.epoch⟩, false, true, false⟩
                driverActive := 0
                contention := .attempt (400 * (66 + 4 * (s.rs.events.take 4).length))
                  (frameOctets .announce s.sul.stationId 0 (announcementBody a')) }
              rs := { s.rs with carried := (s.rs.events.take 4).length } })
    ∧ (∀ a : Answer, v.frame = .answer a →
        exec .spreadEnd s = .next { s with
          lc := { s.lc with
            monitor := .busy
            rx := some ⟨⟨s.tb.second, s.tb.tick, s.tb.epoch⟩, false, true, false⟩
            driverActive := 0
            contention := .attempt (400 * (11 + a.rest.length))
              (frameOctets .answer s.sul.stationId a.dest ([a.tag, a.code, resultCode a.result] ++ a.rest)) } })

/-- COLLISION, JAM_END and BACKOFF_END: a symbol read back other than driven gives the jam of 32 bit times, the attempt count, a
backoff of 0 to 2^min(a,6) − 1 slots of 64 bit times, and the wait for IDLE again with a spread of 0 to 15 bit times. With
every symbol read back as driven there is no collision (log 7). JABBER_SILENCE_END and JOIN_LISTEN_END: the silence or the
listen is over, and a SENDING frame that waits at an IDLE line draws a spread once nothing else holds it back. -/
def Obligations.ContentionMoves : Prop :=
  ∀ s : State, s.powered = true →
    (∀ k os readBack, s.lc.contention = .attempt k os →
        ((∃ (i : Nat) (a b : Level), (frameSymbols os)[i]? = some a ∧ readBack[i]? = some b ∧ a ≠ b) →
          exec (.collision readBack) s = .next { s with
            lc := { s.lc with contention := .jam 1280 }
            rs := { s.rs with carried := 0 } })
        ∧ ((∀ (i : Nat) (a b : Level), (frameSymbols os)[i]? = some a → readBack[i]? = some b → a = b) →
          exec (.collision readBack) s = .next s))
    ∧ (∀ (k : Nat) (n : SlotName) (v : Slot) (memory : Option MemoryRecord), OneSlotSends s → s.lc.contention = .jam k →
        getSlot n s.lc = some v → v.sending = true → v.attempts + 1 < 8 →
        ∃ b, b < 2 ^ min (v.attempts + 1) 6 ∧ exec (.jamEnd memory) s = .next { s with
          draws := s.draws + 1
          lc := setSlot n (some { v with attempts := v.attempts + 1 }) { s.lc with
            driverActive := 0
            contention := .backoff (2560 * b) } })
    ∧ (∀ k, s.lc.contention = .backoff k → mayTransmit s = false →
        exec .backoffEnd s = .next { s with lc := { s.lc with contention := .waitIdle } })
    ∧ (∀ k, s.lc.contention = .backoff k → mayTransmit s = true →
        ∃ j ≤ 15, exec .backoffEnd s = .next { s with
          draws := s.draws + 1
          lc := { s.lc with contention := .spread (40 * j) } })
    ∧ (s.lc.contention ≠ .waitIdle ∨ s.lc.monitor ≠ .idle →
        exec .jabberSilenceEnd s = .next { s with lc := { s.lc with silence := none } }
        ∧ exec .joinListenEnd s = .next { s with lc := { s.lc with joinListen := none } })
    ∧ (s.lc.contention = .waitIdle → s.lc.monitor = .idle → listenOnly s = false → s.lc.duplicateId = false →
        (s.lc.joinListen = none → ∃ j ≤ 15, exec .jabberSilenceEnd s = .next { s with
          draws := s.draws + 1
          lc := { s.lc with silence := none, contention := .spread (40 * j) } })
        ∧ (s.lc.silence = none → ∃ j ≤ 15, exec .joinListenEnd s = .next { s with
          draws := s.draws + 1
          lc := { s.lc with joinListen := none, contention := .spread (40 * j) } }))

/-- The eighth collision and the jabber cut abandon the frame: its slot is EMPTY, the abandoned counter increments, the events
stay, and the other READY frame has its turn. The cut starts the jabber silence of 1 s. -/
def Obligations.FrameAbandoned : Prop :=
  ∀ (s : State) (n m : SlotName) (v : Slot) (memory : Option MemoryRecord), s.powered = true → OneSlotSends s → getSlot n s.lc = some v →
    v.sending = true → holdsRestart (some v) = false → m ≠ n →
    (∀ k, s.lc.contention = .jam k → 8 ≤ v.attempts + 1 →
        ∃ t, exec (.jamEnd memory) s = .next t ∧ getSlot n t.lc = none ∧ t.lc.abandoned = bump s.lc.abandoned
          ∧ t.lc.driverActive = 0 ∧ t.rs = { s.rs with carried := 0 } ∧ t.lc.silence = s.lc.silence
          ∧ t.lc.jabberSeen = s.lc.jabberSeen
          ∧ (getSlot m s.lc = none → getSlot m t.lc = none)
          ∧ (∀ w, getSlot m s.lc = some w → s.lc.readyOrder = [m] →
              getSlot m t.lc = some { w with sending := true, expiry := none })
          ∧ t = { s with lc := t.lc, rs := t.rs, draws := t.draws })
    ∧ (driving s.lc.contention = true →
        ∃ t, exec (.jabberCut memory) s = .next t ∧ getSlot n t.lc = none ∧ t.lc.abandoned = bump s.lc.abandoned
          ∧ t.lc.driverActive = 0 ∧ t.rs = { s.rs with carried := 0 } ∧ t.lc.silence = some 10000000
          ∧ t.lc.jabberSeen = true
          ∧ (getSlot m s.lc = none → getSlot m t.lc = none)
          ∧ (∀ w, getSlot m s.lc = some w → s.lc.readyOrder = [m] →
              getSlot m t.lc = some { w with sending := true, expiry := none } ∧ t.lc.contention = .waitIdle)
          ∧ t = { s with lc := t.lc, rs := t.rs, draws := t.draws })

/-- FRAME_SENT: the slot is EMPTY without an abandonment, and the carried entries of a sent announcement leave the event list. -/
def Obligations.FrameSentFreesSlot : Prop :=
  ∀ (s : State) (n m : SlotName) (v : Slot) (k : Nat) (os : List Octet)
      (memory : Option MemoryRecord), s.powered = true → OneSlotSends s →
    s.lc.contention = .attempt k os → getSlot n s.lc = some v → v.sending = true → holdsRestart (some v) = false →
    m ≠ n →
    ∃ t, exec (.frameSent memory) s = .next t ∧ getSlot n t.lc = none ∧ t.lc.abandoned = s.lc.abandoned ∧ t.lc.driverActive = 0
      ∧ (∀ a, v.frame = .announce a → t.rs = { s.rs with events := s.rs.events.drop s.rs.carried, carried := 0 })
      ∧ (∀ a, v.frame = .answer a → t.rs = { s.rs with carried := 0 })
      ∧ (getSlot m s.lc = none → s.lc.readyOrder = [] → getSlot m t.lc = none ∧ t.lc.contention = .none)
      ∧ (∀ w, getSlot m s.lc = some w → s.lc.readyOrder = [m] →
          getSlot m t.lc = some { w with sending := true, expiry := none })
      ∧ t = { s with lc := t.lc, rs := t.rs, draws := t.draws }

/-- FRAME_RECEIVED: the tests of a run are those of R13, on the octets its levels spell; octets after the check are ignored. A bad
frame is counted, a frame for another station is discarded, and a good one enters the receive ring of 8 with
the arrival stamp of its run. One with the node's own id as source latches DUPLICATE_ID and abandons the frames of both
slots, once per frame. -/
def Obligations.FrameReceivedEntersRing : Prop :=
  (∀ (os : List RxOctet) (d : List Octet) (len : Nat), d = os.map RxOctet.data → len = (octetAt d 5).toNat →
      (judgeFrame os = none ↔ os.length < 8 ∨ octetAt d 0 ≠ 0x2D ∨ octetAt d 1 ≠ 0xB4 ∨ 240 < len ∨ os.length < 8 + len
        ∨ (∃ o ∈ os.take (8 + len), o.framing = true)
        ∨ crc16 ((d.drop 2).take (4 + len)) ≠ octetAt d (6 + len) ++ octetAt d (7 + len)
        ∨ octetAt d 3 = 0 ∨ 15 < (octetAt d 3).toNat ∨ octetAt d 2 ∉ [0x41, 0x51, 0x61])
      ∧ ∀ kind source dest body, judgeFrame os = some (kind, source, dest, body) →
          (kind = .announce ↔ octetAt d 2 = 0x41) ∧ (kind = .query ↔ octetAt d 2 = 0x51) ∧ (kind = .answer ↔ octetAt d 2 = 0x61)
            ∧ source = octetAt d 3 ∧ dest = octetAt d 4 ∧ body = (d.drop 6).take len)
    ∧ (∀ (s : State) (r : RxRun) (levels : List Level) (memory : Option MemoryRecord), s.powered = true → s.lc.rx = some r → r.own = false →
      r.judged = false →
      (judgeFrame (receiveOctets levels) = none → exec (.frameReceived levels memory) s = .next { s with lc := { s.lc with
          rx := some { r with judged := true }
          badFrame := bump s.lc.badFrame } })
      ∧ (∀ kind source dest body, judgeFrame (receiveOctets levels) = some (kind, source, dest, body) →
          source ≠ s.sul.stationId.setWidth 8 →
          (dest ≠ 0 → dest ≠ s.sul.stationId.setWidth 8 →
              exec (.frameReceived levels memory) s = .next { s with lc := { s.lc with rx := some { r with judged := true } } })
          ∧ (dest = 0 ∨ dest = s.sul.stationId.setWidth 8 → s.lc.ring.length < 8 →
              exec (.frameReceived levels memory) s = .next { s with lc := { s.lc with
                rx := some { r with judged := true }
                ring := s.lc.ring ++ [⟨kind, source.setWidth 4, dest, body, r.arrival, r.preMove⟩] } })
          ∧ (dest = 0 ∨ dest = s.sul.stationId.setWidth 8 → 8 ≤ s.lc.ring.length →
              exec (.frameReceived levels memory) s = .next { s with lc := { s.lc with
                rx := some { r with judged := true }
                ringOverrun := bump s.lc.ringOverrun } })))
    ∧ (∀ (s : State) (r : RxRun) (levels : List Level) (memory : Option MemoryRecord) (kind : FrameKind) (dest : Octet) (body : List Octet),
      s.powered = true → s.lc.rx = some r → r.own = false → r.judged = false →
      judgeFrame (receiveOctets levels) = some (kind, s.sul.stationId.setWidth 8, dest, body) → s.lc.duplicateId = false →
      holdsRestart s.lc.slotA = false → holdsRestart s.lc.slotB = false →
      ∃ t, exec (.frameReceived levels memory) s = .next t ∧ t.lc.duplicateId = true ∧ t.lc.slotA = none ∧ t.lc.slotB = none
        ∧ t.lc.ring = s.lc.ring ∧ t.lc.badFrame = s.lc.badFrame
        ∧ (s.lc.slotA = none → s.lc.slotB = none → t.lc.abandoned = s.lc.abandoned)
        ∧ (s.lc.slotA ≠ none → s.lc.slotB = none → t.lc.abandoned = bump s.lc.abandoned)
        ∧ (s.lc.slotA = none → s.lc.slotB ≠ none → t.lc.abandoned = bump s.lc.abandoned)
        ∧ (s.lc.slotA ≠ none → s.lc.slotB ≠ none → t.lc.abandoned = bump (bump s.lc.abandoned))
        ∧ t.rs.events = s.rs.events ∧ t = { s with lc := t.lc, rs := t.rs })

/-- DISPATCH: the free dispatcher removes the oldest entry of the ring and hands it on by kind. QUERY_EXPIRY and ANSWER_EXPIRY: the
held query or the READY answer is discarded and counted. That a query waits 2,000,001 periods, one beyond 200 ms, is the model's
choice (log 16). -/
def Obligations.DispatchHandsOn : Prop :=
  (∀ (s : State) (e : RingEntry) (rest : List RingEntry), s.powered = true → s.lc.dispatcher = none →
      s.lc.ring = e :: rest →
      (e.kind = .announce → exec .dispatch s = .next { s with lc := { s.lc with ring := rest, dispatcher := some e } })
      ∧ (e.kind = .answer → exec .dispatch s = .next { s with lc := { s.lc with ring := rest } })
      ∧ (e.kind = .query → e.dest = 0 →
          exec .dispatch s = .next { s with lc := { s.lc with ring := rest, badFrame := bump s.lc.badFrame } })
      ∧ (e.kind = .query → e.dest ≠ 0 → e.dest = s.sul.stationId.setWidth 8 → s.lc.holder = none →
          exec .dispatch s = .next { s with lc := { s.lc with
            ring := rest
            holder := some ⟨e.source, e.body, 2000001⟩ } })
      ∧ (e.kind = .query → e.dest ≠ 0 → e.dest = s.sul.stationId.setWidth 8 → s.lc.holder ≠ none →
          exec .dispatch s = .next { s with lc := { s.lc with ring := rest, queryOverrun := bump s.lc.queryOverrun } }))
    ∧ (∀ s : State, s.powered = true →
      (s.lc.holder ≠ none → exec .queryExpiry s = .next { s with lc := { s.lc with
          holder := none
          queryExpired := bump s.lc.queryExpired } })
      ∧ (∀ (n m : SlotName) (v w : Slot) (memory : Option MemoryRecord), m ≠ n → getSlot n s.lc = some v → v.sending = false →
          (∃ a : Answer, v.frame = .answer a ∧ a.restart = false) → getSlot m s.lc = some w → w.sending = true →
          s.lc.contention ≠ .waitIdle ∨ mayTransmit s = false →
          exec (.answerExpiry n memory) s = .next { s with lc := setSlot n none { s.lc with
            readyOrder := s.lc.readyOrder.filter (· != n)
            queryExpired := bump s.lc.queryExpired } }))

/-- ANNOUNCE_POINT at or past tick 3,000,000 of a second not yet announced: a composing node composes one announcement for the second, numbers it, and places it in the first case of
Figure 12; a node that composes nothing marks the second and no more. Earlier in a second, and in an
announced one, no announce point falls (log 7). That the announced seconds of the epoch are held as a list is the model's choice
(log 15). -/
def Obligations.AnnouncePointPlaces : Prop :=
  (∀ s : State, s.powered = true → s.tb.tick < 3000000 ∨ s.tb.second ∈ s.lc.announced →
      exec .announcePoint s = .next s)
    ∧ ∀ s : State, s.powered = true → 3000000 ≤ s.tb.tick → s.tb.second ∉ s.lc.announced →
    (composing s = false → exec .announcePoint s = .next { s with
        lc := { s.lc with announced := s.tb.second :: s.lc.announced } })
    ∧ (composing s = true →
        ∃ t, exec .announcePoint s = .next t ∧ t.lc.announceSeq = s.lc.announceSeq + 1
          ∧ t.lc.announced = s.tb.second :: s.lc.announced
          ∧ (∀ v, s.lc.slotA = some v → readyAnnounce s.lc.slotA = true →
              t.lc.slotA = some { v with frame := .announce (composeAnnouncement s) } ∧ t.lc.slotB = s.lc.slotB
                ∧ t.lc.readyOrder = s.lc.readyOrder ∧ t.lc.staleAnnouncement = bump s.lc.staleAnnouncement)
          ∧ (∀ v, readyAnnounce s.lc.slotA = false → s.lc.slotB = some v → readyAnnounce s.lc.slotB = true →
              t.lc.slotB = some { v with frame := .announce (composeAnnouncement s) } ∧ t.lc.slotA = s.lc.slotA
                ∧ t.lc.readyOrder = s.lc.readyOrder ∧ t.lc.staleAnnouncement = bump s.lc.staleAnnouncement)
          ∧ (∀ v, s.lc.slotA = none → s.lc.slotB = some v → v.sending = true →
              t.lc.slotA = some ⟨false, .announce (composeAnnouncement s), 0, none⟩ ∧ t.lc.slotB = s.lc.slotB
                ∧ t.lc.readyOrder = s.lc.readyOrder ++ [.a] ∧ t.lc.staleAnnouncement = s.lc.staleAnnouncement)
          ∧ (∀ v, s.lc.slotB = none → s.lc.slotA = some v → v.sending = true →
              t.lc.slotB = some ⟨false, .announce (composeAnnouncement s), 0, none⟩ ∧ t.lc.slotA = s.lc.slotA
                ∧ t.lc.readyOrder = s.lc.readyOrder ++ [.b] ∧ t.lc.staleAnnouncement = s.lc.staleAnnouncement)
          ∧ (s.lc.slotA = none → s.lc.slotB = none → s.lc.readyOrder = [] →
              t.lc.slotA = some ⟨true, .announce (composeAnnouncement s), 0, none⟩ ∧ t.lc.slotB = none
                ∧ t.lc.readyOrder = [] ∧ t.lc.staleAnnouncement = s.lc.staleAnnouncement)
          ∧ (s.lc.slotA ≠ none → s.lc.slotB ≠ none → readyAnnounce s.lc.slotA = false →
              readyAnnounce s.lc.slotB = false →
              t.lc.slotA = s.lc.slotA ∧ t.lc.slotB = s.lc.slotB ∧ t.lc.readyOrder = s.lc.readyOrder
                ∧ t.lc.staleAnnouncement = bump s.lc.staleAnnouncement)
          ∧ t = { s with lc := t.lc, draws := t.draws })

/-- The announcement composed takes its fields from the blocks that own them. -/
def Obligations.AnnouncementComposed : Prop :=
  ∀ s : State, ∃ a, composeAnnouncement s = a ∧ a.sequence = s.lc.announceSeq
    ∧ a.abilities = ⟨s.sul.image.vectorRole, s.sul.image.scalarRole, s.sul.image.thermalRole, s.sul.image.timePulse⟩
    ∧ a.cls = s.du.cls ∧ a.root = s.du.root ∧ a.depth = s.du.depth ∧ a.errorBound = s.du.errorBound
    ∧ (a.locked = true ↔ s.du.state ≠ .acquire)
    ∧ (s.du.state = .acquire ∨ s.du.state = .locked → a.reference = s.du.reference)
    ∧ (s.du.state = .holdover ∨ s.du.state = .freeRoot → a.reference = none)
    ∧ a.disturbance = s.bw.state ∧ (a.retuning = true ↔ s.vfe.state = .retuning)
    ∧ (s.sul.image.vectorRole = false ∨ s.re.summary = none → a.vectorSecond = 0 ∧ a.vector = ⟨none, none, none⟩)
    ∧ (∀ v, s.sul.image.vectorRole = true → s.re.summary = some v → a.vectorSecond = v.second ∧ a.vector = v.values)
    ∧ (s.sul.image.scalarRole = false ∨ s.scn.latestF = none → a.f = none)
    ∧ (∀ f, s.sul.image.scalarRole = true → s.scn.latestF = some f → a.f = some (f.second, f.value))
    ∧ a.sensor = s.tu.sensor.reading.map (fun r => (r.second, r.value))
    ∧ a.pier = s.tu.pier.reading.map (fun r => (r.second, r.value))

/-- READ_SECONDS and READ_MINUTES: the held read is answered from its ring. Nothing changes but the answer's slot, the turn of the
frames that wait (their order, and the contention of the one whose turn it is), the holder, and the model's count of draws (log 4).
A READY answer's expiry of 10,000,001 periods (log 16), the free octets of an answer with data (log 4) and that a read too short is
answered by the command of its code (log 13) are the model's choice. -/
def Obligations.ReadsAnswered : Prop :=
  ∀ (s : State) (n : SlotName) (q : HeldQuery), s.powered = true → composing s = true → emptySlot s.lc = some n →
    s.lc.holder = some q →
    (requestKind q.body = .readSeconds →
        ∃ t result body, exec .readSeconds s = .next t ∧ AnswerPlaced n q result body false s.lc t
          ∧ (q.body.length < 7 → result = .badRequest ∧ body = .nothing)
          ∧ (7 ≤ q.body.length →
              ReadAnswered SecondRecord.sequence AnswerBody.seconds (word32At q.body 2) (octetAt q.body 6).toNat
                s.rs.seconds result body)
          ∧ t = { s with lc := t.lc, draws := t.draws })
    ∧ (requestKind q.body = .readMinutes →
        ∃ t result body, exec .readMinutes s = .next t ∧ AnswerPlaced n q result body false s.lc t
          ∧ (q.body.length < 7 → result = .badRequest ∧ body = .nothing)
          ∧ (7 ≤ q.body.length →
              ReadAnswered MinuteRecord.sequence AnswerBody.minutes (word32At q.body 2) (octetAt q.body 6).toNat
                s.rs.minutes result body)
          ∧ t = { s with lc := t.lc, draws := t.draws })

/-- STATUS and PEERS: the answer carries every field that the blocks list for STATUS, and the listed fields of every entry, as they
stand; STATUS then clears four latched flags but for those whose condition still holds, and leaves DUPLICATE_ID. A READY answer's
expiry of 10,000,001 periods (log 16) and the free octets of an answer with data (log 4) are the model's choice. -/
def Obligations.ReportsAnswered : Prop :=
  ∀ (s : State) (n : SlotName) (q : HeldQuery), s.powered = true → composing s = true → emptySlot s.lc = some n →
    s.lc.holder = some q →
    (requestKind q.body = .status →
        ∃ (t : State) (r : StatusReport), exec .status s = .next t
          ∧ AnswerPlaced n q .ok (.status r) false
              { s.lc with stuckSeen := t.lc.stuckSeen, jabberSeen := t.lc.jabberSeen } t
          ∧ r.stationId = s.sul.stationId ∧ r.clampCount = s.sul.clampCount
          ∧ r.flags = ⟨s.lc.stuckSeen, s.lc.jabberSeen, s.du.trimLimit, s.sul.configDefaults, s.lc.duplicateId⟩
          ∧ r.line = {
            monitor := s.lc.monitor
            slotA := s.lc.slotA.map (fun v => (v.sending, match v.frame with | .announce _ => .announce | .answer _ => .answer))
            slotB := s.lc.slotB.map (fun v => (v.sending, match v.frame with | .announce _ => .announce | .answer _ => .answer))
            sendingAttempts := r.line.sendingAttempts
            badFrame := s.lc.badFrame
            ringOverrun := s.lc.ringOverrun
            queryOverrun := s.lc.queryOverrun
            queryExpired := s.lc.queryExpired
            staleAnnouncement := s.lc.staleAnnouncement
            abandoned := s.lc.abandoned }
          ∧ ((∀ m v, getSlot m s.lc = some v → v.sending = false) → r.line.sendingAttempts = none)
          ∧ (∀ m v, getSlot m s.lc = some v → v.sending = true → r.line.sendingAttempts = some v.attempts)
          ∧ r.time = {
            clock := ⟨s.tb.second, s.tb.tick, s.tb.epoch⟩
            trim := s.tb.trim
            rate := s.tb.rate
            present := s.tb.present
            extraEdge := s.tb.extraEdge
            labelReject := s.tb.labelReject }
          ∧ r.peers = {
            reject := s.pt.reject
            heard := (s.pt.entries.filter (fun e => decide (e.state = .heard))).length
            usable := (s.pt.entries.filter (fun e => decide (e.state = .usable))).length
            stale := (s.pt.entries.filter (fun e => decide (e.state = .stale))).length }
          ∧ r.discipline = {
            state := s.du.state
            reference := s.du.reference
            f := s.du.f
            lockCount := s.du.lockCount
            outlierRun := s.du.outlierRun
            holdoverAge := s.du.holdoverAge
            errorBound := s.du.errorBound
            steps := s.du.steps
            relabels := s.du.relabels
            outliers := s.du.outliers }
          ∧ r.vector = {
            state := s.vfe.state
            cause := s.vfe.cause
            settings := s.vfe.settings
            bandRun := s.vfe.bandRun
            clipRun := s.vfe.clipRun
            request := s.vfe.request
            blank := s.vfe.blank
            faults := s.vfe.faults
            retunes := s.vfe.retunes
            clipped := s.vfe.clipped
            bandInhibit := s.vfe.bandInhibit }
          ∧ r.scalar = {
            state := s.scn.state
            period := s.sul.image.cyclePeriod
            outcome := s.scn.outcome
            n := s.scn.n
            t := s.scn.t
            latestF := s.scn.latestF.map (fun f => (f.value, f.second))
            fCount := s.scn.fCount
            absent := s.scn.absent
            faults := s.scn.faults }
          ∧ r.thermal = ⟨s.tu.state, s.sul.image.acqPeriod, s.tu.sensor, s.tu.pier⟩
          ∧ r.reduction = {
            second := s.re.second
            epoch := s.re.epoch
            isOpen := s.re.isOpen
            taken := s.re.taken.length
            n := s.re.n
            clipped := s.re.clipped
            blanked := s.re.blanked
            sticky := s.re.sticky
            chainLength := s.re.chain.length
            held := s.re.held
            rangeClamp := s.re.rangeClamp
            chainOverflow := s.re.chainOverflow }
          ∧ r.divider = ⟨s.dru.queue.map Request.client, s.dru.current.map (fun c => c.request.client), s.dru.divideFault⟩
          ∧ r.matcher = {
            source := s.mdm.source
            entries := s.mdm.list.length
            oldest := s.mdm.list.head?.map (fun e => (e.second, e.marks))
            heldF := s.mdm.heldF
            latestF := s.mdm.latestF
            matched := s.mdm.matched
            expired := s.mdm.expired
            displaced := s.mdm.displaced
            unmatched := s.mdm.unmatched
            rejected := s.mdm.rejected }
          ∧ r.watch = {
            state := s.bw.state
            onsetRun := s.bw.onsetRun
            easeRun := s.bw.easeRun
            disturbedTime := s.bw.disturbedTime
            axes := ⟨⟨s.bw.axes.x.baseline, s.bw.axes.x.deviation, s.bw.axes.x.judgement⟩,
              ⟨s.bw.axes.y.baseline, s.bw.axes.y.deviation, s.bw.axes.y.judgement⟩,
              ⟨s.bw.axes.z.baseline, s.bw.axes.z.deviation, s.bw.axes.z.judgement⟩⟩
            ldf := s.bw.ldf
            excursion := s.bw.excursion
            outside := s.bw.outside
            inside := s.bw.inside
            slowBeta := s.sul.image.slowBeta
            fastBeta := s.sul.image.fastBeta
            fastBound := s.sul.image.fastBound
            watchThreshold := s.sul.image.watchThreshold
            releaseThreshold := s.sul.image.releaseThreshold
            onsetCount := s.sul.image.onsetCount
            easeCount := s.sul.image.easeCount
            maxDisturbed := s.sul.image.maxDisturbed
            deltaFLimit := s.sul.image.deltaFLimit
            excluded := s.bw.excluded
            reseeds := s.bw.reseeds }
          ∧ r.store = {
            oldestSecond := s.rs.seconds.head?.map SecondRecord.sequence
            newestSecond := s.rs.seconds.getLast?.map SecondRecord.sequence
            oldestMinute := s.rs.minutes.head?.map MinuteRecord.sequence
            newestMinute := s.rs.minutes.getLast?.map MinuteRecord.sequence
            events := s.rs.events.length
            current := s.rs.current
            buildList := s.rs.buildList.length
            eventsLost := s.rs.eventsLost
            minuteLost := s.rs.minuteLost }
          ∧ (t.lc.stuckSeen = true ↔ s.lc.monitor = .stuck) ∧ (t.lc.jabberSeen = true ↔ s.lc.silence ≠ none)
          ∧ (t.du.trimLimit = true ↔ s.tb.trim = 50000 ∨ s.tb.trim = -50000)
          ∧ t.sul.configDefaults = s.sul.isDefault ∧ t.lc.duplicateId = s.lc.duplicateId
          ∧ t = { s with
              lc := t.lc
              draws := t.draws
              du := { s.du with trimLimit := t.du.trimLimit }
              sul := { s.sul with configDefaults := t.sul.configDefaults } })
    ∧ (requestKind q.body = .peers →
        ∃ (t : State) (listed : List PeerReport), exec .peers s = .next t
          ∧ AnswerPlaced n q .ok (.peers listed) false s.lc t
          ∧ listed = s.pt.entries.map (fun e => {
            id := e.id
            state := e.state
            abilities := e.abilities
            cls := e.cls
            root := e.root
            depth := e.depth
            locked := e.locked
            reference := e.reference
            errorBound := e.errorBound
            lastSequence := e.lastSequence
            consecutive := e.consecutive
            missed := e.missed
            lastArrival := e.lastArrival
            offset := e.offset
            spread := e.spread
            marksSince := e.marksSince
            latestF := e.latestF
            latestTemp := e.latestTemp
            disturbance := e.disturbance
            retuning := e.retuning })
          ∧ t = { s with lc := t.lc, draws := t.draws })

/-- RECENTER, RESEED, RESTART and UNKNOWN_REQUEST: the result of each, and what the accepted request does. An accepted RESEED gives
every axis its latest value as baseline and no deviation or judgement, the state QUIET and the runs and the disturbed time 0, counts
and raises BASELINE_RESEED; the latest values, the excluded counter and the ΔF watch stand. A READY answer's expiry of 10,000,001
periods (log 16) and that UNKNOWN_REQUEST also answers a read too short (log 13) are the model's choice. -/
def Obligations.RequestsAnswered : Prop :=
  ∀ (s : State) (n : SlotName) (q : HeldQuery), s.powered = true → composing s = true → emptySlot s.lc = some n →
    s.lc.holder = some q →
    (requestKind q.body = .recenter →
        ∃ t, exec .recenter s = .next t
          ∧ (s.vfe.state = .off → AnswerPlaced n q .notRole .nothing false s.lc t ∧ t.vfe = s.vfe)
          ∧ (s.vfe.state = .running → AnswerPlaced n q .ok .nothing false s.lc t ∧ t.vfe = { s.vfe with request := true })
          ∧ (s.vfe.state ≠ .off → s.vfe.state ≠ .running → AnswerPlaced n q .busy .nothing false s.lc t ∧ t.vfe = s.vfe)
          ∧ t = { s with lc := t.lc, draws := t.draws, vfe := t.vfe })
    ∧ (requestKind q.body = .reseed →
        ∃ t, exec .reseed s = .next t
          ∧ (s.sul.image.vectorRole = false →
              AnswerPlaced n q .notRole .nothing false s.lc t ∧ t.bw = s.bw ∧ t.rs = s.rs)
          ∧ (s.sul.image.vectorRole = true →
              AnswerPlaced n q .ok .nothing false s.lc t
                ∧ t.bw = { s.bw with
                    axes :=
                      ⟨⟨s.bw.axes.x.latest, s.bw.axes.x.latest, none, none⟩,
                        ⟨s.bw.axes.y.latest, s.bw.axes.y.latest, none, none⟩,
                        ⟨s.bw.axes.z.latest, s.bw.axes.z.latest, none, none⟩⟩
                    state := .quiet
                    onsetRun := 0
                    easeRun := 0
                    disturbedTime := 0
                    reseeds := bump s.bw.reseeds }
                ∧ t.rs = (raiseEvent .baselineReseed s.tb.second s).rs)
          ∧ t = { s with lc := t.lc, draws := t.draws, bw := t.bw, rs := t.rs })
    ∧ (requestKind q.body = .restart →
        ∃ t, exec .restart s = .next t ∧ AnswerPlaced n q .ok .nothing true s.lc t
          ∧ t = { s with lc := t.lc, draws := t.draws })
    ∧ (requestKind q.body = .unknown
        ∨ (requestKind q.body = .readSeconds ∨ requestKind q.body = .readMinutes) ∧ q.body.length < 7 →
        ∃ t, exec .unknownRequest s = .next t ∧ AnswerPlaced n q .badRequest .nothing false s.lc t
          ∧ t = { s with lc := t.lc, draws := t.draws })

/-- An octet is sent as a dominant start symbol, its bits least-significant first, 1 recessive, and a recessive stop symbol, and a
receiver takes it back; a dominant level where the stop symbol is due is a framing error, and the next octet starts after the
line has been recessive. Every frame the node can build is received as it was built: the check, the kind, the ids and the body
survive the line, and line activity after the frame is ignored. -/
def Obligations.FrameSurvivesTheLine : Prop :=
  (∀ o : Octet, octetSymbols o
      = .dominant :: ((List.range 8).map (fun i => if o.getLsbD i then Level.recessive else .dominant) ++ [.recessive]))
    ∧ (∀ (os : List Octet) (after : List Level),
      receiveOctets (frameSymbols os ++ after) = os.map (fun o => ⟨o, false⟩) ++ receiveOctets after)
    ∧ (∀ (o : Octet) (k : Nat) (after : List Level),
      receiveOctets ((octetSymbols o).take 9 ++ List.replicate (k + 1) .dominant ++ .recessive :: after)
        = ⟨o, true⟩ :: receiveOctets after)
    ∧ ∀ (kind : FrameKind) (source dest : StationId) (body : List Octet) (after : List Level),
      source ≠ 0 → body.length ≤ 240 →
      judgeFrame (receiveOctets (frameSymbols (frameOctets kind source dest body) ++ after))
        = some (kind, source.setWidth 8, dest.setWidth 8, body)

/-- Every announcement whose fields are in the ranges of Figure 8 is laid out as that figure has it, each field at its octets, zeros
where a value is absent and the event codes those of Figure 9; it passes the body test of a receiver, which reads back the fields
sent. -/
def Obligations.AnnouncementSurvivesTheLine : Prop :=
  ∀ a : Announcement, a.departureTick < 2 ^ 32 → a.cls ≤ 2 → a.root ≠ 0 → a.depth ≤ 6 → a.errorBound ≤ 65535 →
    a.reference ≠ some (.peer 0) → a.events.length ≤ 4 →
    (∀ sec v, a.f = some (sec, v) → -2147483648 ≤ v ∧ v ≤ 2147483647) →
    (∀ sec v, a.sensor = some (sec, v) → -32768 ≤ v ∧ v ≤ 32767) →
    bodyValid (announcementBody a) = true
      ∧ (announcementBody a).length = 58 + 4 * a.events.length
      ∧ heardOf (announcementBody a) =
          { sequence := a.sequence
            departureSecond := a.departureSecond
            departureTick := a.departureTick
            abilities := a.abilities
            cls := a.cls
            root := a.root
            depth := a.depth
            locked := a.locked
            reference := a.reference
            errorBound := a.errorBound
            disturbance := a.disturbance
            retuning := a.retuning
            f := a.f
            temp := a.sensor }
      ∧ ∀ b, b = announcementBody a →
          octetAt b 0 = a.sequence ∧ word32At b 1 = a.departureSecond ∧ (word32At b 5).toNat = a.departureTick
          ∧ (octetAt b 9).toNat = a.abilities.vector.toNat + 2 * a.abilities.scalar.toNat + 4 * a.abilities.thermal.toNat
              + 8 * a.abilities.pulse.toNat
          ∧ (octetAt b 10).toNat = a.cls ∧ (octetAt b 11).toNat = a.root.toNat ∧ (octetAt b 12).toNat = a.depth
          ∧ (octetAt b 13).toNat = a.locked.toNat
          ∧ (a.reference = none → octetAt b 14 = 0xFF) ∧ (a.reference = some .pulse → octetAt b 14 = 0)
          ∧ (∀ id, a.reference = some (.peer id) → (octetAt b 14).toNat = id.toNat)
          ∧ (word16At b 15).toNat = a.errorBound
          ∧ [Disturbance.quiet, .onset, .disturbed, .easing][(octetAt b 17).toNat]? = some a.disturbance
          ∧ (octetAt b 18).toNat = a.retuning.toNat
          ∧ word32At b 19 = a.vectorSecond
          ∧ (octetAt b 23).toNat = a.vector.x.isSome.toNat + 2 * a.vector.y.isSome.toNat + 4 * a.vector.z.isSome.toNat
          ∧ word32At b 24 = BitVec.ofInt 32 (a.vector.x.getD 0) ∧ word32At b 28 = BitVec.ofInt 32 (a.vector.y.getD 0)
          ∧ word32At b 32 = BitVec.ofInt 32 (a.vector.z.getD 0)
          ∧ (octetAt b 36).toNat = a.f.isSome.toNat + 2 * a.sensor.isSome.toNat + 4 * a.pier.isSome.toNat
          ∧ word32At b 37 = (a.f.map Prod.fst).getD 0 ∧ word32At b 41 = BitVec.ofInt 32 ((a.f.map Prod.snd).getD 0)
          ∧ word32At b 45 = (a.sensor.map Prod.fst).getD 0 ∧ word16At b 49 = BitVec.ofInt 16 ((a.sensor.map Prod.snd).getD 0)
          ∧ word32At b 51 = (a.pier.map Prod.fst).getD 0 ∧ word16At b 55 = BitVec.ofInt 16 ((a.pier.map Prod.snd).getD 0)
          ∧ (octetAt b 57).toNat = a.events.length
          ∧ ∀ i e, a.events[i]? = some e →
              [EventKind.disturbanceOnset, .disturbanceEnd, .baselineReseed, .thermalStart, .thermalEnd, .sensorFault, .retune,
                .deltaFStart, .deltaFEnd, .referenceChange, .clockStep, .frontEndFault][(octetAt b (58 + 4 * i)).toNat - 1]?
                  = some e.kind
              ∧ 1 ≤ (octetAt b (58 + 4 * i)).toNat
              ∧ 65536 * (octetAt b (59 + 4 * i)).toNat + 256 * (octetAt b (60 + 4 * i)).toNat + (octetAt b (61 + 4 * i)).toNat
                  = e.second.toNat % 2 ^ 24

/-! ## The restart -/

/-- The restart answer leaves its slot, sent, abandoned by the eighth collision, a jabber cut or a duplicate id, or expired: the
node keeps hut time in the next epoch and both rings, finishes every record in hand, reads the memory again and starts its blocks. A
record of the chain list ends with reason RESTART, its axes whose chains have not ended absent and ARITH set for them. The VFE, SCN,
TU, RE and MDM stand at their start values under the new image. The minute under build stays at the head, also where the start of
the current minute finds the list full, which then loses the minute behind it (the model's choice, log 28); both counters are 0. The
DRU holds at most the division of a minute built anew from its records (the model's choice, log 31). Notices that wait stand (the
model's choice, log 20). -/
def Obligations.RestartTakesPlace : Prop :=
  ∀ (s t : State) (n : SlotName) (v : Slot) (memory : Option MemoryRecord), s.powered = true → OneSlotSends s →
    getSlot n s.lc = some v → holdsRestart (some v) = true → s.rs.minutes.length ≤ 512 →
    (v.sending = true ∧ (∃ k os, s.lc.contention = .attempt k os) ∧ exec (.frameSent memory) s = .next t)
      ∨ (v.sending = true ∧ driving s.lc.contention = true ∧ exec (.jabberCut memory) s = .next t)
      ∨ (v.sending = true ∧ (∃ k, s.lc.contention = .jam k) ∧ 8 ≤ v.attempts + 1 ∧ exec (.jamEnd memory) s = .next t)
      ∨ (v.sending = false ∧ exec (.answerExpiry n memory) s = .next t)
      ∨ (s.lc.duplicateId = false ∧ ∃ r levels kind dest body, s.lc.rx = some r ∧ r.own = false ∧ r.judged = false
          ∧ judgeFrame (receiveOctets levels) = some (kind, s.sul.stationId.setWidth 8, dest, body)
          ∧ exec (.frameReceived levels memory) s = .next t) →
    t.tb.epoch = s.tb.epoch + 1 ∧ t.tb.second = s.tb.second ∧ t.tb.tick = s.tb.tick ∧ t.tb.trim = s.tb.trim
      ∧ t.tb.remainder = s.tb.remainder ∧ t.tb.schedule = s.tb.schedule ∧ t.tb.output = s.tb.output
      ∧ t.tb.edgeWindow = s.tb.edgeWindow ∧ t.tb.slew = none ∧ t.tb.present = false ∧ t.tb.lastLabel = none
      ∧ t.tb.edge = none ∧ t.tb.label = none ∧ t.tb.pendingLabel = none ∧ t.tb.labelAge = none ∧ t.tb.extraEdge = 0
      ∧ t.tb.labelReject = 0
      ∧ t.lc = { LC.reset with duplicateId := t.lc.duplicateId }
      ∧ (s.lc.duplicateId = true → t.lc.duplicateId = true)
      ∧ t.pt = PT.reset ∧ t.bw = BW.reset
      ∧ t.sul = readRecord s.sul.stationId memory
      ∧ t.du = { DU.reset s.sul.stationId with
          state := t.du.state
          boundAtEntry := t.du.boundAtEntry
          heldClass := t.du.heldClass
          errorBound := t.du.errorBound
          cls := t.du.cls }
      ∧ (s.du.state = .locked → t.du.state = .holdover ∧ t.du.holdoverAge = 0
          ∧ t.du.boundAtEntry = some s.du.errorBound ∧ t.du.heldClass = some s.du.cls
          ∧ t.du.errorBound = min 65535 s.du.errorBound ∧ t.du.cls = (if s.du.cls = 2 then 2 else 1))
      ∧ (s.du.state ≠ .locked → t.du = DU.reset s.sul.stationId)
      ∧ t.rs.events = [] ∧ t.rs.pendingF = none ∧ t.rs.current = none ∧ t.rs.eventsLost = 0
      ∧ t.rs.minuteLost = 0
      ∧ t.re = { RE.reset with
          isOpen := !ringHolds (s.tb.epoch + 1) s.tb.second t.rs
          second := s.tb.second
          epoch := s.tb.epoch + 1 }
      ∧ (t.sul.image.vectorRole = false → t.vfe = VFE.reset)
      ∧ (t.sul.image.vectorRole = true → s.pins.driveGood = false →
          t.vfe = { VFE.reset with state := .driveStart, excitation := true, timer := some 5000000 })
      ∧ (t.sul.image.vectorRole = true → s.pins.driveGood = true →
          t.vfe = { VFE.reset with state := .loopStart, excitation := true, loop := true, timer := some 20000000 })
      ∧ t.scn = { SCN.reset with state := if t.sul.image.scalarRole then .wait else .off }
      ∧ t.tu = { TU.reset with state := if t.sul.image.thermalRole then .wait else .off }
      ∧ (t.sul.image.scalarRole = true → t.mdm = { MDM.reset with source := .own })
      ∧ (t.sul.image.scalarRole = false → t.sul.image.scalarPeer ≠ 0 → t.sul.image.scalarPeer ≠ s.sul.stationId →
          t.mdm = { MDM.reset with source := .configured t.sul.image.scalarPeer })
      ∧ (t.sul.image.scalarRole = false → t.sul.image.scalarPeer = 0 ∨ t.sul.image.scalarPeer = s.sul.stationId →
          t.mdm = { MDM.reset with source := .none })
      ∧ (t.rs.build = none → t.dru = DRU.reset)
      ∧ (∀ b, t.rs.build = some b → ∃ d rest, b.todo = d :: rest
          ∧ t.dru = { DRU.reset with current := some ⟨⟨.minute, .divide d.sum d.count⟩, 330⟩ })
      ∧ (∀ m rest, t.rs.buildList = m :: rest → (∀ r ∈ minuteRecords m t.rs, r.final = true) →
          t.rs.build = some (gatherMinute m (minuteRecords m t.rs)))
      ∧ (∀ b m rest, s.rs.build = some b → s.rs.buildList = m :: rest →
          s.re.isOpen = false ∨ s.rs.buildList.length < 16 ∨ s.rs.current = none
            ∨ s.rs.current = some (minuteOf s.re.epoch s.re.second) →
          (∀ r ∈ minuteRecords m t.rs, r.final = true) → (gatherMinute m (minuteRecords m t.rs)).todo ≠ [] →
          t.rs.buildList.head? = some m ∧ t.rs.build = some (gatherMinute m (minuteRecords m t.rs))
            ∧ ∀ c, s.re.isOpen = false → s.rs.current = some c →
                (s.rs.buildList.length < 16 → t.rs.buildList = m :: rest ++ [c])
                ∧ ∀ lost more, 16 ≤ s.rs.buildList.length → rest = lost :: more → t.rs.buildList = m :: more ++ [c])
      ∧ t.pins = { s.pins with memory := memory, loopGood := false }
      ∧ t.notices = s.notices ∧ t.instants = s.instants ∧ t.pending = s.pending
      ∧ (s.re.isOpen = true → ∃ r ∈ t.rs.seconds, r.epoch = s.re.epoch ∧ r.second = s.re.second ∧ r.final = true
          ∧ r.flags.restart = true ∧ r.flags.noTcorr = true ∧ r.reason = some .restart ∧ r.deltaF = none
          ∧ ∀ a, (axisGet r.axes a).value = none ∧ (axisGet r.axes a).n = axisGet s.re.n a)
      ∧ (∀ r ∈ t.rs.seconds,
          (∃ c ∈ s.re.chain, c.sequence = r.sequence) ∨ (∃ e ∈ s.mdm.list, e.sequence = r.sequence) → r.final = true)
      ∧ (∀ c ∈ s.re.chain, ∀ r ∈ t.rs.seconds, r.sequence = c.sequence → r.reason = some .restart
          ∧ ∀ a, axisGet c.steps a ≠ .ended → (axisGet r.axes a).value = none ∧ r.flags.arith = true)
      ∧ (∀ e ∈ s.mdm.list, ∀ r ∈ t.rs.seconds, r.sequence = e.sequence → r.reason = some .restart)
      ∧ (∀ key : SecondRecord → Sequence × Epoch × Second, key = (fun r => (r.sequence, r.epoch, r.second)) →
          (s.re.isOpen = false → t.rs.seconds.map key = s.rs.seconds.map key)
          ∧ (s.re.isOpen = true → s.rs.seconds.length < 1024 → t.rs.seconds.map key
              = s.rs.seconds.map key ++ [(nextSequence (newestSecond s.rs), s.re.epoch, s.re.second)])
          ∧ (s.re.isOpen = true → 1024 ≤ s.rs.seconds.length → t.rs.seconds.map key
              = (s.rs.seconds.map key).drop 1 ++ [(nextSequence (newestSecond s.rs), s.re.epoch, s.re.second)]))
      ∧ (∃ built : List MinuteRecord,
          t.rs.minutes = (s.rs.minutes ++ built).drop (s.rs.minutes.length + built.length - 512))

/-! ## Peers -/

/-- ANNOUNCE_HANDLED on a good body, whichever station sends it: only that station's entry changes. A new id gets an entry; the next
sequence counts up; a gap counts as missed; the offset is that of R60, and its distance from the last one moves the spread by a quarter
unless the comparison restarts; F and a SENSOR temperature in range are stored, their age kept within one second number. The offset of
DU's reference can then move the clock, which restarts every comparison. A body fails R42 when its length is not 58 + 4 × E, E at most 4,
or a checked octet is out of its range; it is rejected and counted. -/
def Obligations.AnnouncementTaken : Prop :=
  (∀ (lineDelay theta : Int) (e : RingEntry) (pt handed : PT) (h : Heard), bodyValid e.body = true → heardOf e.body = h →
      theta = ((h.departureSecond.toNat : Int) - (e.arrival.second.toNat : Int)) * 1000000000
        + ((h.departureTick : Int) - (e.arrival.tick : Int)) * 100 + lineDelay →
      (handleAnnouncement lineDelay e pt).pt = handed →
      ∃ x : PeerEntry, handed = { pt with entries := handed.entries } ∧ findEntry e.source handed.entries = some x
        ∧ (∀ id, id ≠ e.source → findEntry id handed.entries = findEntry id pt.entries)
        ∧ x.id = e.source ∧ x.lastSequence = h.sequence ∧ x.lastArrival = e.arrival ∧ x.marksSince = 0
        ∧ x.cls = h.cls ∧ x.root = h.root ∧ x.depth = h.depth ∧ x.errorBound = h.errorBound ∧ x.locked = h.locked
        ∧ x.reference = h.reference ∧ x.abilities = h.abilities ∧ x.disturbance = h.disturbance ∧ x.retuning = h.retuning
        ∧ (x.state = .usable ↔ 4 ≤ x.consecutive ∧ x.spread ≤ 50000) ∧ x.state ≠ .stale
        ∧ (e.preMove = false → x.offset = some theta ∧ x.rebase = false)
        ∧ (findEntry e.source pt.entries = none → x.consecutive = 1 ∧ x.missed = 0 ∧ x.spread = 0 ∧ x.rebase = false
            ∧ (e.preMove = true → x.offset = none)
            ∧ x.latestF = h.f.map (fun p => ⟨p.2, p.1, 0⟩)
            ∧ x.latestTemp = (h.temp.filter (fun p => decide (-4000 ≤ p.2 ∧ p.2 ≤ 8500))).map (fun p => ⟨p.2, p.1, 0⟩))
        ∧ ∀ o, findEntry e.source pt.entries = some o →
            (o.state ≠ .stale → h.sequence = o.lastSequence + 1 →
                x.consecutive = (if 255 ≤ o.consecutive then 255 else o.consecutive + 1) ∧ x.missed = o.missed)
            ∧ (o.state ≠ .stale → h.sequence ≠ o.lastSequence + 1 →
                x.consecutive = 1 ∧ x.missed = addSat o.missed (h.sequence - o.lastSequence - 1).toNat)
            ∧ (o.state = .stale → x.consecutive = 1 ∧ x.spread = 0 ∧ x.state = .heard
                ∧ x.missed = addSat o.missed (h.sequence - o.lastSequence - 1).toNat)
            ∧ (o.state ≠ .stale → e.preMove = false → o.rebase = false → ∀ last, o.offset = some last →
                x.spread = o.spread + roundDiv ((theta - last).natAbs - o.spread) 4)
            ∧ (o.state ≠ .stale → e.preMove = true ∨ o.rebase = true ∨ o.offset = none → x.spread = o.spread)
            ∧ (e.preMove = true → x.offset = o.offset ∧ (x.rebase = true ↔ o.rebase = true ∨ o.state = .stale))
            ∧ (h.f = none → x.latestF = o.latestF)
            ∧ (∀ sec v, h.f = some (sec, v) →
                (∀ w, o.latestF = some w → w.second = sec → x.latestF = some ⟨v, sec, w.age⟩)
                ∧ ((∀ w, o.latestF = some w → w.second ≠ sec) → x.latestF = some ⟨v, sec, 0⟩))
            ∧ ((∀ sec v, h.temp = some (sec, v) → v < -4000 ∨ 8500 < v) → x.latestTemp = o.latestTemp)
            ∧ (∀ sec v, h.temp = some (sec, v) → -4000 ≤ v → v ≤ 8500 →
                (∀ w, o.latestTemp = some w → w.second = sec → x.latestTemp = some ⟨v, sec, w.age⟩)
                ∧ ((∀ w, o.latestTemp = some w → w.second ≠ sec) → x.latestTemp = some ⟨v, sec, 0⟩)))
    ∧ (∀ (s : State) (e : RingEntry) (theta : Int) (handed : PT), s.powered = true → s.lc.dispatcher = some e →
      bodyValid e.body = true →
      theta = (((heardOf e.body).departureSecond.toNat : Int) - (e.arrival.second.toNat : Int)) * 1000000000
        + (((heardOf e.body).departureTick : Int) - (e.arrival.tick : Int)) * 100 + s.sul.image.lineDelay →
      (handleAnnouncement s.sul.image.lineDelay e s.pt).pt = handed →
      (s.du.reference ≠ some (.peer e.source) ∨ e.preMove = true → s.mdm.source ≠ .configured e.source →
          s.mdm.source ≠ .automatic e.source →
          exec .announceHandled s = .next { s with lc := { s.lc with dispatcher := none }, pt := handed })
      ∧ ∃ t, exec .announceHandled s = .next t ∧ t.lc.dispatcher = none
          ∧ (s.du.reference ≠ some (.peer e.source) ∨ e.preMove = true ∨ theta.natAbs < 1000000 → t.pt = handed)
          ∧ (t.pt = handed ∨ t.pt = { handed with entries := handed.entries.map (fun x => { x with rebase := true }) }))
    ∧ (∀ (s : State) (e : RingEntry), s.powered = true → s.lc.dispatcher = some e → bodyValid e.body = false →
      exec .announceHandled s = .next { s with
        lc := { s.lc with dispatcher := none }
        pt := { s.pt with reject := bump s.pt.reject } })
    ∧ (∀ b : List Octet, bodyValid b = true ↔
      b.length = 58 + 4 * (octetAt b 57).toNat ∧ (octetAt b 57).toNat ≤ 4
        ∧ (octetAt b 10).toNat ≤ 2
        ∧ 1 ≤ (octetAt b 11).toNat ∧ (octetAt b 11).toNat ≤ 15
        ∧ (octetAt b 12).toNat ≤ 6
        ∧ (octetAt b 13 = 0 ∨ octetAt b 13 = 1)
        ∧ ((octetAt b 14).toNat ≤ 15 ∨ octetAt b 14 = 0xFF)
        ∧ (octetAt b 17).toNat ≤ 3
        ∧ (octetAt b 18 = 0 ∨ octetAt b 18 = 1))

/-- ANNOUNCE_HANDLED hands the offset of DU's reference to DU and a new F of MDM's source, CONFIGURED or AUTOMATIC, to MDM. With both
at once the order is that of the model's field `ties` (log 5). -/
def Obligations.AnnouncementHandedOn : Prop :=
  ∀ (s u : State) (e : RingEntry) (theta : Int), s.powered = true → s.lc.dispatcher = some e → bodyValid e.body = true →
    theta = ((heardOf e.body).departureSecond.toNat - (e.arrival.second.toNat : Int)) * 1000000000
      + (((heardOf e.body).departureTick : Int) - (e.arrival.tick : Int)) * 100 + s.sul.image.lineDelay →
    u = { s with
      lc := { s.lc with dispatcher := none }
      pt := (handleAnnouncement s.sul.image.lineDelay e s.pt).pt } →
    (s.du.reference = some (.peer e.source) → e.preMove = false →
        ((heardOf e.body).f = none ∨ (s.mdm.source ≠ .configured e.source ∧ s.mdm.source ≠ .automatic e.source)
          ∨ ∃ o w f, findEntry e.source s.pt.entries = some o ∧ o.latestF = some w ∧ (heardOf e.body).f = some f
              ∧ w.second = f.1) →
        exec .announceHandled s = .next (duSample (.peer e.source) theta u))
    ∧ ∀ sec v, (heardOf e.body).f = some (sec, v) →
        s.mdm.source = .configured e.source ∨ s.mdm.source = .automatic e.source →
        (∀ o w, findEntry e.source s.pt.entries = some o → o.latestF = some w → w.second ≠ sec) →
        (s.du.reference ≠ some (.peer e.source) ∨ e.preMove = true →
            exec .announceHandled s = .next (takeF v sec u))
        ∧ (s.du.reference = some (.peer e.source) → e.preMove = false → s.ties.offsetBeforeF = true →
            exec .announceHandled s = .next (takeF v sec (duSample (.peer e.source) theta u)))
        ∧ (s.du.reference = some (.peer e.source) → e.preMove = false → s.ties.offsetBeforeF = false →
            exec .announceHandled s = .next (duSample (.peer e.source) theta (takeF v sec u)))

/-- SECOND_MARK at PT, ENTRY_STALE and ENTRY_REMOVED: PT takes its mark. Every entry ages, one at 5 marks becomes STALE and one at
60 is removed. That ENTRY_STALE and ENTRY_REMOVED take PT's waiting notice, or age PT with none waiting, is the model's choice
(log 6). -/
def Obligations.EntriesAge : Prop :=
  ∀ s : State, s.powered = true →
    ∃ es, es = s.pt.entries.filterMap (fun e =>
        if 60 ≤ e.marksSince + 1 then none
        else some { e with
          marksSince := e.marksSince + 1
          latestF := e.latestF.map (fun v => { v with age := if 255 ≤ v.age then 255 else v.age + 1 })
          latestTemp := e.latestTemp.map (fun v => { v with age := if 255 ≤ v.age then 255 else v.age + 1 })
          state := if 5 ≤ e.marksSince + 1 then .stale else e.state })
      ∧ ((∃ e ∈ s.pt.entries, e.state ≠ .stale ∧ e.marksSince = 4) →
          exec .entryStale s = .next { s with
            notices := dropNotice .pt s.notices
            pt := { s.pt with entries := es } })
      ∧ (countIsMark s.tb = true → ∃ marked, exec (.secondMark []) s = .next marked
          ∧ exec (.secondMark [.pt]) s = .next { marked with
              notices := dropNotice .pt marked.notices
              pt := { s.pt with entries := es } })
      ∧ ((∃ e ∈ s.pt.entries, e.marksSince = 59) →
          exec .entryRemoved s = .next { s with
            notices := dropNotice .pt s.notices
            pt := { s.pt with entries := es } })

/-- A peer is a candidate when it is USABLE and locked, does not follow this node (a test that does not apply to a listen-only
node), has another root than this node, and a depth of at most 5; the pulse when its input is enabled and it is present. The best
candidate is a candidate, and no other ranks before it by class, then root id, then depth + 1, then id; there is none when no entry
is a candidate. -/
def Obligations.BestPeerRanksFirst : Prop :=
  (∀ s : State, pulseCandidate s = true ↔ s.sul.image.timePulse = true ∧ s.tb.present = true)
    ∧ (∀ (own : StationId) (e : PeerEntry), peerCandidate own e = true ↔
      e.state = .usable ∧ e.locked = true ∧ (own = 0 ∨ e.reference ≠ some (.peer own)) ∧ e.root ≠ own ∧ e.depth ≤ 5)
    ∧ ∀ (own : StationId) (es : List PeerEntry),
      (bestPeer own es = none ↔ ∀ e ∈ es, peerCandidate own e = false)
        ∧ ∀ b, bestPeer own es = some b → b ∈ es ∧ peerCandidate own b = true
            ∧ ∀ e ∈ es, peerCandidate own e = true →
                b.cls < e.cls ∨ (b.cls = e.cls ∧ (b.root.toNat < e.root.toNat ∨ (b.root.toNat = e.root.toNat
                  ∧ (b.depth + 1 < e.depth + 1 ∨ (b.depth + 1 = e.depth + 1 ∧ b.id.toNat ≤ e.id.toNat)))))

/-- The mark notice at DU. A reference that is no candidate is lost: LOCKED goes to HOLDOVER with the bound and class held, ACQUIRE
to FREE_ROOT, with a slew of 0 and no event; where the pulse is a candidate, or the best peer's key is better than the key of the
root just become, that source is selected at the same mark. The pulse displaces a peer; a peer displaces a peer only by class, or by
root id within a class; the followed pulse and a peer not displaced stand. A root selects the best candidate only when its key is
better than the root's own. Each selection enters ACQUIRE with REFERENCE_CHANGE. In HOLDOVER the age advances first: beyond the
limit the node is a FREE_ROOT for the selection of that mark; within it, its own key has class 2 or 1 as the held class is 2 or not,
and a node that selects nothing has the bound at entry plus the age. Where the selection stands the advertisement is fixed anew: in
ACQUIRE and LOCKED from the pulse or the reference's entry, with the LOCKED error bound of R74. That the mark fixes its rate and
consumes the slew order held before DU orders its slew of 0, which therefore waits for the next mark, is the model's choice (log 5). -/
def Obligations.SelectionAtMark : Prop :=
  ∀ s : State, s.powered = true → s.notices = [] → countIsMark s.tb = true → PeersOrdered s →
    ∃ t : State, exec (.secondMark [.du]) s = .next t
      ∧ t = { s with tb := t.tb, notices := t.notices, instants := t.instants, du := t.du, rs := t.rs }
      ∧ ∀ (chosen : Reference → Prop) (stands expires loses lost : Prop) (ownClass : Nat),
        (expires ↔ s.du.state = .holdover ∧ s.sul.image.holdoverLimit < s.du.holdoverAge + 1) →
        (s.du.state ≠ .holdover ∨ expires → ownClass = 2) →
        (s.du.state = .holdover → ¬ expires → ownClass = (if s.du.heldClass = some 2 then 2 else 1)) →
        (∀ r, chosen r ↔ t.du.state = .acquire ∧ t.du.reference = some r ∧ t.du.f = 0 ∧ t.du.lockCount = 0
            ∧ t.du.outlierRun = 0 ∧ t.du.errorBound = 65535 ∧ t.tb = { markTb s.tb with slew := some 0 }
            ∧ t.du.holdoverAge = 0 ∧ t.du.boundAtEntry = none ∧ t.du.heldClass = none
            ∧ (r = .pulse → t.du.cls = 0 ∧ t.du.root = s.sul.stationId ∧ t.du.depth = 0)
            ∧ t.rs = (raiseEvent .referenceChange (s.tb.second + 1) s).rs) →
        (stands ↔ (¬ expires → t.du.state = s.du.state)
            ∧ (expires → t.du.state = .freeRoot ∧ t.du.holdoverAge = 0 ∧ t.du.boundAtEntry = none ∧ t.du.heldClass = none
              ∧ t.du.errorBound = 65535)
            ∧ (s.du.state = .holdover → ¬ expires → t.du.holdoverAge = s.du.holdoverAge + 1
              ∧ t.du.boundAtEntry = s.du.boundAtEntry ∧ t.du.heldClass = s.du.heldClass
              ∧ t.du.errorBound = min 65535 (s.du.boundAtEntry.getD 0 + s.du.holdoverAge + 1))
            ∧ (s.du.state = .holdover → t.du.cls = ownClass ∧ t.du.root = s.sul.stationId ∧ t.du.depth = 0)
            ∧ (s.du.state = .freeRoot → t.du.cls = 2 ∧ t.du.root = s.sul.stationId ∧ t.du.depth = 0 ∧ t.du.errorBound = 65535)
            ∧ (s.du.state = .acquire → t.du.errorBound = 65535)
            ∧ (s.du.state = .acquire ∨ s.du.state = .locked →
                (s.du.reference = some .pulse → t.du.cls = 0 ∧ t.du.root = s.sul.stationId ∧ t.du.depth = 0)
                ∧ ∀ e ∈ s.pt.entries, s.du.reference = some (.peer e.id) →
                    t.du.cls = e.cls ∧ t.du.root = e.root ∧ t.du.depth = e.depth + 1)
            ∧ (s.du.state = .locked →
                (s.du.reference = some .pulse → t.du.errorBound = min 65535 (1 + (s.du.f.natAbs + 999) / 1000 + 1))
                ∧ ∀ e ∈ s.pt.entries, s.du.reference = some (.peer e.id) →
                    t.du.errorBound = min 65535 (e.errorBound + (s.du.f.natAbs + 999) / 1000 + 1))
            ∧ t.du.reference = s.du.reference ∧ t.du.f = s.du.f
            ∧ t.du.lockCount = s.du.lockCount ∧ t.du.outlierRun = s.du.outlierRun ∧ t.tb = markTb s.tb ∧ t.rs = s.rs) →
        (loses ↔ t.du.reference = none ∧ t.du.f = 0 ∧ t.du.lockCount = 0 ∧ t.du.outlierRun = 0
              ∧ t.tb = { markTb s.tb with slew := some 0 } ∧ t.rs = s.rs
              ∧ (s.du.state = .locked → t.du.state = .holdover ∧ t.du.holdoverAge = 0
                  ∧ t.du.boundAtEntry = some s.du.errorBound ∧ t.du.heldClass = some s.du.cls
                  ∧ t.du.errorBound = min 65535 s.du.errorBound
                  ∧ t.du.cls = (if s.du.cls = 2 then 2 else 1) ∧ t.du.root = s.sul.stationId ∧ t.du.depth = 0)
              ∧ (s.du.state = .acquire → t.du.state = .freeRoot ∧ t.du.cls = 2 ∧ t.du.root = s.sul.stationId
                  ∧ t.du.depth = 0 ∧ t.du.errorBound = 65535)) →
        (lost ↔ (s.du.reference = some .pulse ∧ pulseCandidate s = false)
          ∨ ∃ id, s.du.reference = some (.peer id)
              ∧ ∀ e ∈ s.pt.entries, e.id = id → peerCandidate s.sul.stationId e = false) →
        (s.du.reference ≠ none → pulseCandidate s = false →
            (∀ e ∈ s.pt.entries, peerCandidate s.sul.stationId e = false) → loses)
        ∧ (lost → pulseCandidate s = true → chosen .pulse)
        ∧ (∀ (b : PeerEntry) (lostClass own : Nat), lost → pulseCandidate s = false →
            bestPeer s.sul.stationId s.pt.entries = some b →
            (s.du.state = .locked ∧ lostClass = (if s.du.cls = 2 then 2 else 1)) ∨ (s.du.state = .acquire ∧ lostClass = 2) →
            own = (if s.sul.stationId = 0 then 16 else s.sul.stationId.toNat) →
            (b.cls < lostClass ∨ (b.cls = lostClass ∧ b.root.toNat < own) → chosen (.peer b.id)
              ∧ t.du.cls = b.cls ∧ t.du.root = b.root ∧ t.du.depth = b.depth + 1)
            ∧ (lostClass < b.cls ∨ (b.cls = lostClass ∧ own ≤ b.root.toNat) → loses))
        ∧ (s.du.reference = some .pulse → pulseCandidate s = true → stands)
        ∧ (∀ id, s.du.reference = some (.peer id) → pulseCandidate s = true → chosen .pulse)
        ∧ (∀ cur ∈ s.pt.entries, ∀ b, s.du.reference = some (.peer cur.id) → pulseCandidate s = false →
            peerCandidate s.sul.stationId cur = true → bestPeer s.sul.stationId s.pt.entries = some b →
            (b.cls < cur.cls ∨ (b.cls = cur.cls ∧ b.root.toNat < cur.root.toNat) →
                chosen (.peer b.id) ∧ t.du.cls = b.cls ∧ t.du.root = b.root ∧ t.du.depth = b.depth + 1)
            ∧ (cur.cls < b.cls ∨ (b.cls = cur.cls ∧ cur.root.toNat ≤ b.root.toNat) → stands))
        ∧ (s.du.reference = none → s.du.state = .freeRoot ∨ s.du.state = .holdover → pulseCandidate s = true → chosen .pulse)
        ∧ (∀ b, s.du.reference = none → s.du.state = .freeRoot ∨ s.du.state = .holdover → pulseCandidate s = false →
            bestPeer s.sul.stationId s.pt.entries = some b →
            (∀ own : Nat, own = (if s.sul.stationId = 0 then 16 else s.sul.stationId.toNat) →
              (b.cls < ownClass ∨ (b.cls = ownClass ∧ b.root.toNat < own) → chosen (.peer b.id)
                ∧ t.du.cls = b.cls ∧ t.du.root = b.root ∧ t.du.depth = b.depth + 1)
              ∧ (ownClass < b.cls ∨ (b.cls = ownClass ∧ own ≤ b.root.toNat) → stands)))
        ∧ (s.du.reference = none → s.du.state = .freeRoot ∨ s.du.state = .holdover → pulseCandidate s = false →
            (∀ e ∈ s.pt.entries, peerCandidate s.sul.stationId e = false) → stands)

/-! ## Hut time -/

/-- A second lasts 10,000,000 − c oscillator periods: counting from its mark, the tick count first reaches 10,000,000 at that period,
with all |c| corrections made. Their positions lie from 1,667 to 9,998,333, at least 3,333 apart. -/
def Obligations.SecondLength : Prop :=
  (∀ (t : TB) (c : Int) (periods : Nat), c.natAbs ≤ 3000 → t.tick = 0 → t.schedule = some ⟨c, 0⟩ →
      (periods : Int) = 10000000 - c →
      (countTb^[periods] t).tick = 10000000 ∧ (countTb^[periods] t).schedule = some ⟨c, c.natAbs⟩
        ∧ ∀ m < periods, (countTb^[m] t).tick < 10000000)
    ∧ (∀ (c : Int) (j : Nat), c.natAbs ≤ 3000 → 1 ≤ j → j ≤ c.natAbs →
      1667 ≤ correctionPosition c j ∧ correctionPosition c j ≤ 9998333
        ∧ (j < c.natAbs → correctionPosition c j + 3333 ≤ correctionPosition c (j + 1)))

/-- SECOND_MARK at the count that leaves tick 9,999,999: the second count increments, the running rate is the trim plus the slew order, and rate and remainder split into the
corrections of the second and a new remainder of at most 50. The eight mark notices and instant 0 go out, each with
the second count after the mark and the epoch. The blocks named take theirs in the step, in the order named, and those of the
others wait: which take theirs at once is the model's choice (log 5). At any other tick nothing changes (log 7). -/
def Obligations.SecondMarkFixesRate : Prop :=
  (∀ (s : State) (now : List MarkBlock), s.powered = true → countIsMark s.tb = false →
      exec (.secondMark now) s = .next s)
    ∧ ∀ s : State, s.powered = true → countIsMark s.tb = true →
    ∃ (c r : Int) (marked : State), c = max (-3000) (min 3000 (roundDiv (s.tb.trim + s.tb.slew.getD 0 + s.tb.remainder) 100))
      ∧ s.tb.trim + s.tb.slew.getD 0 + s.tb.remainder = 100 * c + r
      ∧ ((s.tb.trim + s.tb.slew.getD 0 + s.tb.remainder).natAbs ≤ 300050 → r.natAbs ≤ 50)
      ∧ marked = { s with
          tb := { s.tb with
            second := s.tb.second + 1
            tick := 0
            rate := s.tb.trim + s.tb.slew.getD 0
            slew := none
            remainder := r
            schedule := some ⟨c, 0⟩
            output := some 1000000 }
          notices := s.notices ++ [.re, .vfe, .pt, .du, .scn, .tu, .mdm, .bw].map
            (fun b => ⟨b, s.tb.second + 1, s.tb.epoch⟩)
          instants := s.instants ++ [⟨0, s.tb.second + 1, s.tb.epoch⟩] }
      ∧ exec (.secondMark []) s = .next marked
      ∧ ∀ now : List MarkBlock, s.notices = [] → now.Nodup →
          exec (.secondMark now) s = .next (now.foldl (fun u b =>
            takeMark b (s.tb.second + 1) s.tb.epoch { u with notices := dropNotice b u.notices }) marked)

/-- SECOND_MARK_OUTPUT_END, EDGE_WINDOW_END, EDGE_AGE_LIMIT, LABEL_AGE_LIMIT and LABEL_OCTET_RECEIVED each change their part of TB and
nothing else; the ages of 15,000,001 and 30,000,001 periods (log 16) and that each acts whatever its timer holds (log 6) are the
model's choice. LABEL_OCTET_RECEIVED brings the bits of an octet, all ten or a part of them in turn: a low start bit, eight data bits
least-significant first and a stop bit, which a framing error finds low. The start bit begins a run at an idle line, or keeps the
present one, whose gap of 10 ms starts again at each octet. LABEL_GAP_END, which no octet in reception lets come: a run of five good
octets whose fifth is the sum of the others is the pending label; another run is rejected and counted. That the line is idle 10 ms
after the last octet of a run cut short is the model's choice (log 29), and so is that after a framing error the line has to be high
before the next start bit and that the gap runs from the moment the stop bit was due (log 30). -/
def Obligations.TimebaseTimersEnd : Prop :=
  (∀ s : State, s.powered = true →
      exec .secondMarkOutputEnd s = .next { s with tb := { s.tb with output := none } }
      ∧ exec .edgeWindowEnd s = .next { s with tb := { s.tb with edgeWindow := none } }
      ∧ (∀ e, s.tb.edge = some e → exec .edgeAgeLimit s = .next { s with tb := { s.tb with
          edge := some { e with age := max e.age 15000001 }
          present := false } })
      ∧ (∀ a, s.tb.labelAge = some a → exec .labelAgeLimit s = .next { s with tb := { s.tb with
          labelAge := some (max a 30000001)
          present := false } })
      ∧ (∀ levels, s.sul.image.timePulse = false → exec (.labelOctetReceived levels) s = .next s)
      ∧ (∀ levels rest t, exec (.labelOctetReceived levels) s = .next t →
          exec (.labelOctetReceived rest) t = exec (.labelOctetReceived (levels ++ rest)) s)
      ∧ (∀ (levels : List Level) (new : List RxOctet) (phase : RxPhase), s.sul.image.timePulse = true → s.tb.labelPhase = .ready →
          (levels = [.dominant] ∧ new = [] ∧ phase = .data [])
            ∨ (∃ o : Octet, levels = octetSymbols o ∧ new = [⟨o, false⟩] ∧ phase = .ready)
            ∨ (∃ o : Octet, levels = (octetSymbols o).take 9 ++ [.dominant] ∧ new = [⟨o, true⟩] ∧ phase = .held) →
          (s.tb.label = none → s.tb.labelTail = none → exec (.labelOctetReceived levels) s
            = .next { s with tb := { s.tb with labelPhase := phase, label := some ⟨new, 100000⟩ } })
          ∧ (∀ k, s.tb.label = none → s.tb.labelTail = some k → exec (.labelOctetReceived levels) s
            = .next { s with tb := { s.tb with labelPhase := phase, labelTail := some 100000 } })
          ∧ (∀ os gap, s.tb.label = some ⟨os, gap⟩ → exec (.labelOctetReceived levels) s
            = .next { s with tb := { s.tb with labelPhase := phase, label := some ⟨os ++ new, 100000⟩ } }))
      ∧ (∀ taken, s.tb.labelPhase = .data taken → exec .labelGapEnd s = .next s)
      ∧ ((∀ taken, s.tb.labelPhase ≠ .data taken) → s.tb.label = none →
          exec .labelGapEnd s = .next { s with tb := { s.tb with labelTail := none } }))
    ∧ (∀ (s : State) (os : List RxOctet) (gap : Nat), s.powered = true → s.tb.label = some ⟨os, gap⟩ →
      (∀ taken, s.tb.labelPhase ≠ .data taken) →
      (∀ a b c d : Octet, os = [⟨a, false⟩, ⟨b, false⟩, ⟨c, false⟩, ⟨d, false⟩, ⟨a + b + c + d, false⟩] →
          exec .labelGapEnd s = .next { s with tb := { s.tb with
            label := none
            labelTail := none
            pendingLabel := some (a ++ b ++ c ++ d)
            labelAge := some 0
            present := match s.tb.edge with
              | some e => decide (e.age ≤ 15000000)
              | none => false } })
      ∧ ((¬ ∃ a b c d : Octet, os = [⟨a, false⟩, ⟨b, false⟩, ⟨c, false⟩, ⟨d, false⟩, ⟨a + b + c + d, false⟩]) →
          exec .labelGapEnd s = .next { s with tb := { s.tb with
            label := none
            labelTail := none
            labelReject := bump s.tb.labelReject } }))

/-- PULSE_EDGE: ignored when the input is disabled, counted inside the edge window, else stamped; a run in progress is evaluated first,
rejected when an octet is still being received (after five whole ones the model's choice, log 30),
and the line is idle only after the rest of its gap (the model's choice, log 29). The label second is the pending label or the last
plus one (wrapping: the model's choice, log 25), and a present pulse that is the reference gives DU its offset, formed without
wrapping (the model's choice, log 23). -/
def Obligations.PulseEdgeAccepted : Prop :=
  ∀ s : State, s.powered = true →
    (s.sul.image.timePulse = false → exec .pulseEdge s = .next s)
    ∧ (∀ w, s.sul.image.timePulse = true → s.tb.edgeWindow = some w →
        exec .pulseEdge s = .next { s with tb := { s.tb with extraEdge := bump s.tb.extraEdge } })
    ∧ (∀ (base : TB) (L : Option Second) (u : State), s.sul.image.timePulse = true → s.tb.edgeWindow = none →
        (s.tb.label = none → base = s.tb) →
        (∀ os gap, s.tb.label = some ⟨os, gap⟩ →
          (∀ l, (∀ taken, s.tb.labelPhase ≠ .data taken) → labelOf os = some l → base = { s.tb with
            label := none
            labelTail := if gap = 0 then none else some gap
            pendingLabel := some l
            labelAge := some 0 })
          ∧ ((∃ taken, s.tb.labelPhase = .data taken) ∨ labelOf os = none → base = { s.tb with
            label := none
            labelTail := if gap = 0 then none else some gap
            labelReject := bump s.tb.labelReject })) →
        (∀ l, base.pendingLabel = some l → L = some l) →
        (base.pendingLabel = none → L = s.tb.lastLabel.map (· + 1)) →
        u = { s with tb := { base with
          edge := some ⟨⟨s.tb.second, s.tb.tick, s.tb.epoch⟩, 0⟩
          edgeWindow := some 9000000
          pendingLabel := none
          lastLabel := L
          present := match base.labelAge with
            | some a => decide (a ≤ 30000000)
            | none => false } } →
        (s.du.reference ≠ some .pulse ∨ L = none ∨ u.tb.present = false → exec .pulseEdge s = .next u)
        ∧ (∀ l, L = some l → u.tb.present = true → 5000000 < s.tb.tick →
            exec .pulseEdge s = .next (duSample .pulse
              (((l.toNat : Int) - ((s.tb.second.toNat : Int) + 1)) * 1000000000 - ((s.tb.tick : Int) - 10000000) * 100)
              u))
        ∧ (∀ l, L = some l → u.tb.present = true → s.tb.tick ≤ 5000000 →
            exec .pulseEdge s = .next (duSample .pulse
              (((l.toNat : Int) - (s.tb.second.toNat : Int)) * 1000000000 - (s.tb.tick : Int) * 100) u)))

/-! ## Discipline -/

/-- A sample in the accept band of ACQUIRE or LOCKED moves the filter by half or an eighth of its distance, orders a quarter of it as
slew and a sixteenth into the trim within ±50,000, and counts toward the lock; in LOCKED the error bound follows the filter, and
DU's other fields stand. The first two outliers in a row in LOCKED
are counted and change nothing else; a sample that is not from the reference, or comes in FREE_ROOT or HOLDOVER, changes
nothing at all. -/
def Obligations.SampleAccepted : Prop :=
  (∀ (r : Reference) (theta : Int) (s : State), s.du.reference = some r → theta.natAbs ≤ 999999 →
      s.du.state = .acquire ∨ s.du.state = .locked →
      ∃ (t : State) (f trim : Int), duSample r theta s = t
        ∧ (s.du.state = .acquire → f = s.du.f + roundDiv (theta - s.du.f) 2)
        ∧ (s.du.state = .locked → f = s.du.f + roundDiv (theta - s.du.f) 8)
        ∧ trim = max (-50000) (min 50000 (s.tb.trim + roundDiv f 16))
        ∧ min s.du.f theta ≤ f ∧ f ≤ max s.du.f theta
        ∧ t = { s with tb := { s.tb with slew := some (roundDiv f 4), trim := trim }, du := t.du }
        ∧ t.du.f = f ∧ t.du.reference = some r
        ∧ (t.du.trimLimit = true ↔ s.du.trimLimit = true ∨ trim = 50000 ∨ trim = -50000)
        ∧ (s.du.state = .locked → t.du.state = .locked ∧ t.du.outlierRun = 0 ∧ t.du.lockCount = s.du.lockCount)
        ∧ (t.du.state = .acquire → t.du.outlierRun = s.du.outlierRun ∧ t.du.errorBound = s.du.errorBound)
        ∧ (t.du.state = .locked → r = .pulse → t.du.errorBound = min 65535 (1 + (f.natAbs + 999) / 1000 + 1))
        ∧ (∀ e id, t.du.state = .locked → r = .peer id → findEntry id s.pt.entries = some e →
            t.du.errorBound = min 65535 (e.errorBound + (f.natAbs + 999) / 1000 + 1))
        ∧ t.du = { s.du with
            f := f
            trimLimit := t.du.trimLimit
            state := t.du.state
            lockCount := t.du.lockCount
            outlierRun := t.du.outlierRun
            errorBound := t.du.errorBound }
        ∧ (s.du.state = .acquire → 20000 ≤ theta.natAbs → t.du.state = .acquire ∧ t.du.lockCount = 0)
        ∧ (s.du.state = .acquire → theta.natAbs < 20000 → s.du.lockCount + 1 < 8 →
            t.du.state = .acquire ∧ t.du.lockCount = s.du.lockCount + 1)
        ∧ (s.du.state = .acquire → theta.natAbs < 20000 → 8 ≤ s.du.lockCount + 1 →
            t.du.state = .locked ∧ t.du.lockCount = 0 ∧ t.du.outlierRun = 0))
    ∧ (∀ (r : Reference) (theta : Int) (s : State),
      (s.du.reference ≠ some r ∨ s.du.state = .freeRoot ∨ s.du.state = .holdover → duSample r theta s = s)
      ∧ (s.du.reference = some r → s.du.state = .locked → 1000000 ≤ theta.natAbs → theta.natAbs < 1000000000 →
          s.du.outlierRun < 2 → duSample r theta s = { s with du := { s.du with
            outliers := bump s.du.outliers
            outlierRun := s.du.outlierRun + 1 } }))

/-- An offset of a second or more, an offset of 1 ms or more in ACQUIRE, and the third outlier in a row in LOCKED move the clock: by
θ to a whole tick, in a new epoch when it is a relabel, with DU back in ACQUIRE and every peer's comparison to restart. A step that
does not carry the clock past RE's second sets STEP on it; a later step and every relabel leave it, with its record in the ring if it
was OPEN, and open the second of the moved clock with STEP or RELABEL. SCN ends a cycle before its computation with STEP_ABORT,
CLOCK_STEP carries the second after the move, and every arrival stamp taken before it is pre-move. Where the clock then stands at or
past tick 3,000,000 of a second not yet announced, its announce point falls. The record shows DU's state before or after the change
as `ties` says, and the announce point comes last (the model's choices, log 5); the announced seconds are a list (log 15). -/
def Obligations.SampleMovesClock : Prop :=
  ∀ (r : Reference) (theta : Int) (s t : State) (relabel : Bool) (announced : List Second) (moved : LC),
    s.du.reference = some r → s.tb.tick < 10000000 →
    (1000000000 ≤ theta.natAbs ∧ (s.du.state = .acquire ∨ s.du.state = .locked))
      ∨ (1000000 ≤ theta.natAbs ∧ (s.du.state = .acquire ∨ s.du.state = .locked ∧ 2 ≤ s.du.outlierRun)) →
    (relabel = true ↔ 1000000000 ≤ theta.natAbs) → announced = (if relabel then [] else s.lc.announced) →
    moved = { s.lc with
      rx := s.lc.rx.map (fun x => { x with preMove := true })
      ring := s.lc.ring.map (fun e => { e with preMove := true })
      dispatcher := s.lc.dispatcher.map (fun e => { e with preMove := true })
      announced := announced } →
    duSample r theta s = t →
    t.tb.tick < 10000000
      ∧ ((s.tb.second.toNat : Int) * 10000000 + s.tb.tick + roundDiv theta 100) % (4294967296 * 10000000)
          = (t.tb.second.toNat : Int) * 10000000 + t.tb.tick
      ∧ t.tb.epoch = (if relabel then s.tb.epoch + 1 else s.tb.epoch)
      ∧ t.tb.slew = some 0 ∧ t.tb.trim = s.tb.trim ∧ t.tb.schedule = none ∧ t.tb.remainder = s.tb.remainder
      ∧ t.du.state = .acquire ∧ t.du.reference = some r ∧ t.du.f = 0 ∧ t.du.lockCount = 0 ∧ t.du.outlierRun = 0
      ∧ t.du.errorBound = 65535
      ∧ (relabel = false → t.du.steps = bump s.du.steps ∧ t.du.relabels = s.du.relabels)
      ∧ (relabel = true → t.du.relabels = bump s.du.relabels ∧ t.du.steps = s.du.steps)
      ∧ t.pt.entries = s.pt.entries.map (fun e => { e with rebase := true })
      ∧ (relabel = false → signedDiff t.tb.second s.re.second ≤ 0 →
          t.re = { s.re with sticky := { s.re.sticky with step := true } } ∧ t.vfe = s.vfe ∧ t.dru = s.dru ∧ t.mdm = s.mdm
            ∧ t.bw = s.bw ∧ t.rs = (raiseEvent .clockStep t.tb.second s).rs)
      ∧ (relabel = true ∨ 0 < signedDiff t.tb.second s.re.second →
          t.re.second = t.tb.second ∧ t.re.epoch = (if relabel then t.tb.epoch else s.re.epoch) ∧ t.re.taken = []
            ∧ t.re.n = ⟨0, 0, 0⟩ ∧ t.re.clipped = ⟨0, 0, 0⟩ ∧ t.re.blanked = ⟨0, 0, 0⟩
            ∧ (∀ a, sumValue (axisGet t.re.sums a) = 0)
            ∧ t.re.sticky.clip = false ∧ t.re.sticky.blank = false
            ∧ t.re.sticky.step = !relabel ∧ t.re.sticky.relabel = relabel
            ∧ (t.re.isOpen = true ↔ ∀ x ∈ t.rs.seconds, ¬ (x.epoch = t.re.epoch ∧ x.second = t.re.second))
            ∧ (s.re.isOpen = false →
                t.rs.seconds.map (fun x => (x.epoch, x.second)) = s.rs.seconds.map (fun x => (x.epoch, x.second)))
            ∧ (s.re.isOpen = true → ∃ x, t.rs.seconds.getLast? = some x
                ∧ t.rs.seconds.map (fun x => (x.epoch, x.second))
                    = (s.rs.seconds.drop (if 1024 ≤ s.rs.seconds.length then 1 else 0)).map (fun x => (x.epoch, x.second))
                        ++ [(s.re.epoch, s.re.second)]
                ∧ (∀ a, (axisGet x.axes a).n = axisGet s.re.n a)
                ∧ x.flags.step = (s.re.sticky.step || !relabel) ∧ x.flags.relabel = (s.re.sticky.relabel || relabel)
                ∧ x.disturbance = s.bw.state
                ∧ (s.ties.closeBeforeDu = true → x.discipline = s.du.state ∧ x.errorBound = s.du.errorBound)
                ∧ (s.ties.closeBeforeDu = false → x.discipline = .acquire ∧ x.errorBound = 65535)))
      ∧ (s.sul.image.eventMask.getLsbD (eventCode .clockStep - 1) = true →
          t.rs.events.getLast? = some ⟨.clockStep, t.tb.second⟩)
      ∧ (s.scn.state = .polarize ∨ s.scn.state = .dead ∨ s.scn.state = .gate → t.scn = { s.scn with
          state := .wait
          current := false
          timer := none
          latestF := none
          outcome := some .stepAbort
          absent := bump s.scn.absent })
      ∧ (s.scn.state ≠ .polarize → s.scn.state ≠ .dead → s.scn.state ≠ .gate → t.scn = s.scn)
      ∧ (t.tb.tick < 3000000 ∨ t.tb.second ∈ announced → t.lc = moved ∧ t.draws = s.draws)
      ∧ (3000000 ≤ t.tb.tick → t.tb.second ∉ announced →
          t.lc.announced = t.tb.second :: announced
            ∧ (composing s = false → t.lc = { moved with announced := t.tb.second :: announced } ∧ t.draws = s.draws)
            ∧ (composing s = true → t.lc.announceSeq = s.lc.announceSeq + 1)
            ∧ (s.powered = true → ∃ u : State, exec .announcePoint u = .next t ∧ u.lc = moved ∧ u.draws = s.draws
                ∧ t = { u with lc := t.lc, draws := t.draws }))
      ∧ t.pins = s.pins ∧ t.tu = s.tu ∧ t.sul = s.sul ∧ t.notices = s.notices ∧ t.instants = s.instants

/-- HOLDOVER_EXPIRY: with no candidate, DU takes its mark and ends holdover in FREE_ROOT as the root of its own chain; with the own
pulse a candidate, the same mark selects it, with REFERENCE_CHANGE. That the command takes DU's waiting notice, or one of the present second
with none waiting, is the model's choice (log 6). -/
def Obligations.HoldoverEnds : Prop :=
  ∀ s : State, s.powered = true → s.du.state = .holdover → s.sul.image.holdoverLimit < s.du.holdoverAge + 1 →
    s.du.reference = none →
    (pulseCandidate s = false → (∀ e ∈ s.pt.entries, peerCandidate s.sul.stationId e = false) →
        exec .holdoverExpiry s = .next { s with
          notices := dropNotice .du s.notices
          du := { s.du with
            state := .freeRoot
            holdoverAge := 0
            boundAtEntry := none
            heldClass := none
            errorBound := 65535
            cls := 2
            root := s.sul.stationId
            depth := 0 } })
    ∧ (pulseCandidate s = true →
        ∃ t, exec .holdoverExpiry s = .next t ∧ t.du.state = .acquire ∧ t.du.reference = some .pulse
          ∧ t.du.cls = 0 ∧ t.du.root = s.sul.stationId ∧ t.du.depth = 0 ∧ t.du.errorBound = 65535
          ∧ t.tb = { s.tb with slew := some 0 }
          ∧ t.rs = (raiseEvent .referenceChange (match noticeFor .du s.notices with
              | some n => n.second
              | none => s.tb.second) s).rs
          ∧ t = { s with notices := dropNotice .du s.notices, du := t.du, tb := t.tb, rs := t.rs })

/-! ## The vector front end -/

/-- DRIVE_GOOD_APPEARS in DRIVE_START, LOOP_GOOD_APPEARS in LOOP_START and HOLDOFF_END at the tenth mark in FAULTED move the start
on; a drive-good already present leads from DRIVE_START into LOOP_START at once. SECOND_MARK at the VFE: in FAULTED a mark before
the tenth counts the holdoff, the tenth is HOLDOFF_END; in any other state the VFE stands. DRIVE_START_TIMEOUT, LOOP_START_TIMEOUT,
DRIVE_GOOD_LOST and LOOP_GOOD_LOST: in the states they are watched in, the drives go off and the VFE stands in FAULTED with the
cause of each. That HOLDOFF_END takes the VFE's waiting notice (log 6), that loop-good is absent while the loop is off and that
drive-good follows the operand of LOOP_GOOD_LOST (log 18) are the model's choice. -/
def Obligations.FrontEndMoves : Prop :=
  ∀ s : State, s.powered = true →
    (s.vfe.state = .driveStart → exec .driveGoodAppears s = .next { s with
        pins := { s.pins with driveGood := true }
        vfe := { s.vfe with state := .loopStart, loop := true, timer := some 20000000 } })
    ∧ (s.vfe.state = .loopStart → s.vfe.loop = true → exec .loopGoodAppears s = .next { s with
        pins := { s.pins with loopGood := true }
        vfe := { s.vfe with
          state := .running
          timer := none
          bandRun := ⟨0, 0, 0⟩
          clipRun := ⟨0, 0, 0⟩
          lastClip := ⟨none, none, none⟩
          request := true } })
    ∧ (s.vfe.state = .faulted → 9 ≤ s.vfe.holdoff → s.pins.driveGood = false →
        exec .holdoffEnd s = .next { s with
          notices := dropNotice .vfe s.notices
          pins := { s.pins with loopGood := false }
          vfe := { s.vfe with
            holdoff := 10
            state := .driveStart
            settings := ⟨⟨0, 0⟩, ⟨0, 0⟩, ⟨0, 0⟩⟩
            excitation := true
            loop := false
            timer := some 5000000 } })
    ∧ (s.vfe.state = .faulted → 9 ≤ s.vfe.holdoff → s.pins.driveGood = true →
        exec .holdoffEnd s = .next { s with
          notices := dropNotice .vfe s.notices
          pins := { s.pins with loopGood := false }
          vfe := { s.vfe with
            holdoff := 10
            state := .loopStart
            settings := ⟨⟨0, 0⟩, ⟨0, 0⟩, ⟨0, 0⟩⟩
            excitation := true
            loop := true
            timer := some 20000000 } })
    ∧ (countIsMark s.tb = true → ∃ marked, exec (.secondMark []) s = .next marked
        ∧ (s.vfe.state = .faulted → s.vfe.holdoff < 9 → exec (.secondMark [.vfe]) s = .next { marked with
            notices := dropNotice .vfe marked.notices
            vfe := { s.vfe with holdoff := s.vfe.holdoff + 1 } })
        ∧ (s.vfe.state = .faulted → 9 ≤ s.vfe.holdoff → exec (.secondMark [.vfe]) s = exec .holdoffEnd marked)
        ∧ (s.vfe.state ≠ .faulted → exec (.secondMark [.vfe]) s = .next { marked with
            notices := dropNotice .vfe marked.notices }))
    ∧ ∃ faulted : FaultCause → Bool → State,
      (∀ cause driveGood, faulted cause driveGood = raiseEvent .frontEndFault s.tb.second { s with
        pins := { s.pins with loopGood := false, driveGood := driveGood }
        vfe := { s.vfe with
          state := .faulted
          excitation := false
          loop := false
          timer := none
          blank := 0
          request := false
          cause := some cause
          holdoff := 0
          faults := bump s.vfe.faults } })
      ∧ (s.vfe.state = .driveStart → exec .driveStartTimeout s = .next (faulted .driveTimeout s.pins.driveGood))
      ∧ (s.vfe.state = .loopStart → exec .loopStartTimeout s = .next (faulted .loopTimeout s.pins.driveGood))
      ∧ (s.vfe.state = .loopStart ∨ s.vfe.state = .running ∨ s.vfe.state = .retuning →
          exec .driveGoodLost s = .next (faulted .driveLost false))
      ∧ (s.vfe.state = .running ∨ s.vfe.state = .retuning →
          exec (.loopGoodLost false) s = .next (faulted .loopLost s.pins.driveGood)
          ∧ exec (.loopGoodLost true) s = .next (faulted .driveLost false))

/-- SAMPLE_INSTANT in RUNNING: on each axis a residual of 8,000,000 or more in magnitude is a clip, which the VFE counts with its
sign and the second notes with CLIP; another adds compensation plus the scaled residual to the axis sum. A repeated instant, a
PASSED second, an earlier second and another epoch discard the sample. A sample of a later second first closes the OPEN second, or
leaves the PASSED one, and opens its own, without ageing the held correction temperature. The command takes the waiting notice of
its instant, or makes the count that passes the instant's tick; one that is neither changes nothing but the residual counts on the
pins (the model's choice, log 6). In a state other than RUNNING and RETUNING the instant forms no sample. -/
def Obligations.SampleAccumulates : Prop :=
  (∀ (s : State) (k : Instant) (r : Axes (BitVec 24)), s.powered = true → s.instants = [] →
      instantPassed s.tb.tick (countTb s.tb).tick ≠ some k →
      exec (.sampleInstant k r) s = .next { s with pins := { s.pins with residual := r } })
    ∧ ∀ (s : State) (k : Instant) (r : Axes (BitVec 24)) (tb : TB), s.powered = true →
      (s.instants = [⟨k, s.tb.second, s.tb.epoch⟩] ∧ tb = s.tb)
        ∨ (s.instants = [] ∧ instantPassed s.tb.tick (countTb s.tb).tick = some k ∧ tb = countTb s.tb) →
      (s.vfe.state ≠ .running → s.vfe.state ≠ .retuning →
        exec (.sampleInstant k r) s = .next { s with
          pins := { s.pins with residual := r }
          tb := tb
          instants := [] })
      ∧ ∀ (clips : Axis → Bool) (value : Axis → Int) (count : Nat) (noted : VFE) (ahead : Int),
        s.vfe.state = .running → s.vfe.clipped ≤ 65535 →
        (∀ a, clips a = decide (8000000 ≤ (axisGet r a).toInt.natAbs)) →
        (∀ a, value a = (axisGet s.vfe.settings a).coarse * axisGet s.sul.image.coarseStep a
          + (axisGet s.vfe.settings a).fine * axisGet s.sul.image.fineStep a
          + roundDiv ((axisGet r a).toInt * axisGet s.sul.image.gain a) 65536) →
        (∀ a, (value a).natAbs < 2 ^ 31) →
        count = (clips .x).toNat + (clips .y).toNat + (clips .z).toNat →
        noted = { s.vfe with lastClip := noted.lastClip, clipped := min 65535 (s.vfe.clipped + count) } →
        (∀ a, axisGet noted.lastClip a
          = if clips a then some (if (axisGet r a).toInt < 0 then .negative else .positive) else axisGet s.vfe.lastClip a) →
        ahead = (s.tb.second - s.re.second).toInt →
        (s.re.isOpen = true → s.re.second = s.tb.second → s.re.epoch = s.tb.epoch → k ∉ s.re.taken →
          (∀ a, (sumValue (axisGet s.re.sums a)).natAbs < 2 ^ 46) →
          ∃ sums : Axes Sum48, exec (.sampleInstant k r) s = .next { s with
              pins := { s.pins with residual := r }
              tb := tb
              instants := []
              vfe := noted
              re := { s.re with
                taken := s.re.taken ++ [k]
                sums := sums
                n := axesOf (fun a => axisGet s.re.n a + (!clips a).toNat)
                clipped := axesOf (fun a => axisGet s.re.clipped a + (clips a).toNat)
                sticky := { s.re.sticky with clip := s.re.sticky.clip || decide (count ≠ 0) } } }
            ∧ ∀ a, sumValue (axisGet sums a)
                = sumValue (axisGet s.re.sums a) + (if clips a then 0 else value a))
        ∧ (s.re.epoch ≠ s.tb.epoch ∨ ahead < 0
            ∨ (s.re.second = s.tb.second ∧ (s.re.isOpen = false ∨ k ∈ s.re.taken)) →
          exec (.sampleInstant k r) s = .next { s with
            pins := { s.pins with residual := r }
            tb := tb
            instants := []
            vfe := noted })
        ∧ (s.re.epoch = s.tb.epoch → 0 < ahead →
          ∃ t, exec (.sampleInstant k r) s = .next t
            ∧ t.pins = { s.pins with residual := r } ∧ t.tb = tb ∧ t.instants = []
            ∧ t.re.second = s.tb.second ∧ t.re.epoch = s.re.epoch
            ∧ (t.re.isOpen = true ↔ ∀ x ∈ t.rs.seconds, ¬ (x.epoch = s.re.epoch ∧ x.second = s.tb.second))
            ∧ (t.re.isOpen = true → t.re.taken = [k] ∧ t.re.blanked = ⟨0, 0, 0⟩
                ∧ t.re.sticky = { StickyFlags.clear with
                    clip := decide (count ≠ 0)
                    retuned := t.re.sticky.retuned }
                ∧ ∀ a, axisGet t.re.n a = (!clips a).toNat ∧ axisGet t.re.clipped a = (clips a).toNat
                    ∧ sumValue (axisGet t.re.sums a) = (if clips a then 0 else value a))
            ∧ (t.re.isOpen = false → t.re.taken = [] ∧ ∀ a, axisGet t.re.n a = 0 ∧ axisGet t.re.clipped a = 0)
            ∧ (s.re.isOpen = false → t.re.held = s.re.held)
            ∧ (s.re.isOpen = true → t.re.held = s.re.held ∨ ∃ v c, t.re.held = some ⟨v, c, 0⟩)
            ∧ ∀ key : SecondRecord → Sequence × Epoch × Second, key = (fun x => (x.sequence, x.epoch, x.second)) →
                (s.re.isOpen = false → t.rs.seconds.map key = s.rs.seconds.map key)
                ∧ (s.re.isOpen = true → t.rs.seconds.map key
                    = (s.rs.seconds.drop (if 1024 ≤ s.rs.seconds.length then 1 else 0)).map key
                      ++ [(nextSequence (newestSecond s.rs), s.re.epoch, s.re.second)]))

/-- SETTLE_COMPLETE, and SAMPLE_INSTANT in RETUNING: an instant is handed over blanked on every axis and the blank count advances; at the
32nd the VFE is then RUNNING and RETUNE is raised.
The command takes the waiting notice of its instant, or makes the count that passes the instant's tick (the model's choice, log 6). -/
def Obligations.SettleCompletes : Prop :=
  ∀ (s : State) (k : Instant) (r : Axes (BitVec 24)) (tb : TB), s.powered = true →
    (s.instants = [⟨k, s.tb.second, s.tb.epoch⟩] ∧ tb = s.tb)
      ∨ (s.instants = [] ∧ instantPassed s.tb.tick (countTb s.tb).tick = some k ∧ tb = countTb s.tb) →
    s.vfe.state = .retuning →
    s.re.isOpen = true → s.re.second = s.tb.second → s.re.epoch = s.tb.epoch → k ∉ s.re.taken →
    (s.vfe.blank < 31 → exec (.sampleInstant k r) s = .next { s with
      pins := { s.pins with residual := r }
      tb := tb
      instants := []
      vfe := { s.vfe with blank := s.vfe.blank + 1 }
      re := { s.re with
        taken := s.re.taken ++ [k]
        blanked := ⟨s.re.blanked.x + 1, s.re.blanked.y + 1, s.re.blanked.z + 1⟩
        sticky := { s.re.sticky with blank := true, retuned := true }
        attached := s.re.latest } })
    ∧ (31 ≤ s.vfe.blank → exec (.sampleInstant k r) s = exec (.settleComplete k r) s
      ∧ exec (.settleComplete k r) s = .next (raiseEvent .retune s.tb.second { s with
      pins := { s.pins with residual := r }
      tb := tb
      instants := []
      vfe := { s.vfe with state := .running, blank := 0, retunes := bump s.vfe.retunes }
      re := { s.re with
        taken := s.re.taken ++ [k]
        blanked := ⟨s.re.blanked.x + 1, s.re.blanked.y + 1, s.re.blanked.z + 1⟩
        sticky := { s.re.sticky with blank := true, retuned := true }
        attached := s.re.latest } }))

/-- A retune keeps the coarse setting where the fine setting alone reaches the target from −128 to 127; otherwise it takes the coarse
setting nearest the target and then the fine one, each clamped to its range. Every unclamped fine setting, its bounds included,
brings the compensation within half a fine step of the target. -/
def Obligations.RetuneReachesTarget : Prop :=
  ∀ (im : Image) (a : Axis) (st new : Settings) (rho target fine coarse other : Int), 0 < axisGet im.coarseStep a →
    0 < axisGet im.fineStep a → -32 ≤ st.coarse → st.coarse ≤ 31 →
    target = st.coarse * axisGet im.coarseStep a + st.fine * axisGet im.fineStep a + rho →
    fine = roundDiv (target - st.coarse * axisGet im.coarseStep a) (axisGet im.fineStep a).toNat →
    coarse = max (-32) (min 31 (roundDiv target (axisGet im.coarseStep a).toNat)) →
    other = roundDiv (target - coarse * axisGet im.coarseStep a) (axisGet im.fineStep a).toNat →
    retunedSettings im a st rho = new →
    (-32 ≤ new.coarse ∧ new.coarse ≤ 31 ∧ -128 ≤ new.fine ∧ new.fine ≤ 127)
      ∧ (-128 ≤ fine → fine ≤ 127 → new = ⟨st.coarse, fine⟩
          ∧ 2 * (compOf im a new - target).natAbs ≤ (axisGet im.fineStep a).natAbs)
      ∧ (fine < -128 ∨ 127 < fine → new = ⟨coarse, max (-128) (min 127 other)⟩
          ∧ (-128 ≤ other → other ≤ 127 → 2 * (compOf im a new - target).natAbs ≤ (axisGet im.fineStep a).natAbs))

/-- A residual report at the VFE: the band and clip runs move in RUNNING and RETUNING; in RUNNING a band run of 3 (unless BW is
DISTURBED or EASING, when band-inhibit counts), a clip run of 2, or the request with every mean residual available, brings one
retune when some axis has a retune residual. The retune takes the computed settings, hands them to RE and enters RETUNING. That an
axis whose last clip sign is none has no clip estimate is the model's choice (log 26). -/
def Obligations.ReportRetunes : Prop :=
  ∀ (r : ResidualReport) (s : State),
    (s.vfe.state ≠ .running → s.vfe.state ≠ .retuning → evaluateReport r s = s)
    ∧ ∃ (mean residual : Axis → Option Int) (band clip : Axes Nat),
      (∀ a, r.retuned = true ∨ axisGet r.means a = none → mean a = none)
      ∧ (∀ a m, r.retuned = false → axisGet r.means a = some m →
          mean a = some (m - ((axisGet s.vfe.settings a).coarse * axisGet s.sul.image.coarseStep a
            + (axisGet s.vfe.settings a).fine * axisGet s.sul.image.fineStep a)))
      ∧ (∀ a m, mean a = some m → residual a = some m)
      ∧ (∀ a sign, mean a = none → axisGet r.n a = 0 → 1 ≤ axisGet r.clipped a →
          axisGet s.vfe.lastClip a = some sign →
          residual a = some (if sign = .negative then -(roundDiv (8000000 * axisGet s.sul.image.gain a) 65536)
            else roundDiv (8000000 * axisGet s.sul.image.gain a) 65536))
      ∧ (∀ a, mean a = none → axisGet r.n a ≠ 0 ∨ axisGet r.clipped a = 0 ∨ axisGet s.vfe.lastClip a = none →
          residual a = none)
      ∧ (∀ a, (∃ m, mean a = some m ∧ s.sul.image.retuneBand < (m.natAbs : Int)) →
          axisGet band a = min 3 (axisGet s.vfe.bandRun a + 1))
      ∧ (∀ a, (∀ m, mean a = some m → (m.natAbs : Int) ≤ s.sul.image.retuneBand) → axisGet band a = 0)
      ∧ (∀ a, 1 ≤ axisGet r.clipped a → axisGet clip a = min 2 (axisGet s.vfe.clipRun a + 1))
      ∧ (∀ a, axisGet r.clipped a = 0 → axisGet clip a = 0)
      ∧ (s.vfe.state = .retuning →
          evaluateReport r s = { s with vfe := { s.vfe with bandRun := band, clipRun := clip } })
      ∧ (s.vfe.state = .running → ∀ (disturbed trigger : Prop) (inhibit : Nat),
          (disturbed ↔ s.bw.state = .disturbed ∨ s.bw.state = .easing) →
          (trigger ↔ ((∃ a, axisGet band a = 3) ∧ ¬ disturbed) ∨ (∃ a, axisGet clip a = 2)
            ∨ (s.vfe.request = true ∧ ∀ a, mean a ≠ none)) →
          ((∃ a, axisGet band a = 3) → disturbed → inhibit = bump s.vfe.bandInhibit) →
          ((∀ a, axisGet band a ≠ 3) ∨ ¬ disturbed → inhibit = s.vfe.bandInhibit) →
          (¬ trigger ∨ (∀ a, residual a = none) → evaluateReport r s = { s with
            vfe := { s.vfe with bandRun := band, clipRun := clip, bandInhibit := inhibit } })
          ∧ (trigger → (∃ a, residual a ≠ none) → ∃ st : Axes Settings,
            (∀ a rho, residual a = some rho →
                axisGet st a = retunedSettings s.sul.image a (axisGet s.vfe.settings a) rho)
            ∧ (∀ a, residual a = none → axisGet st a = axisGet s.vfe.settings a)
            ∧ ∃ request : Bool, (request = true ↔ s.vfe.request = true ∧ ∃ a, mean a = none)
            ∧ evaluateReport r s = { s with
                vfe := { s.vfe with
                  settings := st
                  state := .retuning
                  blank := 0
                  bandRun := ⟨0, 0, 0⟩
                  clipRun := clip
                  request := request
                  bandInhibit := inhibit }
                re := { s.re with
                  latest := some st
                  attached := if s.re.isOpen then some st else s.re.attached
                  sticky := { s.re.sticky with retuned := s.re.sticky.retuned || s.re.isOpen } } }))

/-! ## The scalar and temperature front ends -/

/-- At entry to DEAD the stage timer starts at 20 ms with the polarize current off; crossings and signal-detect are not watched
in DEAD; when the timer expires SCN enters GATE, where the cycle ends at once when signal-detect is absent. RISING_CROSSING in
GATE: the first crossing stamps both ends; each later one stamps the last, counts a period up to 4,000 and measures the ticks from
the first, across the wrap of the second count too (the model's choice, log 17). POLARIZE_CURRENT_FAULT in POLARIZE and
SIGNAL_DETECT_LOST in GATE end the cycle without F: the latest F is gone and the absent counter increments. That the two commands
carry the level of their indication is the model's choice (log 6). -/
def Obligations.CycleStages : Prop :=
  (∀ s : State, s.powered = true →
    (s.scn.state = .polarize → exec .polarizeExpiry s = .next { s with
        scn := { s.scn with state := .dead, current := false, timer := some 200000 } })
    ∧ (s.scn.state = .dead → exec .risingCrossing s = .next s
        ∧ ∀ absent, exec (.signalDetectLost absent) s = .next { s with
            pins := { s.pins with signalDetect := !absent } })
    ∧ (s.scn.state = .dead → s.pins.signalDetect = true → exec .deadExpiry s = .next { s with
        scn := { s.scn with state := .gate, timer := some (s.sul.image.gateTime * 100000) } })
    ∧ (s.scn.state = .dead → s.pins.signalDetect = false → exec .deadExpiry s = .next { s with
        scn := { s.scn with
          current := false
          timer := none
          latestF := none
          outcome := some .noSignal
          absent := bump s.scn.absent
          state := .wait } }))
    ∧ (∀ s : State, s.powered = true → s.scn.state = .gate →
      (s.scn.first = none → exec .risingCrossing s = .next { s with scn := { s.scn with
          first := some ⟨s.tb.second, s.tb.tick, s.tb.epoch⟩
          last := some ⟨s.tb.second, s.tb.tick, s.tb.epoch⟩ } })
      ∧ (∀ f : Stamp, s.scn.first = some f → s.scn.n < 4000 → s.tb.second = f.second → f.tick ≤ s.tb.tick →
          exec .risingCrossing s = .next { s with scn := { s.scn with
            last := some ⟨s.tb.second, s.tb.tick, s.tb.epoch⟩
            n := s.scn.n + 1
            t := s.tb.tick - f.tick } })
      ∧ (∀ f : Stamp, s.scn.first = some f → s.scn.n < 4000 → s.tb.second = f.second + 1 → f.tick ≤ 10000000 →
          exec .risingCrossing s = .next { s with scn := { s.scn with
            last := some ⟨s.tb.second, s.tb.tick, s.tb.epoch⟩
            n := s.scn.n + 1
            t := 10000000 - f.tick + s.tb.tick } })
      ∧ (∀ f : Stamp, s.scn.first = some f → 4000 ≤ s.scn.n → s.tb.second = f.second → f.tick ≤ s.tb.tick →
          exec .risingCrossing s = .next { s with scn := { s.scn with
            last := some ⟨s.tb.second, s.tb.tick, s.tb.epoch⟩
            n := 4000
            t := s.tb.tick - f.tick } }))
    ∧ (∀ s : State, s.powered = true →
      (s.scn.state = .polarize → exec (.polarizeCurrentFault true) s =
          .next (raiseEvent .frontEndFault s.tb.second { s with
            pins := { s.pins with polarizeFault := true }
            scn := { s.scn with
              current := false
              timer := none
              latestF := none
              outcome := some .polarizeFault
              absent := bump s.scn.absent
              state := .faulted
              faults := bump s.scn.faults } }))
      ∧ (s.scn.state = .gate → exec (.signalDetectLost true) s = .next { s with
          pins := { s.pins with signalDetect := false }
          scn := { s.scn with
            current := false
            timer := none
            latestF := none
            outcome := some .noSignal
            absent := bump s.scn.absent
            state := .wait } }))

/-- GATE_EXPIRY: fewer than 100 cycles, then a frequency outside 850..3,500 Hz, end the cycle without F; else the division for F is
placed and the midpoint is labelled. -/
def Obligations.GateCloses : Prop :=
  ∀ s : State, s.powered = true → s.scn.state = .gate →
    ∃ ended : ScnOutcome → State,
      (∀ o, ended o = { s with scn := { s.scn with
        current := false
        timer := none
        latestF := none
        outcome := some o
        absent := bump s.scn.absent
        state := .wait } })
      ∧ (s.scn.n < 100 → exec .gateExpiry s = .next (ended .fewCycles))
      ∧ (100 ≤ s.scn.n → s.scn.n * 10000000 < 850 * s.scn.t ∨ 3500 * s.scn.t < s.scn.n * 10000000 →
          exec .gateExpiry s = .next (ended .range))
      ∧ (∀ f : Stamp, 100 ≤ s.scn.n → 850 * s.scn.t ≤ s.scn.n * 10000000 → s.scn.n * 10000000 ≤ 3500 * s.scn.t →
          s.scn.first = some f → f.tick < 10000000 → s.scn.t < 10000000 → s.dru.current = none → s.dru.queue = [] →
          exec .gateExpiry s = .next { s with
            scn := { s.scn with
              state := .compute
              timer := none
              mid := some (if f.tick + (s.scn.t + 1) / 2 < 10000000 then f.second else f.second + 1, f.epoch) }
            dru := { s.dru with
              current := some ⟨⟨.scalar, .divide ((s.scn.n : Int) * 234872000000) s.scn.t⟩, 330⟩ } })

/-- The mark notice of a start mark begins a cycle of SCN in WAIT, or in FAULTED as a retry; with the fault indication present the new
POLARIZE faults at once. In another state, and at another mark, SCN stands. TU, unless it is OFF, ages both latest readings at every
mark, and in WAIT a start mark begins an acquisition. -/
def Obligations.StartMarksBegin : Prop :=
  ∀ s : State, s.powered = true → s.notices = [] → countIsMark s.tb = true →
    (∃ t, exec (.secondMark [.scn]) s = .next t
      ∧ ∀ (starts : Prop), (starts ↔ (s.tb.second + 1).toNat % s.sul.image.cyclePeriod = 0
          ∧ (s.scn.state = .wait ∨ s.scn.state = .faulted)) →
        (¬ starts → t.scn = s.scn ∧ t.rs = s.rs)
        ∧ (starts → s.pins.polarizeFault = false → t.rs = s.rs ∧ t.scn = { s.scn with
            state := .polarize
            first := none
            last := none
            n := 0
            t := 0
            current := true
            timer := some (s.sul.image.polarizeTime * 1000000) })
        ∧ (starts → s.pins.polarizeFault = true →
            t.rs = (raiseEvent .frontEndFault (s.tb.second + 1) s).rs ∧ t.scn = { s.scn with
              state := .faulted
              first := none
              last := none
              n := 0
              t := 0
              current := false
              timer := none
              latestF := none
              outcome := some .polarizeFault
              absent := bump s.scn.absent
              faults := bump s.scn.faults }))
    ∧ ∃ t, exec (.secondMark [.tu]) s = .next t
      ∧ (s.tu.state = .off → t.tu = s.tu)
      ∧ ∀ aged : TempChannel → TempChannel,
        (∀ c, aged c = { c with
          reading := c.reading.map (fun x => { x with age := if 255 ≤ x.age then 255 else x.age + 1 }) }) →
        (s.tu.state ≠ .off → s.tu.state ≠ .wait ∨ (s.tb.second + 1).toNat % s.sul.image.acqPeriod ≠ 0 →
            t.tu = { s.tu with sensor := aged s.tu.sensor, pier := aged s.tu.pier })
        ∧ (s.tu.state = .wait → (s.tb.second + 1).toNat % s.sul.image.acqPeriod = 0 →
            t.tu = ⟨.settle, some 2500000, true, aged s.tu.sensor, aged s.tu.pier⟩)

/-- TU_SETTLE_EXPIRY starts the conversion, and CONVERSION_COMPLETE takes both codes, in the order of `ties` (the model's choice,
log 5). On each channel a good code becomes the latest reading on the straight line of the channel within −4,000..8,500 cd and
moves its excursion watch; a faulted code leaves the reading and the watch unless it is the third in a row, which removes the
reading with SENSOR_FAULT. -/
def Obligations.AcquisitionCompletes : Prop :=
  (∀ (s : State) (c p : BitVec 16), s.powered = true →
      (s.tu.state = .settle → exec .tuSettleExpiry s = .next { s with
          tu := { s.tu with state := .convert, timer := some 1000000 } })
      ∧ (s.tu.state = .convert →
          ∃ (t : State) (x y : TempChannel × Option EventKind), exec (.conversionComplete c p) s = .next t
            ∧ x = channelAfter s.sul.image .sensor c s.tb.second s.tb.epoch s.tu.sensor
            ∧ y = channelAfter s.sul.image .pier p s.tb.second s.tb.epoch s.tu.pier
            ∧ t = { s with
                pins := { s.pins with sensorCode := c, pierCode := p }
                tu := ⟨.wait, none, false, x.1, y.1⟩
                rs := t.rs }
            ∧ t.rs = (if s.ties.sensorFirst then raiseOpt y.2 s.tb.second (raiseOpt x.2 s.tb.second s)
                else raiseOpt x.2 s.tb.second (raiseOpt y.2 s.tb.second s)).rs))
    ∧ ∀ (im : Image) (ch : Channel) (code : BitVec 16) (second : Second) (epoch : Epoch) (old new : TempChannel)
      (event : Option EventKind), channelAfter im ch code second epoch old = (new, event) →
      new.code = some code
      ∧ (code.toNat < 500 ∨ 65000 < code.toNat →
          new.faultedReadings = bump old.faultedReadings ∧ new.watch = old.watch ∧ new.queue = old.queue
          ∧ (old.faultRun = 2 → old.faulted = false →
              new.faulted = true ∧ new.reading = none ∧ new.faultRun = 3 ∧ event = some .sensorFault)
          ∧ (old.faultRun ≠ 2 ∨ old.faulted = true →
              new.faulted = old.faulted ∧ new.reading = old.reading ∧ new.faultRun = min 3 (old.faultRun + 1)
                ∧ event = none))
      ∧ (∀ v w : Int, 500 ≤ code.toNat → code.toNat ≤ 65000 →
          v = channelGet im.intercept ch + roundDiv ((code.toNat : Int) * channelGet im.slope ch) 65536 →
          w = max (-4000) (min 8500 v) →
          new.faulted = false ∧ new.faultRun = 0
          ∧ new.reading = some ⟨w, if v < -4000 then .low else if 8500 < v then .high else .none, second, epoch, 0⟩
          ∧ new.clampedReadings = (if v = w then old.clampedReadings else bump old.clampedReadings)
          ∧ ∀ q : Nat, q = queueDepth (channelGet im.queueCode ch) →
            (old.watch = .normal → w ≤ channelGet im.hot ch → new.watch = .normal ∧ new.queue = old.queue ∧ event = none)
            ∧ (old.watch = .normal → channelGet im.hot ch < w → q ≤ 1 →
                new.watch = .excursion ∧ new.queue = 0 ∧ event = some .thermalStart)
            ∧ (old.watch = .normal → channelGet im.hot ch < w → 1 < q →
                new.watch = .counting ∧ new.queue = 1 ∧ event = none)
            ∧ (old.watch = .counting → channelGet im.hot ch < w → q ≤ old.queue + 1 →
                new.watch = .excursion ∧ new.queue = 0 ∧ event = some .thermalStart)
            ∧ (old.watch = .counting → channelGet im.hot ch < w → old.queue + 1 < q →
                new.watch = .counting ∧ new.queue = old.queue + 1 ∧ event = none)
            ∧ (old.watch = .counting → w ≤ channelGet im.hot ch →
                new.watch = .normal ∧ new.queue = 0 ∧ event = none)
            ∧ (old.watch = .excursion → w < channelGet im.cool ch →
                new.watch = .normal ∧ new.queue = 0 ∧ event = some .thermalEnd)
            ∧ (old.watch = .excursion → channelGet im.cool ch ≤ w →
                new.watch = .excursion ∧ new.queue = old.queue ∧ event = none))

/-! ## The reduction, the divider and the matcher -/

/-- The DRU's division and every division of the blocks round to nearest, an exact half away from zero. -/
def Obligations.RoundDivIsNearest : Prop :=
  ∀ (a : Int) (d : Nat), 0 < d →
    2 * (roundDiv a d * d - a).natAbs ≤ d
      ∧ (2 * (roundDiv a d * d - a).natAbs = d → a.natAbs < (roundDiv a d * d).natAbs)
      ∧ (0 ≤ a → 0 ≤ roundDiv a d) ∧ (a ≤ 0 → roundDiv a d ≤ 0)

/-- An axis sum is exact: its value is the extension times 2^32 plus the low part, a value added carries or borrows into the
extension, and 128 axis values leave the sum within ±2^38, the extension within −64..63. The mean's dividend is that value. -/
def Obligations.AxisSumExact : Prop :=
  (∀ (low : BitVec 32) (ext : BitVec 16), sumValue ⟨low, ext⟩ = ext.toInt * 2 ^ 32 + low.toNat)
    ∧ (∀ (w : Sum48) (v : Int), v.natAbs < 2 ^ 31 →
        ((addToSum w v).low.toNat : Int) = ((w.low.toNat : Int) + v) % 2 ^ 32
          ∧ (2 ^ 32 ≤ (w.low.toNat : Int) + v → (addToSum w v).ext = w.ext + 1)
          ∧ ((w.low.toNat : Int) + v < 0 → (addToSum w v).ext = w.ext - 1)
          ∧ (0 ≤ (w.low.toNat : Int) + v → (w.low.toNat : Int) + v < 2 ^ 32 → (addToSum w v).ext = w.ext))
    ∧ (∀ vs : List Int, vs.length ≤ 128 → (∀ v ∈ vs, v.natAbs ≤ 141508479) →
        ∃ w, w = vs.foldl addToSum ⟨0, 0⟩ ∧ sumValue w = vs.sum ∧ (sumValue w).natAbs ≤ 2 ^ 38
          ∧ -64 ≤ w.ext.toInt ∧ w.ext.toInt ≤ 63)
    ∧ (∀ (a : Axis) (c : ChainRecord) (rest : List ChainRecord), axisGet c.steps a = .waiting → axisGet c.n a ≠ 0 →
        (startAxisList a (c :: rest)).2 = some (.divide (sumValue (axisGet c.sums a)) (axisGet c.n a)))

/-- The mark notice closes an OPEN second: its record joins the ring of 1,024, whose oldest leaves a full one, with the next
sequence, its counts, its flags, the settings attached to a RETUNED second, the SENSOR and PIER readings and the state of the
neighbouring blocks, and RE opens the next second with nothing taken. Its correction temperature is the own SENSOR reading of at
most twice the acquisition period, else the substitute peer's of at most 30 marks, else the held one of at most 600 marks, else none
with NO_TCORR; a value taken from the sensor or the peer becomes the held one. The mark then ages the held one by 1. -/
def Obligations.MarkClosesSecond : Prop :=
  ∀ s : State, s.powered = true → s.notices = [] → countIsMark s.tb = true → s.re.isOpen = true →
    s.re.epoch = s.tb.epoch →
    s.tb.second = s.re.second →
    ∃ (t : State) (r : SecondRecord), exec (.secondMark [.re]) s = .next t
      ∧ t.rs.seconds.getLast? = some r
      ∧ t.rs.seconds.map SecondRecord.sequence
          = (s.rs.seconds.drop (if 1024 ≤ s.rs.seconds.length then 1 else 0)).map SecondRecord.sequence ++ [r.sequence]
      ∧ (s.rs.seconds = [] → r.sequence = 0)
      ∧ (∀ u, s.rs.seconds.getLast? = some u → r.sequence = u.sequence + 1)
      ∧ r.epoch = s.re.epoch ∧ r.second = s.re.second ∧ (∀ a, (axisGet r.axes a).n = axisGet s.re.n a)
      ∧ r.flags.clip = s.re.sticky.clip ∧ r.flags.step = s.re.sticky.step ∧ r.flags.retuned = s.re.sticky.retuned
      ∧ r.flags.blank = s.re.sticky.blank ∧ r.flags.relabel = s.re.sticky.relabel
      ∧ (r.flags.thermal = true ↔ s.tu.sensor.watch = .excursion ∨ s.tu.pier.watch = .excursion)
      ∧ (r.flags.disturbed = true ↔ s.bw.state = .disturbed ∨ s.bw.state = .easing)
      ∧ (r.flags.noTcorr = true ↔ r.tsource = .none)
      ∧ r.settings = (if s.re.sticky.retuned then s.re.attached else none)
      ∧ r.sensor = s.tu.sensor.reading.map (fun x => ⟨x.value, x.clamp, x.second⟩)
      ∧ r.pier = s.tu.pier.reading.map (fun x => ⟨x.value, x.clamp, x.second⟩)
      ∧ (r.flags.incomplete = true ↔
          s.sul.image.vectorRole = true ∧ ∃ a, axisGet s.re.n a < s.sul.image.completeness)
      ∧ r.discipline = s.du.state ∧ r.errorBound = s.du.errorBound ∧ r.disturbance = s.bw.state
      ∧ t.re.second = s.re.second + 1 ∧ t.re.epoch = s.re.epoch ∧ t.re.taken = []
      ∧ (∀ a, axisGet t.re.n a = 0 ∧ sumValue (axisGet t.re.sums a) = 0)
      ∧ (t.re.isOpen = true ↔ ∀ x ∈ t.rs.seconds, ¬ (x.epoch = s.re.epoch ∧ x.second = s.re.second + 1))
      ∧ ∀ (own peer held : Option TempValue),
          own = (s.tu.sensor.reading.filter (fun x => decide (x.age ≤ 2 * s.sul.image.acqPeriod))).map
            (fun x => ⟨x.value, x.clamp⟩) →
          (s.sul.image.substitutePeer = 0 → peer = none) →
          (s.sul.image.substitutePeer ≠ 0 →
            peer = (((findEntry s.sul.image.substitutePeer s.pt.entries).bind PeerEntry.latestTemp).filter
              (fun v => decide (v.age ≤ 30))).map (fun v => ⟨v.value, .none⟩)) →
          held = (s.re.held.filter (fun h => decide (h.age ≤ 600))).map (fun h => ⟨h.value, h.clamp⟩) →
          (∀ x, own = some x → r.tsource = .localReading ∧ r.tcorr = own)
          ∧ (∀ x, own = none → peer = some x → r.tsource = .peer ∧ r.tcorr = peer)
          ∧ (∀ x, own = none → peer = none → held = some x → r.tsource = .held ∧ r.tcorr = held)
          ∧ (own = none → peer = none → held = none →
              r.tsource = .none ∧ r.tcorr = none ∧ r.flags.noTcorr = true)
          ∧ (∀ x, own = some x ∨ (own = none ∧ peer = some x) →
              t.re.held = some ⟨x.value, x.clamp, 1⟩)
          ∧ (own = none → peer = none →
              t.re.held = s.re.held.map (fun h => { h with age := min 65535 (h.age + 1) }))

/-- DIVIDE_COMPLETE: the result of SCALAR becomes SCN's F, and while the source is OWN goes to MDM and then to RS (the model's choice of
order, log 5); a divisor of 0 counts as a divide fault and leaves the axis of its chain
absent with ARITH; with a correction temperature the mean of an axis places the scale division and the scale term the offset
division; and the last division of an axis chain writes the corrected value, within ±100,000,000, into the record. -/
def Obligations.DivisionDelivered : Prop :=
  ∀ (s : State) (a : Int) (d left : Nat), s.powered = true →
    (∀ m, s.dru.current = some ⟨⟨.scalar, .divide a d⟩, left⟩ → d ≠ 0 → s.scn.state = .compute → s.scn.mid = some m →
        ∃ t, exec .divideComplete s = .next t ∧ t.scn = { s.scn with
            latestF := some ⟨roundDiv a d, m.1, m.2⟩
            outcome := some .f
            fCount := bump s.scn.fCount
            state := .wait }
          ∧ t.dru.divideFault = s.dru.divideFault
          ∧ (s.mdm.source = .own → s.dru.queue = [] → ∃ u v : State,
              u = { s with scn := t.scn, dru := { s.dru with current := none } } ∧ v = takeF (roundDiv a d) m.1 u
              ∧ t = { v with rs := storeOwnF ⟨roundDiv a d, m.1, m.2⟩ v.rs })
          ∧ (s.mdm.source ≠ .own → t.mdm = s.mdm ∧ t.dru.queue = s.dru.queue.drop 1
              ∧ t.rs = storeOwnF ⟨roundDiv a d, m.1, m.2⟩ s.rs))
    ∧ (∀ ax c tc, s.dru.current = some ⟨⟨.axis ax, .divide a d⟩, left⟩ → s.dru.queue = [] →
        activeRecord ax s.re.chain = some c → c.tcorr = some tc → d ≠ 0 →
        (axisGet c.steps ax = .mean →
          ∃ t c', exec .divideComplete s = .next t ∧ activeRecord ax t.re.chain = some c' ∧ c'.sequence = c.sequence
            ∧ axisGet c'.means ax = some (roundDiv a d) ∧ axisGet c'.steps ax = .scale (roundDiv a d)
            ∧ t.dru.current = some ⟨⟨.axis ax,
                .divide (roundDiv a d * axisGet s.sul.image.ks ax * (tc - s.sul.image.t0)) 100000000000⟩, 330⟩)
        ∧ (∀ m, axisGet c.steps ax = .scale m →
          ∃ t c', exec .divideComplete s = .next t ∧ activeRecord ax t.re.chain = some c' ∧ c'.sequence = c.sequence
            ∧ axisGet c'.steps ax = .offset m (roundDiv a d)
            ∧ t.dru.current = some ⟨⟨.axis ax,
                .divide (axisGet s.sul.image.ko ax * (tc - s.sul.image.t0)) 100⟩, 330⟩))
    ∧ (∀ ax c, s.dru.current = some ⟨⟨.axis ax, .divide a d⟩, left⟩ → activeRecord ax s.re.chain = some c →
        axisGet c.steps ax ≠ .waiting → axisGet c.steps ax ≠ .ended → d = 0 →
        ∃ t, exec .divideComplete s = .next t ∧ t.dru.divideFault = bump s.dru.divideFault
          ∧ ∀ r ∈ t.rs.seconds, r.sequence = c.sequence →
              (axisGet r.axes ax).value = none ∧ r.flags.arith = true)
    ∧ (∀ ax c m sc, s.dru.current = some ⟨⟨.axis ax, .divide a d⟩, left⟩ → activeRecord ax s.re.chain = some c →
        axisGet c.steps ax = .offset m sc → d ≠ 0 →
        ∃ t, exec .divideComplete s = .next t
          ∧ ∀ r ∈ t.rs.seconds, r.sequence = c.sequence →
              (axisGet r.axes ax).value = some (max (-100000000) (min 100000000 (m - sc - roundDiv a d)))
              ∧ ((m - sc - roundDiv a d).natAbs > 100000000 → r.flags.range = true))
    ∧ (∀ ax c, s.dru.current = some ⟨⟨.axis ax, .divide a d⟩, left⟩ → activeRecord ax s.re.chain = some c →
        axisGet c.steps ax = .mean → c.tcorr = none → d ≠ 0 →
        ∃ t, exec .divideComplete s = .next t
          ∧ ∀ r ∈ t.rs.seconds, r.sequence = c.sequence →
              (axisGet r.axes ax).value = some (max (-100000000) (min 100000000 (roundDiv a d))))

/-- The minute builder: an axis is averaged with 45 present values or more, F and ΔF with one or more; DIVIDE_COMPLETE puts the mean in
its place and the next division follows, and the last one enters the minute record with the next sequence, beyond 512 in place of
the oldest. A result of a minute dropped from the list is discarded. A record of another minute starts the current one; the list of
16 then loses its oldest, and minute-lost increments. -/
def Obligations.MinuteMeansDelivered : Prop :=
  (∀ (m : Minute) (recs : List SecondRecord) (b : MinuteBuild), gatherMinute m recs = b →
      b.body.minute = m ∧ b.body.held = recs.length
      ∧ (∀ (a : Axis) (values : List Int), recs.filterMap (fun r => (axisGet r.axes a).value) = values →
          axisGet b.body.axes a = ⟨values.length, none⟩
          ∧ ∀ d : MinuteDivision, d.quantity = .axis a →
              (d ∈ b.todo ↔ 45 ≤ values.length ∧ d = ⟨.axis a, values.sum, values.length⟩))
      ∧ (∀ values : List Int, recs.filterMap (fun r => r.f.or r.ownF) = values →
          b.body.f = ⟨values.length, none⟩
          ∧ ∀ d : MinuteDivision, d.quantity = .f →
              (d ∈ b.todo ↔ 1 ≤ values.length ∧ d = ⟨.f, values.sum, values.length⟩))
      ∧ (∀ values : List Int, recs.filterMap SecondRecord.deltaF = values →
          b.body.deltaF = ⟨values.length, none⟩
          ∧ ∀ d : MinuteDivision, d.quantity = .deltaF →
              (d ∈ b.todo ↔ 1 ≤ values.length ∧ d = ⟨.deltaF, values.sum, values.length⟩))
      ∧ (b.todo.map MinuteDivision.quantity).Sublist [.axis .x, .axis .y, .axis .z, .f, .deltaF]
      ∧ (b.body.flags.step = true ↔ ∃ r ∈ recs, r.flags.step = true)
      ∧ (b.body.flags.arith = true ↔ ∃ r ∈ recs, r.flags.arith = true))
    ∧ (∀ (s : State) (a : Int) (d left : Nat), s.powered = true → d ≠ 0 → s.dru.queue = [] →
      s.dru.current = some ⟨⟨.minute, .divide a d⟩, left⟩ →
      (s.rs.discard = true → s.rs.buildList = [] → exec .divideComplete s = .next { s with
          dru := { s.dru with current := none }
          rs := { s.rs with discard := false } })
      ∧ (∀ body e f rest, s.rs.discard = false → s.rs.build = some ⟨body, e :: f :: rest⟩ →
          exec .divideComplete s = .next { s with
            dru := { s.dru with current := some ⟨⟨.minute, .divide f.sum f.count⟩, 330⟩ }
            rs := { s.rs with build := some ⟨setMean e.quantity (some (roundDiv a d)) body, f :: rest⟩ } })
      ∧ (∀ body e head, s.rs.discard = false → s.rs.build = some ⟨body, [e]⟩ → s.rs.buildList = [head] →
          ∀ q : Sequence, (s.rs.minutes = [] → q = 0) →
            (∀ u, s.rs.minutes.getLast? = some u → q = u.sequence + 1) →
          exec .divideComplete s = .next { s with
            dru := { s.dru with current := none }
            rs := { s.rs with
              minutes := s.rs.minutes.drop (if 512 ≤ s.rs.minutes.length then 1 else 0)
                ++ [⟨q, setMean e.quantity (some (roundDiv a d)) body⟩]
              build := none
              buildList := [] } }))
    ∧ ∀ (key : Minute) (s : State),
      (s.rs.current = none → takeMinuteKey key s = { s with rs := { s.rs with current := some key } })
      ∧ (s.rs.current = some key → takeMinuteKey key s = s)
      ∧ ∀ m, s.rs.current = some m → m ≠ key →
        (∀ old ∈ s.rs.buildList.head?, s.rs.buildList.length < 16 → (∃ r ∈ minuteRecords old s.rs, r.final = false) →
          takeMinuteKey key s = { s with rs := { s.rs with
            current := some key
            buildList := s.rs.buildList ++ [m] } })
        ∧ (s.rs.buildList = [] → s.rs.build = none → s.rs.discard = false →
          (∀ r ∈ minuteRecords m s.rs, r.final = true) →
          ∀ d rest, (gatherMinute m (minuteRecords m s.rs)).todo = d :: rest →
          takeMinuteKey key s = { s with
            dru := placeDru ⟨.minute, .divide d.sum d.count⟩ s.dru
            rs := { s.rs with
              current := some key
              buildList := [m]
              build := some (gatherMinute m (minuteRecords m s.rs)) } })
        ∧ (∀ old next rest, s.rs.buildList = old :: next :: rest → rest.length = 14 →
          (∃ r ∈ minuteRecords next s.rs, r.final = false) →
          takeMinuteKey key s = { s with rs := { s.rs with
            current := some key
            buildList := next :: rest ++ [m]
            minuteLost := bump s.rs.minuteLost
            discard := s.rs.discard || s.rs.build.isSome
            build := none } })

/-- The ROOT of the DRU is the square root of its radicand rounded to nearest: n + 1 when the radicand exceeds n² + n, n otherwise,
and it is what ROOT_COMPLETE delivers to the entry that asked for it. -/
def Obligations.RootIsNearest : Prop :=
  (∀ x : Nat, x < 2 ^ 56 →
      ∃ n, n * n ≤ x ∧ x < (n + 1) * (n + 1)
        ∧ (n * n + n < x → roundRoot x = n + 1) ∧ (x ≤ n * n + n → roundRoot x = n)
        ∧ (x ≤ 3 * 10 ^ 16 → roundRoot x ≤ 173205081))
    ∧ ∀ (s : State) (x left : Nat) (e : PendingEntry), s.powered = true →
        s.dru.current = some ⟨⟨.magnitude, .root x⟩, left⟩ → s.dru.queue = [] → s.mdm.list = [e] →
        s.mdm.root = some e.sequence → e.earlyF = none →
        exec .rootComplete s = .next { s with
          dru := { s.dru with current := none }
          mdm := { s.mdm with root := none, list := [{ e with magnitude := some (roundRoot x) }] } }

/-- A taken F outside 1..200,000,000 pT is rejected; one within, for a second later than every entry's, is held for 8 marks; one for no
entry's second and not later than all is unmatched. It is the early F of the entries of its second without |B|, and resolves those
with |B|: their records are FINAL with ΔF = |B| − F, MATCHED. ROOT_COMPLETE for an entry that holds an early F resolves it: the record
is FINAL with |B|, F and ΔF = |B| − F, MATCHED. The own F is written into the held record of its epoch and second, or pends for a
later one. -/
def Obligations.TakenFMatched : Prop :=
  (∀ (f : Int) (second : Second) (s : State),
      (f < 1 ∨ 200000000 < f → takeF f second s = { s with mdm := { s.mdm with rejected := bump s.mdm.rejected } })
      ∧ (1 ≤ f → f ≤ 200000000 → (∀ e ∈ s.mdm.list, 0 < signedDiff second e.second) →
          takeF f second s = { s with mdm := { s.mdm with
            latestF := some ⟨f, second, s.mdm.source⟩
            heldF := some ⟨f, second, 8⟩ } })
      ∧ (1 ≤ f → f ≤ 200000000 → (∀ e ∈ s.mdm.list, e.second ≠ second) →
          (∃ e ∈ s.mdm.list, signedDiff second e.second ≤ 0) →
          takeF f second s = { s with mdm := { s.mdm with
            latestF := some ⟨f, second, s.mdm.source⟩
            unmatched := bump s.mdm.unmatched } })
      ∧ (1 ≤ f → f ≤ 200000000 → (∃ e ∈ s.mdm.list, e.second = second) →
          (∀ e ∈ s.mdm.list, e.second = second → e.magnitude = none) →
          takeF f second s = { s with mdm := { s.mdm with
            latestF := some ⟨f, second, s.mdm.source⟩
            list := s.mdm.list.map (fun e => if e.second = second then { e with earlyF := some f } else e) } })
      ∧ (1 ≤ f → f ≤ 200000000 → (∃ e ∈ s.mdm.list, e.second = second) →
          (∀ e ∈ s.mdm.list, e.second = second → e.magnitude ≠ none) →
          (s.mdm.list.map PendingEntry.sequence).Nodup →
          ∃ t, takeF f second s = t
            ∧ t.mdm.list = s.mdm.list.filter (fun e => decide (e.second ≠ second))
            ∧ t.mdm.latestF = some ⟨f, second, s.mdm.source⟩ ∧ t.mdm.heldF = s.mdm.heldF
            ∧ (∀ e, s.mdm.list.filter (fun e => decide (e.second = second)) = [e] →
                t.mdm.matched = bump s.mdm.matched)
            ∧ (∀ e ∈ s.mdm.list, ∀ m, e.second = second → e.magnitude = some m → ∀ r ∈ t.rs.seconds,
                r.sequence = e.sequence → r.final = true ∧ r.magnitude = some m ∧ r.f = some f
                  ∧ r.deltaF = some (m - f) ∧ r.reason = some .matched)
            ∧ t = { s with mdm := t.mdm, rs := t.rs, bw := t.bw, dru := t.dru }))
    ∧ (∀ (f : FValue) (rs : RS),
      ((∃ r ∈ rs.seconds, r.epoch = f.epoch ∧ r.second = f.second) → storeOwnF f rs = { rs with
          seconds := rs.seconds.map (fun r =>
            if r.epoch = f.epoch ∧ r.second = f.second then { r with ownF := some f.value } else r) })
      ∧ ((∀ r ∈ rs.seconds, r.epoch ≠ f.epoch) → storeOwnF f rs = { rs with pendingF := some f })
      ∧ (∀ before newest after, rs.seconds = before ++ newest :: after → newest.epoch = f.epoch →
          (∀ r ∈ after, r.epoch ≠ f.epoch) → (∀ r ∈ rs.seconds, ¬ (r.epoch = f.epoch ∧ r.second = f.second)) →
          (0 < signedDiff f.second newest.second → storeOwnF f rs = { rs with pendingF := some f })
          ∧ (signedDiff f.second newest.second ≤ 0 → storeOwnF f rs = rs)))
    ∧ (∀ (s : State) (x left : Nat) (e : PendingEntry) (f : Int), s.powered = true →
      s.dru.current = some ⟨⟨.magnitude, .root x⟩, left⟩ → s.mdm.list = [e] → s.mdm.root = some e.sequence →
      e.earlyF = some f →
      ∃ t, exec .rootComplete s = .next t ∧ t.mdm.list = [] ∧ t.mdm.matched = bump s.mdm.matched
        ∧ (∀ r ∈ t.rs.seconds, r.sequence = e.sequence →
            r.final = true ∧ r.magnitude = some (roundRoot x : Int) ∧ r.f = some f
              ∧ r.deltaF = some ((roundRoot x : Int) - f) ∧ r.reason = some .matched)
        ∧ t = { s with mdm := t.mdm, rs := t.rs, bw := t.bw, dru := t.dru })

/-- SECOND_MARK at MDM, PENDING_EXPIRY and HELD_F_LAPSE: MDM takes its mark: the entries at their last mark leave and their records
are FINAL with reason NO_F, the others lose a mark, the AUTOMATIC source is evaluated anew, and a held F loses a mark and is gone at
its last or where the source changes. That PENDING_EXPIRY and HELD_F_LAPSE take MDM's waiting notice, or act with none waiting, is
the model's choice (log 6). -/
def Obligations.PendingEntriesExpire : Prop :=
  ∀ (s : State) (source : Source), s.powered = true →
    (automaticMode s.sul.image s.sul.stationId = false → source = s.mdm.source) →
    (automaticMode s.sul.image s.sul.stationId = true → source = automaticSource s.pt) →
    (s.mdm.list.map PendingEntry.sequence).Nodup →
    ((∃ e ∈ s.mdm.list, e.marks ≤ 1) →
        ∃ t, exec .pendingExpiry s = .next t
          ∧ t.mdm.list = (s.mdm.list.filter (fun e => decide (2 ≤ e.marks))).map
              (fun e => { e with marks := e.marks - 1 })
          ∧ t.mdm.source = source
          ∧ (∀ e ∈ s.mdm.list, e.marks ≤ 1 → ∀ r ∈ t.rs.seconds, r.sequence = e.sequence →
              r.final = true ∧ r.magnitude = e.magnitude ∧ r.f = none ∧ r.deltaF = none ∧ r.reason = some .noF)
          ∧ t = { s with
              notices := dropNotice .mdm s.notices
              mdm := t.mdm
              rs := t.rs
              bw := t.bw
              dru := t.dru })
    ∧ (countIsMark s.tb = true → ∃ marked, exec (.secondMark []) s = .next marked
        ∧ ((∃ e ∈ s.mdm.list, e.marks ≤ 1) → exec (.secondMark [.mdm]) s = exec .pendingExpiry marked)
        ∧ ((∀ e ∈ s.mdm.list, 2 ≤ e.marks) → s.mdm.expired ≤ 65535 → exec (.secondMark [.mdm]) s = .next { marked with
            notices := dropNotice .mdm marked.notices
            mdm := { s.mdm with
              list := s.mdm.list.map (fun e => { e with marks := e.marks - 1 })
              source := source
              heldF :=
                if source = s.mdm.source then
                  s.mdm.heldF.bind (fun h => if h.marks ≤ 1 then none else some { h with marks := h.marks - 1 })
                else none } }))
    ∧ (∀ h, s.mdm.heldF = some h → h.marks ≤ 1 → s.mdm.list = [] → s.mdm.expired ≤ 65535 →
        exec .heldFLapse s = .next { s with
          notices := dropNotice .mdm s.notices
          mdm := { s.mdm with heldF := none, source := source } })

/-! ## The baseline watch -/

/-- SECOND_MARK at BW and DISTURBED_TIME_EXCEEDED: in DISTURBED and EASING the disturbed time counts the mark. Past its maximum BW
reseeds: every baseline takes the axis's latest value, the state is QUIET, and BASELINE_RESEED is raised. In QUIET and ONSET the
mark leaves BW as it stands. That DISTURBED_TIME_EXCEEDED takes BW's waiting notice, or acts with none waiting, is the model's
choice (log 6). -/
def Obligations.DisturbedTimeReseeds : Prop :=
  ∀ s : State, s.powered = true →
    (s.bw.state = .disturbed ∨ s.bw.state = .easing → s.sul.image.maxDisturbed < s.bw.disturbedTime + 1 →
      exec .disturbedTimeExceeded s = .next (raiseEvent .baselineReseed s.tb.second { s with
        notices := dropNotice .bw s.notices
        bw := { s.bw with
          axes :=
            ⟨⟨s.bw.axes.x.latest, s.bw.axes.x.latest, none, none⟩,
              ⟨s.bw.axes.y.latest, s.bw.axes.y.latest, none, none⟩,
              ⟨s.bw.axes.z.latest, s.bw.axes.z.latest, none, none⟩⟩
          state := .quiet
          onsetRun := 0
          easeRun := 0
          disturbedTime := 0
          reseeds := bump s.bw.reseeds } }))
    ∧ (countIsMark s.tb = true → ∃ marked, exec (.secondMark []) s = .next marked
        ∧ (s.bw.state = .disturbed ∨ s.bw.state = .easing → s.bw.disturbedTime + 1 ≤ s.sul.image.maxDisturbed →
            exec (.secondMark [.bw]) s = .next { marked with
              notices := dropNotice .bw marked.notices
              bw := { s.bw with disturbedTime := s.bw.disturbedTime + 1 } })
        ∧ (s.bw.state = .disturbed ∨ s.bw.state = .easing → s.sul.image.maxDisturbed < s.bw.disturbedTime + 1 →
            exec (.secondMark [.bw]) s = exec .disturbedTimeExceeded marked)
        ∧ (s.bw.state = .quiet ∨ s.bw.state = .onset → exec (.secondMark [.bw]) s = .next { marked with
            notices := dropNotice .bw marked.notices }))

/-- A counting record moves a seeded axis's baseline by its share of the deviation in QUIET and ONSET, holds it beyond the watch
threshold and in DISTURBED and EASING, and seeds an unseeded axis; an axis absent from it keeps baseline, deviation and judgement.
An excluded record stores the latest values and is counted, and nothing else; an empty record leaves BW as it stands. -/
def Obligations.BaselinesFollow : Prop :=
  ∀ (flags : RecordFlags) (values : Axes (Option Int)) (second : Second) (s t : State),
    watchRecord flags values second s = t →
    (∀ a v, axisGet values a = some v → (axisGet t.bw.axes a).latest = some v)
    ∧ (flags.retuned = true ∨ flags.step = true ∨ flags.relabel = true →
        t = { s with bw := { s.bw with axes := t.bw.axes, excluded := bump s.bw.excluded } }
          ∧ ∀ a, axisGet t.bw.axes a
              = { axisGet s.bw.axes a with latest := (axisGet values a).or (axisGet s.bw.axes a).latest })
    ∧ (flags.retuned = false → flags.step = false → flags.relabel = false → (∀ a, axisGet values a = none) → t = s)
    ∧ (flags.retuned = false → flags.step = false → flags.relabel = false → ∀ a, axisGet values a = none →
        axisGet t.bw.axes a = axisGet s.bw.axes a)
    ∧ (flags.retuned = false → flags.step = false → flags.relabel = false → ∀ a v, axisGet values a = some v →
        ((axisGet s.bw.axes a).baseline = none →
            (axisGet t.bw.axes a).baseline = some v ∧ (axisGet t.bw.axes a).deviation = some 0
              ∧ (axisGet t.bw.axes a).judgement = some .quiet)
        ∧ (∀ l, (axisGet s.bw.axes a).baseline = some l →
            (axisGet t.bw.axes a).deviation = some (v - l)
            ∧ ((axisGet t.bw.axes a).judgement = some .active ↔ s.sul.image.watchThreshold < ((v - l).natAbs : Int))
            ∧ (s.bw.state = .disturbed ∨ s.bw.state = .easing → (axisGet t.bw.axes a).baseline = some l)
            ∧ (s.bw.state = .quiet ∨ s.bw.state = .onset → ((v - l).natAbs : Int) ≤ s.sul.image.fastBound →
                (axisGet t.bw.axes a).baseline = some (l + roundDiv (v - l) (2 ^ s.sul.image.slowBeta)))
            ∧ (s.bw.state = .quiet ∨ s.bw.state = .onset → s.sul.image.fastBound < ((v - l).natAbs : Int) →
                ((v - l).natAbs : Int) ≤ s.sul.image.watchThreshold →
                (axisGet t.bw.axes a).baseline = some (l + roundDiv (v - l) (2 ^ s.sul.image.fastBeta)))
            ∧ (s.sul.image.fastBound < ((v - l).natAbs : Int) →
                s.sul.image.watchThreshold < ((v - l).natAbs : Int) → (axisGet t.bw.axes a).baseline = some l)))

/-- A counting record moves the station state: with an active axis QUIET and ONSET go to DISTURBED at the required onset count, which is
1 when a peer heard and not STALE, with vector ability, announces DISTURBED; a record that passes the release test goes through
EASING to QUIET at the ease count. A present ΔF beyond the limit in three in a row starts an excursion, three within end it, and in
NORMAL the ΔF baseline follows by a sixty-fourth. -/
def Obligations.WatchStatesMove : Prop :=
  (∀ (flags : RecordFlags) (values : Axes (Option Int)) (second : Second) (s t : State) (active passes : Prop)
      (required : Nat),
      watchRecord flags values second s = t →
      flags.retuned = false → flags.step = false → flags.relabel = false → (∃ a, axisGet values a ≠ none) →
      1 ≤ s.sul.image.releaseThreshold →
      (active ↔ ∃ a v l, axisGet values a = some v ∧ (axisGet s.bw.axes a).baseline = some l
        ∧ s.sul.image.watchThreshold < ((v - l).natAbs : Int)) →
      (passes ↔ ∀ a v l, axisGet values a = some v → (axisGet s.bw.axes a).baseline = some l →
        ((v - l).natAbs : Int) < s.sul.image.releaseThreshold) →
      ((∃ e ∈ s.pt.entries, e.state ≠ .stale ∧ e.abilities.vector = true ∧ e.disturbance = .disturbed) →
        required = 1) →
      ((∀ e ∈ s.pt.entries, e.state = .stale ∨ e.abilities.vector = false ∨ e.disturbance ≠ .disturbed) →
        required = s.sul.image.onsetCount) →
      ∀ (run : Nat) (begins ends : Prop),
        (s.bw.state = .quiet → run = 1) → (s.bw.state = .onset → run = s.bw.onsetRun + 1) →
        (begins ↔ t.bw.state = .disturbed ∧ t.bw.onsetRun = 0 ∧ t.bw.disturbedTime = 0
          ∧ t.rs = (raiseEvent .disturbanceOnset second s).rs) →
        (ends ↔ t.bw.state = .quiet ∧ t.bw.easeRun = 0 ∧ t.bw.disturbedTime = 0
          ∧ t.rs = (raiseEvent .disturbanceEnd second s).rs) →
        t = { s with bw := t.bw, rs := t.rs }
        ∧ (s.bw.state = .quiet ∨ s.bw.state = .onset → active → required ≤ run → begins)
        ∧ (s.bw.state = .quiet ∨ s.bw.state = .onset → active → run < required →
            t.bw.state = .onset ∧ t.bw.onsetRun = run ∧ t.rs = s.rs)
        ∧ (s.bw.state = .quiet → ¬ active → t.bw.state = .quiet ∧ t.bw.onsetRun = s.bw.onsetRun ∧ t.rs = s.rs)
        ∧ (s.bw.state = .onset → ¬ active → t.bw.state = .quiet ∧ t.bw.onsetRun = 0 ∧ t.rs = s.rs)
        ∧ (s.bw.state = .disturbed → passes → s.sul.image.easeCount ≤ 1 → ends)
        ∧ (s.bw.state = .disturbed → passes → 1 < s.sul.image.easeCount →
            t.bw.state = .easing ∧ t.bw.easeRun = 1 ∧ t.bw.disturbedTime = s.bw.disturbedTime ∧ t.rs = s.rs)
        ∧ (s.bw.state = .disturbed → ¬ passes →
            t.bw.state = .disturbed ∧ t.bw.easeRun = s.bw.easeRun ∧ t.rs = s.rs)
        ∧ (s.bw.state = .easing → passes → s.sul.image.easeCount ≤ s.bw.easeRun + 1 → ends)
        ∧ (s.bw.state = .easing → passes → s.bw.easeRun + 1 < s.sul.image.easeCount →
            t.bw.state = .easing ∧ t.bw.easeRun = s.bw.easeRun + 1 ∧ t.rs = s.rs)
        ∧ (s.bw.state = .easing → ¬ passes →
            t.bw.state = .disturbed ∧ t.bw.easeRun = 0 ∧ t.bw.disturbedTime = s.bw.disturbedTime ∧ t.rs = s.rs))
    ∧ ∀ (second : Second) (s : State), watchDeltaF none second s = s
      ∧ ∀ df : Int,
        (s.bw.ldf = none → watchDeltaF (some df) second s = { s with bw := { s.bw with ldf := some df } })
        ∧ ∀ l, s.bw.ldf = some l →
          (s.bw.excursion = false → s.sul.image.deltaFLimit < ((df - l).natAbs : Int) →
            (s.bw.outside < 2 → watchDeltaF (some df) second s = { s with bw := { s.bw with
                outside := s.bw.outside + 1
                inside := 0
                ldf := some (l + roundDiv (df - l) 64) } })
            ∧ (2 ≤ s.bw.outside → watchDeltaF (some df) second s = raiseEvent .deltaFStart second { s with
                bw := { s.bw with excursion := true, outside := 0, inside := 0 } }))
          ∧ (s.bw.excursion = false → ((df - l).natAbs : Int) ≤ s.sul.image.deltaFLimit →
            watchDeltaF (some df) second s = { s with bw := { s.bw with
              outside := 0
              ldf := some (l + roundDiv (df - l) 64) } })
          ∧ (s.bw.excursion = true → ((df - l).natAbs : Int) ≤ s.sul.image.deltaFLimit →
            (s.bw.inside < 2 → watchDeltaF (some df) second s = { s with bw := { s.bw with
                inside := s.bw.inside + 1
                outside := 0 } })
            ∧ (2 ≤ s.bw.inside → watchDeltaF (some df) second s = raiseEvent .deltaFEnd second { s with
                bw := { s.bw with
                  excursion := false
                  outside := 0
                  inside := 0
                  ldf := some (l + roundDiv (df - l) 64) } }))
          ∧ (s.bw.excursion = true → s.sul.image.deltaFLimit < ((df - l).natAbs : Int) →
            watchDeltaF (some df) second s = { s with bw := { s.bw with inside := 0 } })

/-- An admitted event joins the newest end of the event list, which then loses its oldest beyond 8; one the mask does not admit
changes nothing. That bit code − 1 of the mask admits a kind is the model's choice (log 12). -/
def Obligations.EventsEnterList : Prop :=
  ∀ (k : EventKind) (second : Second) (s : State),
    (s.sul.image.eventMask.getLsbD (eventCode k - 1) = false → raiseEvent k second s = s)
    ∧ (s.sul.image.eventMask.getLsbD (eventCode k - 1) = true → s.rs.events.length < 8 →
        raiseEvent k second s = { s with rs := { s.rs with events := s.rs.events ++ [⟨k, second⟩] } })
    ∧ (∀ e rest, s.sul.image.eventMask.getLsbD (eventCode k - 1) = true → s.rs.events = e :: rest → rest.length = 7 →
        raiseEvent k second s = { s with rs := { s.rs with
          events := rest ++ [⟨k, second⟩]
          eventsLost := bump s.rs.eventsLost
          carried := s.rs.carried - 1 } })

/-! ## What every step keeps -/

/-- Every step keeps the stores of the node within their capacities, and the Peer Table with at most one entry at each position, none at
the node's own: at most 15 entries, and at most 14 on a node that has a station id. -/
def Obligations.StepKeepsCapacities : Prop :=
  (∀ s t : State, WithinCapacity s → step s = .next t → WithinCapacity t)
    ∧ ∀ s t : State, PeersInPosition s → step s = .next t →
      PeersInPosition t ∧ t.pt.entries.length ≤ 15 ∧ (t.sul.stationId ≠ 0 → t.pt.entries.length ≤ 14)

/-- Every step keeps the clock quantities within their ranges. -/
def Obligations.StepKeepsClockRanges : Prop :=
  ∀ s t : State, ClockInRange s → step s = .next t → ClockInRange t

/-- Every step keeps both rings runs of consecutive sequences, and no second of an epoch is recorded twice. -/
def Obligations.StepKeepsRings : Prop :=
  ∀ s t : State, SequencesConsecutive s → RecordsDistinct s → step s = .next t →
    SequencesConsecutive t ∧ RecordsDistinct t

/-- A FINAL record stays FINAL at every step that keeps it. -/
def Obligations.FinalStaysFinal : Prop :=
  ∀ s t : State, WithinCapacity s → SequencesConsecutive s → step s = .next t → FinalKept s t

/-- Every step keeps at most one sample of an instant in a second, and no record has an axis with more than 128. -/
def Obligations.StepKeepsSampleCounts : Prop :=
  ∀ s t : State, SamplesCounted s → step s = .next t → SamplesCounted t

/-- Every step keeps the peer entries in order, at most one slot SENDING, the compensation settings in range, and every counter within 16
bits, the missed total of each peer entry among them. -/
def Obligations.StepKeepsOrderAndRanges : Prop :=
  ∀ s t : State, PeersOrdered s → OneSlotSends s → SettingsInRange s → CountersFit s → step s = .next t →
    PeersOrdered t ∧ OneSlotSends t ∧ SettingsInRange t ∧ CountersFit t

/-- The state after reset meets every invariant of the statements above. -/
def Obligations.ResetMeetsInvariants : Prop :=
  WithinCapacity State.reset ∧ ClockInRange State.reset ∧ SequencesConsecutive State.reset
    ∧ RecordsDistinct State.reset ∧ SamplesCounted State.reset ∧ PeersOrdered State.reset
    ∧ PeersInPosition State.reset ∧ State.reset.sul.image.InRange
    ∧ OneSlotSends State.reset ∧ SettingsInRange State.reset ∧ CountersFit State.reset
end

