-- ==== Sys2Proof/Laws/State.lean ====
section
/-! SUPPORT. One lemma per field per update of `State`, so that no later proof unfolds a record update. -/

namespace Sys2Proof.Machine

@[simp] theorem State.setPowered_powered (s : State) (v : Bool) : (s.setPowered v).powered = v := rfl
@[simp] theorem State.setPowered_pins (s : State) (v : Bool) : (s.setPowered v).pins = s.pins := rfl
@[simp] theorem State.setPowered_ties (s : State) (v : Bool) : (s.setPowered v).ties = s.ties := rfl
@[simp] theorem State.setPowered_draws (s : State) (v : Bool) : (s.setPowered v).draws = s.draws := rfl
@[simp] theorem State.setPowered_notices (s : State) (v : Bool) : (s.setPowered v).notices = s.notices := rfl
@[simp] theorem State.setPowered_instants (s : State) (v : Bool) : (s.setPowered v).instants = s.instants := rfl
@[simp] theorem State.setPowered_lc (s : State) (v : Bool) : (s.setPowered v).lc = s.lc := rfl
@[simp] theorem State.setPowered_tb (s : State) (v : Bool) : (s.setPowered v).tb = s.tb := rfl
@[simp] theorem State.setPowered_pt (s : State) (v : Bool) : (s.setPowered v).pt = s.pt := rfl
@[simp] theorem State.setPowered_du (s : State) (v : Bool) : (s.setPowered v).du = s.du := rfl
@[simp] theorem State.setPowered_vfe (s : State) (v : Bool) : (s.setPowered v).vfe = s.vfe := rfl
@[simp] theorem State.setPowered_scn (s : State) (v : Bool) : (s.setPowered v).scn = s.scn := rfl
@[simp] theorem State.setPowered_tu (s : State) (v : Bool) : (s.setPowered v).tu = s.tu := rfl
@[simp] theorem State.setPowered_re (s : State) (v : Bool) : (s.setPowered v).re = s.re := rfl
@[simp] theorem State.setPowered_dru (s : State) (v : Bool) : (s.setPowered v).dru = s.dru := rfl
@[simp] theorem State.setPowered_mdm (s : State) (v : Bool) : (s.setPowered v).mdm = s.mdm := rfl
@[simp] theorem State.setPowered_bw (s : State) (v : Bool) : (s.setPowered v).bw = s.bw := rfl
@[simp] theorem State.setPowered_rs (s : State) (v : Bool) : (s.setPowered v).rs = s.rs := rfl
@[simp] theorem State.setPowered_sul (s : State) (v : Bool) : (s.setPowered v).sul = s.sul := rfl
@[simp] theorem State.setPowered_pending (s : State) (v : Bool) : (s.setPowered v).pending = s.pending := rfl

@[simp] theorem State.setPins_powered (s : State) (v : Pins) : (s.setPins v).powered = s.powered := rfl
@[simp] theorem State.setPins_pins (s : State) (v : Pins) : (s.setPins v).pins = v := rfl
@[simp] theorem State.setPins_ties (s : State) (v : Pins) : (s.setPins v).ties = s.ties := rfl
@[simp] theorem State.setPins_draws (s : State) (v : Pins) : (s.setPins v).draws = s.draws := rfl
@[simp] theorem State.setPins_notices (s : State) (v : Pins) : (s.setPins v).notices = s.notices := rfl
@[simp] theorem State.setPins_instants (s : State) (v : Pins) : (s.setPins v).instants = s.instants := rfl
@[simp] theorem State.setPins_lc (s : State) (v : Pins) : (s.setPins v).lc = s.lc := rfl
@[simp] theorem State.setPins_tb (s : State) (v : Pins) : (s.setPins v).tb = s.tb := rfl
@[simp] theorem State.setPins_pt (s : State) (v : Pins) : (s.setPins v).pt = s.pt := rfl
@[simp] theorem State.setPins_du (s : State) (v : Pins) : (s.setPins v).du = s.du := rfl
@[simp] theorem State.setPins_vfe (s : State) (v : Pins) : (s.setPins v).vfe = s.vfe := rfl
@[simp] theorem State.setPins_scn (s : State) (v : Pins) : (s.setPins v).scn = s.scn := rfl
@[simp] theorem State.setPins_tu (s : State) (v : Pins) : (s.setPins v).tu = s.tu := rfl
@[simp] theorem State.setPins_re (s : State) (v : Pins) : (s.setPins v).re = s.re := rfl
@[simp] theorem State.setPins_dru (s : State) (v : Pins) : (s.setPins v).dru = s.dru := rfl
@[simp] theorem State.setPins_mdm (s : State) (v : Pins) : (s.setPins v).mdm = s.mdm := rfl
@[simp] theorem State.setPins_bw (s : State) (v : Pins) : (s.setPins v).bw = s.bw := rfl
@[simp] theorem State.setPins_rs (s : State) (v : Pins) : (s.setPins v).rs = s.rs := rfl
@[simp] theorem State.setPins_sul (s : State) (v : Pins) : (s.setPins v).sul = s.sul := rfl
@[simp] theorem State.setPins_pending (s : State) (v : Pins) : (s.setPins v).pending = s.pending := rfl

@[simp] theorem State.setDraws_powered (s : State) (v : Nat) : (s.setDraws v).powered = s.powered := rfl
@[simp] theorem State.setDraws_pins (s : State) (v : Nat) : (s.setDraws v).pins = s.pins := rfl
@[simp] theorem State.setDraws_ties (s : State) (v : Nat) : (s.setDraws v).ties = s.ties := rfl
@[simp] theorem State.setDraws_draws (s : State) (v : Nat) : (s.setDraws v).draws = v := rfl
@[simp] theorem State.setDraws_notices (s : State) (v : Nat) : (s.setDraws v).notices = s.notices := rfl
@[simp] theorem State.setDraws_instants (s : State) (v : Nat) : (s.setDraws v).instants = s.instants := rfl
@[simp] theorem State.setDraws_lc (s : State) (v : Nat) : (s.setDraws v).lc = s.lc := rfl
@[simp] theorem State.setDraws_tb (s : State) (v : Nat) : (s.setDraws v).tb = s.tb := rfl
@[simp] theorem State.setDraws_pt (s : State) (v : Nat) : (s.setDraws v).pt = s.pt := rfl
@[simp] theorem State.setDraws_du (s : State) (v : Nat) : (s.setDraws v).du = s.du := rfl
@[simp] theorem State.setDraws_vfe (s : State) (v : Nat) : (s.setDraws v).vfe = s.vfe := rfl
@[simp] theorem State.setDraws_scn (s : State) (v : Nat) : (s.setDraws v).scn = s.scn := rfl
@[simp] theorem State.setDraws_tu (s : State) (v : Nat) : (s.setDraws v).tu = s.tu := rfl
@[simp] theorem State.setDraws_re (s : State) (v : Nat) : (s.setDraws v).re = s.re := rfl
@[simp] theorem State.setDraws_dru (s : State) (v : Nat) : (s.setDraws v).dru = s.dru := rfl
@[simp] theorem State.setDraws_mdm (s : State) (v : Nat) : (s.setDraws v).mdm = s.mdm := rfl
@[simp] theorem State.setDraws_bw (s : State) (v : Nat) : (s.setDraws v).bw = s.bw := rfl
@[simp] theorem State.setDraws_rs (s : State) (v : Nat) : (s.setDraws v).rs = s.rs := rfl
@[simp] theorem State.setDraws_sul (s : State) (v : Nat) : (s.setDraws v).sul = s.sul := rfl
@[simp] theorem State.setDraws_pending (s : State) (v : Nat) : (s.setDraws v).pending = s.pending := rfl

@[simp] theorem State.setNotices_powered (s : State) (v : List MarkNotice) : (s.setNotices v).powered = s.powered := rfl
@[simp] theorem State.setNotices_pins (s : State) (v : List MarkNotice) : (s.setNotices v).pins = s.pins := rfl
@[simp] theorem State.setNotices_ties (s : State) (v : List MarkNotice) : (s.setNotices v).ties = s.ties := rfl
@[simp] theorem State.setNotices_draws (s : State) (v : List MarkNotice) : (s.setNotices v).draws = s.draws := rfl
@[simp] theorem State.setNotices_notices (s : State) (v : List MarkNotice) : (s.setNotices v).notices = v := rfl
@[simp] theorem State.setNotices_instants (s : State) (v : List MarkNotice) : (s.setNotices v).instants = s.instants := rfl
@[simp] theorem State.setNotices_lc (s : State) (v : List MarkNotice) : (s.setNotices v).lc = s.lc := rfl
@[simp] theorem State.setNotices_tb (s : State) (v : List MarkNotice) : (s.setNotices v).tb = s.tb := rfl
@[simp] theorem State.setNotices_pt (s : State) (v : List MarkNotice) : (s.setNotices v).pt = s.pt := rfl
@[simp] theorem State.setNotices_du (s : State) (v : List MarkNotice) : (s.setNotices v).du = s.du := rfl
@[simp] theorem State.setNotices_vfe (s : State) (v : List MarkNotice) : (s.setNotices v).vfe = s.vfe := rfl
@[simp] theorem State.setNotices_scn (s : State) (v : List MarkNotice) : (s.setNotices v).scn = s.scn := rfl
@[simp] theorem State.setNotices_tu (s : State) (v : List MarkNotice) : (s.setNotices v).tu = s.tu := rfl
@[simp] theorem State.setNotices_re (s : State) (v : List MarkNotice) : (s.setNotices v).re = s.re := rfl
@[simp] theorem State.setNotices_dru (s : State) (v : List MarkNotice) : (s.setNotices v).dru = s.dru := rfl
@[simp] theorem State.setNotices_mdm (s : State) (v : List MarkNotice) : (s.setNotices v).mdm = s.mdm := rfl
@[simp] theorem State.setNotices_bw (s : State) (v : List MarkNotice) : (s.setNotices v).bw = s.bw := rfl
@[simp] theorem State.setNotices_rs (s : State) (v : List MarkNotice) : (s.setNotices v).rs = s.rs := rfl
@[simp] theorem State.setNotices_sul (s : State) (v : List MarkNotice) : (s.setNotices v).sul = s.sul := rfl
@[simp] theorem State.setNotices_pending (s : State) (v : List MarkNotice) : (s.setNotices v).pending = s.pending := rfl

@[simp] theorem State.setInstants_powered (s : State) (v : List InstantNotice) : (s.setInstants v).powered = s.powered := rfl
@[simp] theorem State.setInstants_pins (s : State) (v : List InstantNotice) : (s.setInstants v).pins = s.pins := rfl
@[simp] theorem State.setInstants_ties (s : State) (v : List InstantNotice) : (s.setInstants v).ties = s.ties := rfl
@[simp] theorem State.setInstants_draws (s : State) (v : List InstantNotice) : (s.setInstants v).draws = s.draws := rfl
@[simp] theorem State.setInstants_notices (s : State) (v : List InstantNotice) : (s.setInstants v).notices = s.notices := rfl
@[simp] theorem State.setInstants_instants (s : State) (v : List InstantNotice) : (s.setInstants v).instants = v := rfl
@[simp] theorem State.setInstants_lc (s : State) (v : List InstantNotice) : (s.setInstants v).lc = s.lc := rfl
@[simp] theorem State.setInstants_tb (s : State) (v : List InstantNotice) : (s.setInstants v).tb = s.tb := rfl
@[simp] theorem State.setInstants_pt (s : State) (v : List InstantNotice) : (s.setInstants v).pt = s.pt := rfl
@[simp] theorem State.setInstants_du (s : State) (v : List InstantNotice) : (s.setInstants v).du = s.du := rfl
@[simp] theorem State.setInstants_vfe (s : State) (v : List InstantNotice) : (s.setInstants v).vfe = s.vfe := rfl
@[simp] theorem State.setInstants_scn (s : State) (v : List InstantNotice) : (s.setInstants v).scn = s.scn := rfl
@[simp] theorem State.setInstants_tu (s : State) (v : List InstantNotice) : (s.setInstants v).tu = s.tu := rfl
@[simp] theorem State.setInstants_re (s : State) (v : List InstantNotice) : (s.setInstants v).re = s.re := rfl
@[simp] theorem State.setInstants_dru (s : State) (v : List InstantNotice) : (s.setInstants v).dru = s.dru := rfl
@[simp] theorem State.setInstants_mdm (s : State) (v : List InstantNotice) : (s.setInstants v).mdm = s.mdm := rfl
@[simp] theorem State.setInstants_bw (s : State) (v : List InstantNotice) : (s.setInstants v).bw = s.bw := rfl
@[simp] theorem State.setInstants_rs (s : State) (v : List InstantNotice) : (s.setInstants v).rs = s.rs := rfl
@[simp] theorem State.setInstants_sul (s : State) (v : List InstantNotice) : (s.setInstants v).sul = s.sul := rfl
@[simp] theorem State.setInstants_pending (s : State) (v : List InstantNotice) : (s.setInstants v).pending = s.pending := rfl

@[simp] theorem State.setLc_powered (s : State) (v : LC) : (s.setLc v).powered = s.powered := rfl
@[simp] theorem State.setLc_pins (s : State) (v : LC) : (s.setLc v).pins = s.pins := rfl
@[simp] theorem State.setLc_ties (s : State) (v : LC) : (s.setLc v).ties = s.ties := rfl
@[simp] theorem State.setLc_draws (s : State) (v : LC) : (s.setLc v).draws = s.draws := rfl
@[simp] theorem State.setLc_notices (s : State) (v : LC) : (s.setLc v).notices = s.notices := rfl
@[simp] theorem State.setLc_instants (s : State) (v : LC) : (s.setLc v).instants = s.instants := rfl
@[simp] theorem State.setLc_lc (s : State) (v : LC) : (s.setLc v).lc = v := rfl
@[simp] theorem State.setLc_tb (s : State) (v : LC) : (s.setLc v).tb = s.tb := rfl
@[simp] theorem State.setLc_pt (s : State) (v : LC) : (s.setLc v).pt = s.pt := rfl
@[simp] theorem State.setLc_du (s : State) (v : LC) : (s.setLc v).du = s.du := rfl
@[simp] theorem State.setLc_vfe (s : State) (v : LC) : (s.setLc v).vfe = s.vfe := rfl
@[simp] theorem State.setLc_scn (s : State) (v : LC) : (s.setLc v).scn = s.scn := rfl
@[simp] theorem State.setLc_tu (s : State) (v : LC) : (s.setLc v).tu = s.tu := rfl
@[simp] theorem State.setLc_re (s : State) (v : LC) : (s.setLc v).re = s.re := rfl
@[simp] theorem State.setLc_dru (s : State) (v : LC) : (s.setLc v).dru = s.dru := rfl
@[simp] theorem State.setLc_mdm (s : State) (v : LC) : (s.setLc v).mdm = s.mdm := rfl
@[simp] theorem State.setLc_bw (s : State) (v : LC) : (s.setLc v).bw = s.bw := rfl
@[simp] theorem State.setLc_rs (s : State) (v : LC) : (s.setLc v).rs = s.rs := rfl
@[simp] theorem State.setLc_sul (s : State) (v : LC) : (s.setLc v).sul = s.sul := rfl
@[simp] theorem State.setLc_pending (s : State) (v : LC) : (s.setLc v).pending = s.pending := rfl

@[simp] theorem State.setTb_powered (s : State) (v : TB) : (s.setTb v).powered = s.powered := rfl
@[simp] theorem State.setTb_pins (s : State) (v : TB) : (s.setTb v).pins = s.pins := rfl
@[simp] theorem State.setTb_ties (s : State) (v : TB) : (s.setTb v).ties = s.ties := rfl
@[simp] theorem State.setTb_draws (s : State) (v : TB) : (s.setTb v).draws = s.draws := rfl
@[simp] theorem State.setTb_notices (s : State) (v : TB) : (s.setTb v).notices = s.notices := rfl
@[simp] theorem State.setTb_instants (s : State) (v : TB) : (s.setTb v).instants = s.instants := rfl
@[simp] theorem State.setTb_lc (s : State) (v : TB) : (s.setTb v).lc = s.lc := rfl
@[simp] theorem State.setTb_tb (s : State) (v : TB) : (s.setTb v).tb = v := rfl
@[simp] theorem State.setTb_pt (s : State) (v : TB) : (s.setTb v).pt = s.pt := rfl
@[simp] theorem State.setTb_du (s : State) (v : TB) : (s.setTb v).du = s.du := rfl
@[simp] theorem State.setTb_vfe (s : State) (v : TB) : (s.setTb v).vfe = s.vfe := rfl
@[simp] theorem State.setTb_scn (s : State) (v : TB) : (s.setTb v).scn = s.scn := rfl
@[simp] theorem State.setTb_tu (s : State) (v : TB) : (s.setTb v).tu = s.tu := rfl
@[simp] theorem State.setTb_re (s : State) (v : TB) : (s.setTb v).re = s.re := rfl
@[simp] theorem State.setTb_dru (s : State) (v : TB) : (s.setTb v).dru = s.dru := rfl
@[simp] theorem State.setTb_mdm (s : State) (v : TB) : (s.setTb v).mdm = s.mdm := rfl
@[simp] theorem State.setTb_bw (s : State) (v : TB) : (s.setTb v).bw = s.bw := rfl
@[simp] theorem State.setTb_rs (s : State) (v : TB) : (s.setTb v).rs = s.rs := rfl
@[simp] theorem State.setTb_sul (s : State) (v : TB) : (s.setTb v).sul = s.sul := rfl
@[simp] theorem State.setTb_pending (s : State) (v : TB) : (s.setTb v).pending = s.pending := rfl

@[simp] theorem State.setPt_powered (s : State) (v : PT) : (s.setPt v).powered = s.powered := rfl
@[simp] theorem State.setPt_pins (s : State) (v : PT) : (s.setPt v).pins = s.pins := rfl
@[simp] theorem State.setPt_ties (s : State) (v : PT) : (s.setPt v).ties = s.ties := rfl
@[simp] theorem State.setPt_draws (s : State) (v : PT) : (s.setPt v).draws = s.draws := rfl
@[simp] theorem State.setPt_notices (s : State) (v : PT) : (s.setPt v).notices = s.notices := rfl
@[simp] theorem State.setPt_instants (s : State) (v : PT) : (s.setPt v).instants = s.instants := rfl
@[simp] theorem State.setPt_lc (s : State) (v : PT) : (s.setPt v).lc = s.lc := rfl
@[simp] theorem State.setPt_tb (s : State) (v : PT) : (s.setPt v).tb = s.tb := rfl
@[simp] theorem State.setPt_pt (s : State) (v : PT) : (s.setPt v).pt = v := rfl
@[simp] theorem State.setPt_du (s : State) (v : PT) : (s.setPt v).du = s.du := rfl
@[simp] theorem State.setPt_vfe (s : State) (v : PT) : (s.setPt v).vfe = s.vfe := rfl
@[simp] theorem State.setPt_scn (s : State) (v : PT) : (s.setPt v).scn = s.scn := rfl
@[simp] theorem State.setPt_tu (s : State) (v : PT) : (s.setPt v).tu = s.tu := rfl
@[simp] theorem State.setPt_re (s : State) (v : PT) : (s.setPt v).re = s.re := rfl
@[simp] theorem State.setPt_dru (s : State) (v : PT) : (s.setPt v).dru = s.dru := rfl
@[simp] theorem State.setPt_mdm (s : State) (v : PT) : (s.setPt v).mdm = s.mdm := rfl
@[simp] theorem State.setPt_bw (s : State) (v : PT) : (s.setPt v).bw = s.bw := rfl
@[simp] theorem State.setPt_rs (s : State) (v : PT) : (s.setPt v).rs = s.rs := rfl
@[simp] theorem State.setPt_sul (s : State) (v : PT) : (s.setPt v).sul = s.sul := rfl
@[simp] theorem State.setPt_pending (s : State) (v : PT) : (s.setPt v).pending = s.pending := rfl

@[simp] theorem State.setDu_powered (s : State) (v : DU) : (s.setDu v).powered = s.powered := rfl
@[simp] theorem State.setDu_pins (s : State) (v : DU) : (s.setDu v).pins = s.pins := rfl
@[simp] theorem State.setDu_ties (s : State) (v : DU) : (s.setDu v).ties = s.ties := rfl
@[simp] theorem State.setDu_draws (s : State) (v : DU) : (s.setDu v).draws = s.draws := rfl
@[simp] theorem State.setDu_notices (s : State) (v : DU) : (s.setDu v).notices = s.notices := rfl
@[simp] theorem State.setDu_instants (s : State) (v : DU) : (s.setDu v).instants = s.instants := rfl
@[simp] theorem State.setDu_lc (s : State) (v : DU) : (s.setDu v).lc = s.lc := rfl
@[simp] theorem State.setDu_tb (s : State) (v : DU) : (s.setDu v).tb = s.tb := rfl
@[simp] theorem State.setDu_pt (s : State) (v : DU) : (s.setDu v).pt = s.pt := rfl
@[simp] theorem State.setDu_du (s : State) (v : DU) : (s.setDu v).du = v := rfl
@[simp] theorem State.setDu_vfe (s : State) (v : DU) : (s.setDu v).vfe = s.vfe := rfl
@[simp] theorem State.setDu_scn (s : State) (v : DU) : (s.setDu v).scn = s.scn := rfl
@[simp] theorem State.setDu_tu (s : State) (v : DU) : (s.setDu v).tu = s.tu := rfl
@[simp] theorem State.setDu_re (s : State) (v : DU) : (s.setDu v).re = s.re := rfl
@[simp] theorem State.setDu_dru (s : State) (v : DU) : (s.setDu v).dru = s.dru := rfl
@[simp] theorem State.setDu_mdm (s : State) (v : DU) : (s.setDu v).mdm = s.mdm := rfl
@[simp] theorem State.setDu_bw (s : State) (v : DU) : (s.setDu v).bw = s.bw := rfl
@[simp] theorem State.setDu_rs (s : State) (v : DU) : (s.setDu v).rs = s.rs := rfl
@[simp] theorem State.setDu_sul (s : State) (v : DU) : (s.setDu v).sul = s.sul := rfl
@[simp] theorem State.setDu_pending (s : State) (v : DU) : (s.setDu v).pending = s.pending := rfl

@[simp] theorem State.setVfe_powered (s : State) (v : VFE) : (s.setVfe v).powered = s.powered := rfl
@[simp] theorem State.setVfe_pins (s : State) (v : VFE) : (s.setVfe v).pins = s.pins := rfl
@[simp] theorem State.setVfe_ties (s : State) (v : VFE) : (s.setVfe v).ties = s.ties := rfl
@[simp] theorem State.setVfe_draws (s : State) (v : VFE) : (s.setVfe v).draws = s.draws := rfl
@[simp] theorem State.setVfe_notices (s : State) (v : VFE) : (s.setVfe v).notices = s.notices := rfl
@[simp] theorem State.setVfe_instants (s : State) (v : VFE) : (s.setVfe v).instants = s.instants := rfl
@[simp] theorem State.setVfe_lc (s : State) (v : VFE) : (s.setVfe v).lc = s.lc := rfl
@[simp] theorem State.setVfe_tb (s : State) (v : VFE) : (s.setVfe v).tb = s.tb := rfl
@[simp] theorem State.setVfe_pt (s : State) (v : VFE) : (s.setVfe v).pt = s.pt := rfl
@[simp] theorem State.setVfe_du (s : State) (v : VFE) : (s.setVfe v).du = s.du := rfl
@[simp] theorem State.setVfe_vfe (s : State) (v : VFE) : (s.setVfe v).vfe = v := rfl
@[simp] theorem State.setVfe_scn (s : State) (v : VFE) : (s.setVfe v).scn = s.scn := rfl
@[simp] theorem State.setVfe_tu (s : State) (v : VFE) : (s.setVfe v).tu = s.tu := rfl
@[simp] theorem State.setVfe_re (s : State) (v : VFE) : (s.setVfe v).re = s.re := rfl
@[simp] theorem State.setVfe_dru (s : State) (v : VFE) : (s.setVfe v).dru = s.dru := rfl
@[simp] theorem State.setVfe_mdm (s : State) (v : VFE) : (s.setVfe v).mdm = s.mdm := rfl
@[simp] theorem State.setVfe_bw (s : State) (v : VFE) : (s.setVfe v).bw = s.bw := rfl
@[simp] theorem State.setVfe_rs (s : State) (v : VFE) : (s.setVfe v).rs = s.rs := rfl
@[simp] theorem State.setVfe_sul (s : State) (v : VFE) : (s.setVfe v).sul = s.sul := rfl
@[simp] theorem State.setVfe_pending (s : State) (v : VFE) : (s.setVfe v).pending = s.pending := rfl

@[simp] theorem State.setScn_powered (s : State) (v : SCN) : (s.setScn v).powered = s.powered := rfl
@[simp] theorem State.setScn_pins (s : State) (v : SCN) : (s.setScn v).pins = s.pins := rfl
@[simp] theorem State.setScn_ties (s : State) (v : SCN) : (s.setScn v).ties = s.ties := rfl
@[simp] theorem State.setScn_draws (s : State) (v : SCN) : (s.setScn v).draws = s.draws := rfl
@[simp] theorem State.setScn_notices (s : State) (v : SCN) : (s.setScn v).notices = s.notices := rfl
@[simp] theorem State.setScn_instants (s : State) (v : SCN) : (s.setScn v).instants = s.instants := rfl
@[simp] theorem State.setScn_lc (s : State) (v : SCN) : (s.setScn v).lc = s.lc := rfl
@[simp] theorem State.setScn_tb (s : State) (v : SCN) : (s.setScn v).tb = s.tb := rfl
@[simp] theorem State.setScn_pt (s : State) (v : SCN) : (s.setScn v).pt = s.pt := rfl
@[simp] theorem State.setScn_du (s : State) (v : SCN) : (s.setScn v).du = s.du := rfl
@[simp] theorem State.setScn_vfe (s : State) (v : SCN) : (s.setScn v).vfe = s.vfe := rfl
@[simp] theorem State.setScn_scn (s : State) (v : SCN) : (s.setScn v).scn = v := rfl
@[simp] theorem State.setScn_tu (s : State) (v : SCN) : (s.setScn v).tu = s.tu := rfl
@[simp] theorem State.setScn_re (s : State) (v : SCN) : (s.setScn v).re = s.re := rfl
@[simp] theorem State.setScn_dru (s : State) (v : SCN) : (s.setScn v).dru = s.dru := rfl
@[simp] theorem State.setScn_mdm (s : State) (v : SCN) : (s.setScn v).mdm = s.mdm := rfl
@[simp] theorem State.setScn_bw (s : State) (v : SCN) : (s.setScn v).bw = s.bw := rfl
@[simp] theorem State.setScn_rs (s : State) (v : SCN) : (s.setScn v).rs = s.rs := rfl
@[simp] theorem State.setScn_sul (s : State) (v : SCN) : (s.setScn v).sul = s.sul := rfl
@[simp] theorem State.setScn_pending (s : State) (v : SCN) : (s.setScn v).pending = s.pending := rfl

@[simp] theorem State.setTu_powered (s : State) (v : TU) : (s.setTu v).powered = s.powered := rfl
@[simp] theorem State.setTu_pins (s : State) (v : TU) : (s.setTu v).pins = s.pins := rfl
@[simp] theorem State.setTu_ties (s : State) (v : TU) : (s.setTu v).ties = s.ties := rfl
@[simp] theorem State.setTu_draws (s : State) (v : TU) : (s.setTu v).draws = s.draws := rfl
@[simp] theorem State.setTu_notices (s : State) (v : TU) : (s.setTu v).notices = s.notices := rfl
@[simp] theorem State.setTu_instants (s : State) (v : TU) : (s.setTu v).instants = s.instants := rfl
@[simp] theorem State.setTu_lc (s : State) (v : TU) : (s.setTu v).lc = s.lc := rfl
@[simp] theorem State.setTu_tb (s : State) (v : TU) : (s.setTu v).tb = s.tb := rfl
@[simp] theorem State.setTu_pt (s : State) (v : TU) : (s.setTu v).pt = s.pt := rfl
@[simp] theorem State.setTu_du (s : State) (v : TU) : (s.setTu v).du = s.du := rfl
@[simp] theorem State.setTu_vfe (s : State) (v : TU) : (s.setTu v).vfe = s.vfe := rfl
@[simp] theorem State.setTu_scn (s : State) (v : TU) : (s.setTu v).scn = s.scn := rfl
@[simp] theorem State.setTu_tu (s : State) (v : TU) : (s.setTu v).tu = v := rfl
@[simp] theorem State.setTu_re (s : State) (v : TU) : (s.setTu v).re = s.re := rfl
@[simp] theorem State.setTu_dru (s : State) (v : TU) : (s.setTu v).dru = s.dru := rfl
@[simp] theorem State.setTu_mdm (s : State) (v : TU) : (s.setTu v).mdm = s.mdm := rfl
@[simp] theorem State.setTu_bw (s : State) (v : TU) : (s.setTu v).bw = s.bw := rfl
@[simp] theorem State.setTu_rs (s : State) (v : TU) : (s.setTu v).rs = s.rs := rfl
@[simp] theorem State.setTu_sul (s : State) (v : TU) : (s.setTu v).sul = s.sul := rfl
@[simp] theorem State.setTu_pending (s : State) (v : TU) : (s.setTu v).pending = s.pending := rfl

@[simp] theorem State.setRe_powered (s : State) (v : RE) : (s.setRe v).powered = s.powered := rfl
@[simp] theorem State.setRe_pins (s : State) (v : RE) : (s.setRe v).pins = s.pins := rfl
@[simp] theorem State.setRe_ties (s : State) (v : RE) : (s.setRe v).ties = s.ties := rfl
@[simp] theorem State.setRe_draws (s : State) (v : RE) : (s.setRe v).draws = s.draws := rfl
@[simp] theorem State.setRe_notices (s : State) (v : RE) : (s.setRe v).notices = s.notices := rfl
@[simp] theorem State.setRe_instants (s : State) (v : RE) : (s.setRe v).instants = s.instants := rfl
@[simp] theorem State.setRe_lc (s : State) (v : RE) : (s.setRe v).lc = s.lc := rfl
@[simp] theorem State.setRe_tb (s : State) (v : RE) : (s.setRe v).tb = s.tb := rfl
@[simp] theorem State.setRe_pt (s : State) (v : RE) : (s.setRe v).pt = s.pt := rfl
@[simp] theorem State.setRe_du (s : State) (v : RE) : (s.setRe v).du = s.du := rfl
@[simp] theorem State.setRe_vfe (s : State) (v : RE) : (s.setRe v).vfe = s.vfe := rfl
@[simp] theorem State.setRe_scn (s : State) (v : RE) : (s.setRe v).scn = s.scn := rfl
@[simp] theorem State.setRe_tu (s : State) (v : RE) : (s.setRe v).tu = s.tu := rfl
@[simp] theorem State.setRe_re (s : State) (v : RE) : (s.setRe v).re = v := rfl
@[simp] theorem State.setRe_dru (s : State) (v : RE) : (s.setRe v).dru = s.dru := rfl
@[simp] theorem State.setRe_mdm (s : State) (v : RE) : (s.setRe v).mdm = s.mdm := rfl
@[simp] theorem State.setRe_bw (s : State) (v : RE) : (s.setRe v).bw = s.bw := rfl
@[simp] theorem State.setRe_rs (s : State) (v : RE) : (s.setRe v).rs = s.rs := rfl
@[simp] theorem State.setRe_sul (s : State) (v : RE) : (s.setRe v).sul = s.sul := rfl
@[simp] theorem State.setRe_pending (s : State) (v : RE) : (s.setRe v).pending = s.pending := rfl

@[simp] theorem State.setDru_powered (s : State) (v : DRU) : (s.setDru v).powered = s.powered := rfl
@[simp] theorem State.setDru_pins (s : State) (v : DRU) : (s.setDru v).pins = s.pins := rfl
@[simp] theorem State.setDru_ties (s : State) (v : DRU) : (s.setDru v).ties = s.ties := rfl
@[simp] theorem State.setDru_draws (s : State) (v : DRU) : (s.setDru v).draws = s.draws := rfl
@[simp] theorem State.setDru_notices (s : State) (v : DRU) : (s.setDru v).notices = s.notices := rfl
@[simp] theorem State.setDru_instants (s : State) (v : DRU) : (s.setDru v).instants = s.instants := rfl
@[simp] theorem State.setDru_lc (s : State) (v : DRU) : (s.setDru v).lc = s.lc := rfl
@[simp] theorem State.setDru_tb (s : State) (v : DRU) : (s.setDru v).tb = s.tb := rfl
@[simp] theorem State.setDru_pt (s : State) (v : DRU) : (s.setDru v).pt = s.pt := rfl
@[simp] theorem State.setDru_du (s : State) (v : DRU) : (s.setDru v).du = s.du := rfl
@[simp] theorem State.setDru_vfe (s : State) (v : DRU) : (s.setDru v).vfe = s.vfe := rfl
@[simp] theorem State.setDru_scn (s : State) (v : DRU) : (s.setDru v).scn = s.scn := rfl
@[simp] theorem State.setDru_tu (s : State) (v : DRU) : (s.setDru v).tu = s.tu := rfl
@[simp] theorem State.setDru_re (s : State) (v : DRU) : (s.setDru v).re = s.re := rfl
@[simp] theorem State.setDru_dru (s : State) (v : DRU) : (s.setDru v).dru = v := rfl
@[simp] theorem State.setDru_mdm (s : State) (v : DRU) : (s.setDru v).mdm = s.mdm := rfl
@[simp] theorem State.setDru_bw (s : State) (v : DRU) : (s.setDru v).bw = s.bw := rfl
@[simp] theorem State.setDru_rs (s : State) (v : DRU) : (s.setDru v).rs = s.rs := rfl
@[simp] theorem State.setDru_sul (s : State) (v : DRU) : (s.setDru v).sul = s.sul := rfl
@[simp] theorem State.setDru_pending (s : State) (v : DRU) : (s.setDru v).pending = s.pending := rfl

@[simp] theorem State.setMdm_powered (s : State) (v : MDM) : (s.setMdm v).powered = s.powered := rfl
@[simp] theorem State.setMdm_pins (s : State) (v : MDM) : (s.setMdm v).pins = s.pins := rfl
@[simp] theorem State.setMdm_ties (s : State) (v : MDM) : (s.setMdm v).ties = s.ties := rfl
@[simp] theorem State.setMdm_draws (s : State) (v : MDM) : (s.setMdm v).draws = s.draws := rfl
@[simp] theorem State.setMdm_notices (s : State) (v : MDM) : (s.setMdm v).notices = s.notices := rfl
@[simp] theorem State.setMdm_instants (s : State) (v : MDM) : (s.setMdm v).instants = s.instants := rfl
@[simp] theorem State.setMdm_lc (s : State) (v : MDM) : (s.setMdm v).lc = s.lc := rfl
@[simp] theorem State.setMdm_tb (s : State) (v : MDM) : (s.setMdm v).tb = s.tb := rfl
@[simp] theorem State.setMdm_pt (s : State) (v : MDM) : (s.setMdm v).pt = s.pt := rfl
@[simp] theorem State.setMdm_du (s : State) (v : MDM) : (s.setMdm v).du = s.du := rfl
@[simp] theorem State.setMdm_vfe (s : State) (v : MDM) : (s.setMdm v).vfe = s.vfe := rfl
@[simp] theorem State.setMdm_scn (s : State) (v : MDM) : (s.setMdm v).scn = s.scn := rfl
@[simp] theorem State.setMdm_tu (s : State) (v : MDM) : (s.setMdm v).tu = s.tu := rfl
@[simp] theorem State.setMdm_re (s : State) (v : MDM) : (s.setMdm v).re = s.re := rfl
@[simp] theorem State.setMdm_dru (s : State) (v : MDM) : (s.setMdm v).dru = s.dru := rfl
@[simp] theorem State.setMdm_mdm (s : State) (v : MDM) : (s.setMdm v).mdm = v := rfl
@[simp] theorem State.setMdm_bw (s : State) (v : MDM) : (s.setMdm v).bw = s.bw := rfl
@[simp] theorem State.setMdm_rs (s : State) (v : MDM) : (s.setMdm v).rs = s.rs := rfl
@[simp] theorem State.setMdm_sul (s : State) (v : MDM) : (s.setMdm v).sul = s.sul := rfl
@[simp] theorem State.setMdm_pending (s : State) (v : MDM) : (s.setMdm v).pending = s.pending := rfl

@[simp] theorem State.setBw_powered (s : State) (v : BW) : (s.setBw v).powered = s.powered := rfl
@[simp] theorem State.setBw_pins (s : State) (v : BW) : (s.setBw v).pins = s.pins := rfl
@[simp] theorem State.setBw_ties (s : State) (v : BW) : (s.setBw v).ties = s.ties := rfl
@[simp] theorem State.setBw_draws (s : State) (v : BW) : (s.setBw v).draws = s.draws := rfl
@[simp] theorem State.setBw_notices (s : State) (v : BW) : (s.setBw v).notices = s.notices := rfl
@[simp] theorem State.setBw_instants (s : State) (v : BW) : (s.setBw v).instants = s.instants := rfl
@[simp] theorem State.setBw_lc (s : State) (v : BW) : (s.setBw v).lc = s.lc := rfl
@[simp] theorem State.setBw_tb (s : State) (v : BW) : (s.setBw v).tb = s.tb := rfl
@[simp] theorem State.setBw_pt (s : State) (v : BW) : (s.setBw v).pt = s.pt := rfl
@[simp] theorem State.setBw_du (s : State) (v : BW) : (s.setBw v).du = s.du := rfl
@[simp] theorem State.setBw_vfe (s : State) (v : BW) : (s.setBw v).vfe = s.vfe := rfl
@[simp] theorem State.setBw_scn (s : State) (v : BW) : (s.setBw v).scn = s.scn := rfl
@[simp] theorem State.setBw_tu (s : State) (v : BW) : (s.setBw v).tu = s.tu := rfl
@[simp] theorem State.setBw_re (s : State) (v : BW) : (s.setBw v).re = s.re := rfl
@[simp] theorem State.setBw_dru (s : State) (v : BW) : (s.setBw v).dru = s.dru := rfl
@[simp] theorem State.setBw_mdm (s : State) (v : BW) : (s.setBw v).mdm = s.mdm := rfl
@[simp] theorem State.setBw_bw (s : State) (v : BW) : (s.setBw v).bw = v := rfl
@[simp] theorem State.setBw_rs (s : State) (v : BW) : (s.setBw v).rs = s.rs := rfl
@[simp] theorem State.setBw_sul (s : State) (v : BW) : (s.setBw v).sul = s.sul := rfl
@[simp] theorem State.setBw_pending (s : State) (v : BW) : (s.setBw v).pending = s.pending := rfl

@[simp] theorem State.setRs_powered (s : State) (v : RS) : (s.setRs v).powered = s.powered := rfl
@[simp] theorem State.setRs_pins (s : State) (v : RS) : (s.setRs v).pins = s.pins := rfl
@[simp] theorem State.setRs_ties (s : State) (v : RS) : (s.setRs v).ties = s.ties := rfl
@[simp] theorem State.setRs_draws (s : State) (v : RS) : (s.setRs v).draws = s.draws := rfl
@[simp] theorem State.setRs_notices (s : State) (v : RS) : (s.setRs v).notices = s.notices := rfl
@[simp] theorem State.setRs_instants (s : State) (v : RS) : (s.setRs v).instants = s.instants := rfl
@[simp] theorem State.setRs_lc (s : State) (v : RS) : (s.setRs v).lc = s.lc := rfl
@[simp] theorem State.setRs_tb (s : State) (v : RS) : (s.setRs v).tb = s.tb := rfl
@[simp] theorem State.setRs_pt (s : State) (v : RS) : (s.setRs v).pt = s.pt := rfl
@[simp] theorem State.setRs_du (s : State) (v : RS) : (s.setRs v).du = s.du := rfl
@[simp] theorem State.setRs_vfe (s : State) (v : RS) : (s.setRs v).vfe = s.vfe := rfl
@[simp] theorem State.setRs_scn (s : State) (v : RS) : (s.setRs v).scn = s.scn := rfl
@[simp] theorem State.setRs_tu (s : State) (v : RS) : (s.setRs v).tu = s.tu := rfl
@[simp] theorem State.setRs_re (s : State) (v : RS) : (s.setRs v).re = s.re := rfl
@[simp] theorem State.setRs_dru (s : State) (v : RS) : (s.setRs v).dru = s.dru := rfl
@[simp] theorem State.setRs_mdm (s : State) (v : RS) : (s.setRs v).mdm = s.mdm := rfl
@[simp] theorem State.setRs_bw (s : State) (v : RS) : (s.setRs v).bw = s.bw := rfl
@[simp] theorem State.setRs_rs (s : State) (v : RS) : (s.setRs v).rs = v := rfl
@[simp] theorem State.setRs_sul (s : State) (v : RS) : (s.setRs v).sul = s.sul := rfl
@[simp] theorem State.setRs_pending (s : State) (v : RS) : (s.setRs v).pending = s.pending := rfl

@[simp] theorem State.setSul_powered (s : State) (v : SUL) : (s.setSul v).powered = s.powered := rfl
@[simp] theorem State.setSul_pins (s : State) (v : SUL) : (s.setSul v).pins = s.pins := rfl
@[simp] theorem State.setSul_ties (s : State) (v : SUL) : (s.setSul v).ties = s.ties := rfl
@[simp] theorem State.setSul_draws (s : State) (v : SUL) : (s.setSul v).draws = s.draws := rfl
@[simp] theorem State.setSul_notices (s : State) (v : SUL) : (s.setSul v).notices = s.notices := rfl
@[simp] theorem State.setSul_instants (s : State) (v : SUL) : (s.setSul v).instants = s.instants := rfl
@[simp] theorem State.setSul_lc (s : State) (v : SUL) : (s.setSul v).lc = s.lc := rfl
@[simp] theorem State.setSul_tb (s : State) (v : SUL) : (s.setSul v).tb = s.tb := rfl
@[simp] theorem State.setSul_pt (s : State) (v : SUL) : (s.setSul v).pt = s.pt := rfl
@[simp] theorem State.setSul_du (s : State) (v : SUL) : (s.setSul v).du = s.du := rfl
@[simp] theorem State.setSul_vfe (s : State) (v : SUL) : (s.setSul v).vfe = s.vfe := rfl
@[simp] theorem State.setSul_scn (s : State) (v : SUL) : (s.setSul v).scn = s.scn := rfl
@[simp] theorem State.setSul_tu (s : State) (v : SUL) : (s.setSul v).tu = s.tu := rfl
@[simp] theorem State.setSul_re (s : State) (v : SUL) : (s.setSul v).re = s.re := rfl
@[simp] theorem State.setSul_dru (s : State) (v : SUL) : (s.setSul v).dru = s.dru := rfl
@[simp] theorem State.setSul_mdm (s : State) (v : SUL) : (s.setSul v).mdm = s.mdm := rfl
@[simp] theorem State.setSul_bw (s : State) (v : SUL) : (s.setSul v).bw = s.bw := rfl
@[simp] theorem State.setSul_rs (s : State) (v : SUL) : (s.setSul v).rs = s.rs := rfl
@[simp] theorem State.setSul_sul (s : State) (v : SUL) : (s.setSul v).sul = v := rfl
@[simp] theorem State.setSul_pending (s : State) (v : SUL) : (s.setSul v).pending = s.pending := rfl

@[simp] theorem State.setPending_powered (s : State) (v : List Instr) : (s.setPending v).powered = s.powered := rfl
@[simp] theorem State.setPending_pins (s : State) (v : List Instr) : (s.setPending v).pins = s.pins := rfl
@[simp] theorem State.setPending_ties (s : State) (v : List Instr) : (s.setPending v).ties = s.ties := rfl
@[simp] theorem State.setPending_draws (s : State) (v : List Instr) : (s.setPending v).draws = s.draws := rfl
@[simp] theorem State.setPending_notices (s : State) (v : List Instr) : (s.setPending v).notices = s.notices := rfl
@[simp] theorem State.setPending_instants (s : State) (v : List Instr) : (s.setPending v).instants = s.instants := rfl
@[simp] theorem State.setPending_lc (s : State) (v : List Instr) : (s.setPending v).lc = s.lc := rfl
@[simp] theorem State.setPending_tb (s : State) (v : List Instr) : (s.setPending v).tb = s.tb := rfl
@[simp] theorem State.setPending_pt (s : State) (v : List Instr) : (s.setPending v).pt = s.pt := rfl
@[simp] theorem State.setPending_du (s : State) (v : List Instr) : (s.setPending v).du = s.du := rfl
@[simp] theorem State.setPending_vfe (s : State) (v : List Instr) : (s.setPending v).vfe = s.vfe := rfl
@[simp] theorem State.setPending_scn (s : State) (v : List Instr) : (s.setPending v).scn = s.scn := rfl
@[simp] theorem State.setPending_tu (s : State) (v : List Instr) : (s.setPending v).tu = s.tu := rfl
@[simp] theorem State.setPending_re (s : State) (v : List Instr) : (s.setPending v).re = s.re := rfl
@[simp] theorem State.setPending_dru (s : State) (v : List Instr) : (s.setPending v).dru = s.dru := rfl
@[simp] theorem State.setPending_mdm (s : State) (v : List Instr) : (s.setPending v).mdm = s.mdm := rfl
@[simp] theorem State.setPending_bw (s : State) (v : List Instr) : (s.setPending v).bw = s.bw := rfl
@[simp] theorem State.setPending_rs (s : State) (v : List Instr) : (s.setPending v).rs = s.rs := rfl
@[simp] theorem State.setPending_sul (s : State) (v : List Instr) : (s.setPending v).sul = s.sul := rfl
@[simp] theorem State.setPending_pending (s : State) (v : List Instr) : (s.setPending v).pending = v := rfl

end Sys2Proof.Machine
end

