-- ==== Sys2Proof/Laws/FrameStore.lean ====
section
/-! SUPPORT. For each shared operation of the event list, the DRU, the minute builder, BW, MDM and record entry: the parts of `State` it leaves as they stand. -/

namespace Sys2Proof.Machine

@[simp] theorem raiseEvent_frame (k : EventKind) (q : Second) (s : State) :
    (raiseEvent k q s).powered = s.powered ∧ (raiseEvent k q s).pins = s.pins ∧ (raiseEvent k q s).ties = s.ties ∧
    (raiseEvent k q s).draws = s.draws ∧ (raiseEvent k q s).notices = s.notices ∧
    (raiseEvent k q s).instants = s.instants ∧ (raiseEvent k q s).lc = s.lc ∧ (raiseEvent k q s).tb = s.tb ∧
    (raiseEvent k q s).pt = s.pt ∧ (raiseEvent k q s).du = s.du ∧ (raiseEvent k q s).vfe = s.vfe ∧
    (raiseEvent k q s).scn = s.scn ∧ (raiseEvent k q s).tu = s.tu ∧ (raiseEvent k q s).re = s.re ∧
    (raiseEvent k q s).dru = s.dru ∧ (raiseEvent k q s).mdm = s.mdm ∧ (raiseEvent k q s).bw = s.bw ∧
    (raiseEvent k q s).sul = s.sul ∧ (raiseEvent k q s).pending = s.pending := by
  unfold raiseEvent
  try dsimp only
  repeat' split
  all_goals simp

@[simp] theorem place_frame (c : Client) (op : Operation) (s : State) :
    (place c op s).powered = s.powered ∧ (place c op s).pins = s.pins ∧ (place c op s).ties = s.ties ∧
    (place c op s).draws = s.draws ∧ (place c op s).notices = s.notices ∧ (place c op s).instants = s.instants ∧
    (place c op s).lc = s.lc ∧ (place c op s).tb = s.tb ∧ (place c op s).pt = s.pt ∧ (place c op s).du = s.du ∧
    (place c op s).vfe = s.vfe ∧ (place c op s).scn = s.scn ∧ (place c op s).tu = s.tu ∧ (place c op s).re = s.re ∧
    (place c op s).mdm = s.mdm ∧ (place c op s).bw = s.bw ∧ (place c op s).rs = s.rs ∧ (place c op s).sul = s.sul ∧
    (place c op s).pending = s.pending := by
  unfold place
  try dsimp only
  all_goals simp

@[simp] theorem raiseOpt_frame (k : Option EventKind) (q : Second) (s : State) :
    (raiseOpt k q s).powered = s.powered ∧ (raiseOpt k q s).pins = s.pins ∧ (raiseOpt k q s).ties = s.ties ∧
    (raiseOpt k q s).draws = s.draws ∧ (raiseOpt k q s).notices = s.notices ∧
    (raiseOpt k q s).instants = s.instants ∧ (raiseOpt k q s).lc = s.lc ∧ (raiseOpt k q s).tb = s.tb ∧
    (raiseOpt k q s).pt = s.pt ∧ (raiseOpt k q s).du = s.du ∧ (raiseOpt k q s).vfe = s.vfe ∧
    (raiseOpt k q s).scn = s.scn ∧ (raiseOpt k q s).tu = s.tu ∧ (raiseOpt k q s).re = s.re ∧
    (raiseOpt k q s).dru = s.dru ∧ (raiseOpt k q s).mdm = s.mdm ∧ (raiseOpt k q s).bw = s.bw ∧
    (raiseOpt k q s).sul = s.sul ∧ (raiseOpt k q s).pending = s.pending := by
  unfold raiseOpt
  try dsimp only
  repeat' split
  all_goals simp

@[simp] theorem placeMinute_frame (d : MinuteDivision) (s : State) :
    (placeMinute d s).powered = s.powered ∧ (placeMinute d s).pins = s.pins ∧ (placeMinute d s).ties = s.ties ∧
    (placeMinute d s).draws = s.draws ∧ (placeMinute d s).notices = s.notices ∧
    (placeMinute d s).instants = s.instants ∧ (placeMinute d s).lc = s.lc ∧ (placeMinute d s).tb = s.tb ∧
    (placeMinute d s).pt = s.pt ∧ (placeMinute d s).du = s.du ∧ (placeMinute d s).vfe = s.vfe ∧
    (placeMinute d s).scn = s.scn ∧ (placeMinute d s).tu = s.tu ∧ (placeMinute d s).re = s.re ∧
    (placeMinute d s).mdm = s.mdm ∧ (placeMinute d s).bw = s.bw ∧ (placeMinute d s).rs = s.rs ∧
    (placeMinute d s).sul = s.sul ∧ (placeMinute d s).pending = s.pending := by
  unfold placeMinute
  try dsimp only
  all_goals simp

@[simp] theorem testHeads_frame (n : Nat) (s : State) :
    (testHeads n s).powered = s.powered ∧ (testHeads n s).pins = s.pins ∧ (testHeads n s).ties = s.ties ∧
    (testHeads n s).draws = s.draws ∧ (testHeads n s).notices = s.notices ∧ (testHeads n s).instants = s.instants ∧
    (testHeads n s).lc = s.lc ∧ (testHeads n s).tb = s.tb ∧ (testHeads n s).pt = s.pt ∧ (testHeads n s).du = s.du ∧
    (testHeads n s).vfe = s.vfe ∧ (testHeads n s).scn = s.scn ∧ (testHeads n s).tu = s.tu ∧
    (testHeads n s).re = s.re ∧ (testHeads n s).mdm = s.mdm ∧ (testHeads n s).bw = s.bw ∧
    (testHeads n s).sul = s.sul ∧ (testHeads n s).pending = s.pending := by
  induction n generalizing s with
  | zero => simp [testHeads]
  | succ n ih =>
    unfold testHeads
    dsimp only
    repeat' split
    all_goals simp [ih]

@[simp] theorem testHead_frame (s : State) :
    (testHead s).powered = s.powered ∧ (testHead s).pins = s.pins ∧ (testHead s).ties = s.ties ∧
    (testHead s).draws = s.draws ∧ (testHead s).notices = s.notices ∧ (testHead s).instants = s.instants ∧
    (testHead s).lc = s.lc ∧ (testHead s).tb = s.tb ∧ (testHead s).pt = s.pt ∧ (testHead s).du = s.du ∧
    (testHead s).vfe = s.vfe ∧ (testHead s).scn = s.scn ∧ (testHead s).tu = s.tu ∧ (testHead s).re = s.re ∧
    (testHead s).mdm = s.mdm ∧ (testHead s).bw = s.bw ∧ (testHead s).sul = s.sul ∧ (testHead s).pending = s.pending := by
  unfold testHead
  try dsimp only
  all_goals simp

@[simp] theorem takeMinuteKey_frame (m : Minute) (s : State) :
    (takeMinuteKey m s).powered = s.powered ∧ (takeMinuteKey m s).pins = s.pins ∧ (takeMinuteKey m s).ties = s.ties ∧
    (takeMinuteKey m s).draws = s.draws ∧ (takeMinuteKey m s).notices = s.notices ∧
    (takeMinuteKey m s).instants = s.instants ∧ (takeMinuteKey m s).lc = s.lc ∧ (takeMinuteKey m s).tb = s.tb ∧
    (takeMinuteKey m s).pt = s.pt ∧ (takeMinuteKey m s).du = s.du ∧ (takeMinuteKey m s).vfe = s.vfe ∧
    (takeMinuteKey m s).scn = s.scn ∧ (takeMinuteKey m s).tu = s.tu ∧ (takeMinuteKey m s).re = s.re ∧
    (takeMinuteKey m s).mdm = s.mdm ∧ (takeMinuteKey m s).bw = s.bw ∧ (takeMinuteKey m s).sul = s.sul ∧
    (takeMinuteKey m s).pending = s.pending := by
  unfold takeMinuteKey
  try dsimp only
  repeat' split
  all_goals simp

@[simp] theorem deliverMinute_frame (v : Option Int) (s : State) :
    (deliverMinute v s).powered = s.powered ∧ (deliverMinute v s).pins = s.pins ∧ (deliverMinute v s).ties = s.ties ∧
    (deliverMinute v s).draws = s.draws ∧ (deliverMinute v s).notices = s.notices ∧
    (deliverMinute v s).instants = s.instants ∧ (deliverMinute v s).lc = s.lc ∧ (deliverMinute v s).tb = s.tb ∧
    (deliverMinute v s).pt = s.pt ∧ (deliverMinute v s).du = s.du ∧ (deliverMinute v s).vfe = s.vfe ∧
    (deliverMinute v s).scn = s.scn ∧ (deliverMinute v s).tu = s.tu ∧ (deliverMinute v s).re = s.re ∧
    (deliverMinute v s).mdm = s.mdm ∧ (deliverMinute v s).bw = s.bw ∧ (deliverMinute v s).sul = s.sul ∧
    (deliverMinute v s).pending = s.pending := by
  unfold deliverMinute
  try dsimp only
  repeat' split
  all_goals simp

@[simp] theorem watchRecord_frame (fl : RecordFlags) (v : Axes (Option Int)) (q : Second) (s : State) :
    (watchRecord fl v q s).powered = s.powered ∧ (watchRecord fl v q s).pins = s.pins ∧
    (watchRecord fl v q s).ties = s.ties ∧ (watchRecord fl v q s).draws = s.draws ∧
    (watchRecord fl v q s).notices = s.notices ∧ (watchRecord fl v q s).instants = s.instants ∧
    (watchRecord fl v q s).lc = s.lc ∧ (watchRecord fl v q s).tb = s.tb ∧ (watchRecord fl v q s).pt = s.pt ∧
    (watchRecord fl v q s).du = s.du ∧ (watchRecord fl v q s).vfe = s.vfe ∧ (watchRecord fl v q s).scn = s.scn ∧
    (watchRecord fl v q s).tu = s.tu ∧ (watchRecord fl v q s).re = s.re ∧ (watchRecord fl v q s).dru = s.dru ∧
    (watchRecord fl v q s).mdm = s.mdm ∧ (watchRecord fl v q s).sul = s.sul ∧
    (watchRecord fl v q s).pending = s.pending := by
  unfold watchRecord
  try dsimp only
  repeat' split
  all_goals simp

@[simp] theorem makeReseed_frame (s : State) :
    (makeReseed s).powered = s.powered ∧ (makeReseed s).pins = s.pins ∧ (makeReseed s).ties = s.ties ∧
    (makeReseed s).draws = s.draws ∧ (makeReseed s).notices = s.notices ∧ (makeReseed s).instants = s.instants ∧
    (makeReseed s).lc = s.lc ∧ (makeReseed s).tb = s.tb ∧ (makeReseed s).pt = s.pt ∧ (makeReseed s).du = s.du ∧
    (makeReseed s).vfe = s.vfe ∧ (makeReseed s).scn = s.scn ∧ (makeReseed s).tu = s.tu ∧ (makeReseed s).re = s.re ∧
    (makeReseed s).dru = s.dru ∧ (makeReseed s).mdm = s.mdm ∧ (makeReseed s).sul = s.sul ∧
    (makeReseed s).pending = s.pending := by
  unfold makeReseed
  try dsimp only
  all_goals simp

@[simp] theorem markBw_frame (s : State) :
    (markBw s).powered = s.powered ∧ (markBw s).pins = s.pins ∧ (markBw s).ties = s.ties ∧
    (markBw s).draws = s.draws ∧ (markBw s).notices = s.notices ∧ (markBw s).instants = s.instants ∧
    (markBw s).lc = s.lc ∧ (markBw s).tb = s.tb ∧ (markBw s).pt = s.pt ∧ (markBw s).du = s.du ∧
    (markBw s).vfe = s.vfe ∧ (markBw s).scn = s.scn ∧ (markBw s).tu = s.tu ∧ (markBw s).re = s.re ∧
    (markBw s).dru = s.dru ∧ (markBw s).mdm = s.mdm ∧ (markBw s).sul = s.sul ∧ (markBw s).pending = s.pending := by
  unfold markBw
  try dsimp only
  repeat' split
  all_goals simp

@[simp] theorem watchDeltaF_frame (d : Option Int) (q : Second) (s : State) :
    (watchDeltaF d q s).powered = s.powered ∧ (watchDeltaF d q s).pins = s.pins ∧ (watchDeltaF d q s).ties = s.ties ∧
    (watchDeltaF d q s).draws = s.draws ∧ (watchDeltaF d q s).notices = s.notices ∧
    (watchDeltaF d q s).instants = s.instants ∧ (watchDeltaF d q s).lc = s.lc ∧ (watchDeltaF d q s).tb = s.tb ∧
    (watchDeltaF d q s).pt = s.pt ∧ (watchDeltaF d q s).du = s.du ∧ (watchDeltaF d q s).vfe = s.vfe ∧
    (watchDeltaF d q s).scn = s.scn ∧ (watchDeltaF d q s).tu = s.tu ∧ (watchDeltaF d q s).re = s.re ∧
    (watchDeltaF d q s).dru = s.dru ∧ (watchDeltaF d q s).mdm = s.mdm ∧ (watchDeltaF d q s).sul = s.sul ∧
    (watchDeltaF d q s).pending = s.pending := by
  unfold watchDeltaF
  try dsimp only
  repeat' split
  all_goals simp

@[simp] theorem finalize_frame (q : Sequence) (n : Second) (m f d : Option Int) (r : DeltaFReason) (s : State) :
    (finalize q n m f d r s).powered = s.powered ∧ (finalize q n m f d r s).pins = s.pins ∧
    (finalize q n m f d r s).ties = s.ties ∧ (finalize q n m f d r s).draws = s.draws ∧
    (finalize q n m f d r s).notices = s.notices ∧ (finalize q n m f d r s).instants = s.instants ∧
    (finalize q n m f d r s).lc = s.lc ∧ (finalize q n m f d r s).tb = s.tb ∧ (finalize q n m f d r s).pt = s.pt ∧
    (finalize q n m f d r s).du = s.du ∧ (finalize q n m f d r s).vfe = s.vfe ∧
    (finalize q n m f d r s).scn = s.scn ∧ (finalize q n m f d r s).tu = s.tu ∧ (finalize q n m f d r s).re = s.re ∧
    (finalize q n m f d r s).mdm = s.mdm ∧ (finalize q n m f d r s).sul = s.sul ∧
    (finalize q n m f d r s).pending = s.pending := by
  unfold finalize
  try dsimp only
  all_goals simp

@[simp] theorem finalizeAbsent_frame (r : DeltaFReason) (e : PendingEntry) (s : State) :
    (finalizeAbsent r e s).powered = s.powered ∧ (finalizeAbsent r e s).pins = s.pins ∧
    (finalizeAbsent r e s).ties = s.ties ∧ (finalizeAbsent r e s).draws = s.draws ∧
    (finalizeAbsent r e s).notices = s.notices ∧ (finalizeAbsent r e s).instants = s.instants ∧
    (finalizeAbsent r e s).lc = s.lc ∧ (finalizeAbsent r e s).tb = s.tb ∧ (finalizeAbsent r e s).pt = s.pt ∧
    (finalizeAbsent r e s).du = s.du ∧ (finalizeAbsent r e s).vfe = s.vfe ∧ (finalizeAbsent r e s).scn = s.scn ∧
    (finalizeAbsent r e s).tu = s.tu ∧ (finalizeAbsent r e s).re = s.re ∧ (finalizeAbsent r e s).mdm = s.mdm ∧
    (finalizeAbsent r e s).sul = s.sul ∧ (finalizeAbsent r e s).pending = s.pending := by
  unfold finalizeAbsent
  try dsimp only
  all_goals simp

@[simp] theorem finalizeAll_frame (r : DeltaFReason) (es : List PendingEntry) (s : State) :
    (finalizeAll r es s).powered = s.powered ∧ (finalizeAll r es s).pins = s.pins ∧
    (finalizeAll r es s).ties = s.ties ∧ (finalizeAll r es s).draws = s.draws ∧
    (finalizeAll r es s).notices = s.notices ∧ (finalizeAll r es s).instants = s.instants ∧
    (finalizeAll r es s).lc = s.lc ∧ (finalizeAll r es s).tb = s.tb ∧ (finalizeAll r es s).pt = s.pt ∧
    (finalizeAll r es s).du = s.du ∧ (finalizeAll r es s).vfe = s.vfe ∧ (finalizeAll r es s).scn = s.scn ∧
    (finalizeAll r es s).tu = s.tu ∧ (finalizeAll r es s).re = s.re ∧ (finalizeAll r es s).mdm = s.mdm ∧
    (finalizeAll r es s).sul = s.sul ∧ (finalizeAll r es s).pending = s.pending := by
  induction es generalizing s with
  | nil => simp [finalizeAll]
  | cons e es ih =>
    have h := ih (finalizeAbsent r e s)
    simp only [finalizeAll, List.foldl_cons] at h ⊢
    simpa using h

@[simp] theorem placeRoot_frame (s : State) :
    (placeRoot s).powered = s.powered ∧ (placeRoot s).pins = s.pins ∧ (placeRoot s).ties = s.ties ∧
    (placeRoot s).draws = s.draws ∧ (placeRoot s).notices = s.notices ∧ (placeRoot s).instants = s.instants ∧
    (placeRoot s).lc = s.lc ∧ (placeRoot s).tb = s.tb ∧ (placeRoot s).pt = s.pt ∧ (placeRoot s).du = s.du ∧
    (placeRoot s).vfe = s.vfe ∧ (placeRoot s).scn = s.scn ∧ (placeRoot s).tu = s.tu ∧ (placeRoot s).re = s.re ∧
    (placeRoot s).bw = s.bw ∧ (placeRoot s).rs = s.rs ∧ (placeRoot s).sul = s.sul ∧ (placeRoot s).pending = s.pending := by
  unfold placeRoot
  try dsimp only
  repeat' split
  all_goals simp

@[simp] theorem resolve_frame (e : PendingEntry) (m f : Int) (s : State) :
    (resolve e m f s).powered = s.powered ∧ (resolve e m f s).pins = s.pins ∧ (resolve e m f s).ties = s.ties ∧
    (resolve e m f s).draws = s.draws ∧ (resolve e m f s).notices = s.notices ∧
    (resolve e m f s).instants = s.instants ∧ (resolve e m f s).lc = s.lc ∧ (resolve e m f s).tb = s.tb ∧
    (resolve e m f s).pt = s.pt ∧ (resolve e m f s).du = s.du ∧ (resolve e m f s).vfe = s.vfe ∧
    (resolve e m f s).scn = s.scn ∧ (resolve e m f s).tu = s.tu ∧ (resolve e m f s).re = s.re ∧
    (resolve e m f s).sul = s.sul ∧ (resolve e m f s).pending = s.pending := by
  unfold resolve
  try dsimp only
  all_goals simp

@[simp] theorem displaceOld_frame (q : Sequence) (s : State) :
    (displaceOld q s).powered = s.powered ∧ (displaceOld q s).pins = s.pins ∧ (displaceOld q s).ties = s.ties ∧
    (displaceOld q s).draws = s.draws ∧ (displaceOld q s).notices = s.notices ∧
    (displaceOld q s).instants = s.instants ∧ (displaceOld q s).lc = s.lc ∧ (displaceOld q s).tb = s.tb ∧
    (displaceOld q s).pt = s.pt ∧ (displaceOld q s).du = s.du ∧ (displaceOld q s).vfe = s.vfe ∧
    (displaceOld q s).scn = s.scn ∧ (displaceOld q s).tu = s.tu ∧ (displaceOld q s).re = s.re ∧
    (displaceOld q s).sul = s.sul ∧ (displaceOld q s).pending = s.pending := by
  unfold displaceOld
  try dsimp only
  all_goals simp

@[simp] theorem displaceOldest_frame (s : State) :
    (displaceOldest s).powered = s.powered ∧ (displaceOldest s).pins = s.pins ∧ (displaceOldest s).ties = s.ties ∧
    (displaceOldest s).draws = s.draws ∧ (displaceOldest s).notices = s.notices ∧
    (displaceOldest s).instants = s.instants ∧ (displaceOldest s).lc = s.lc ∧ (displaceOldest s).tb = s.tb ∧
    (displaceOldest s).pt = s.pt ∧ (displaceOldest s).du = s.du ∧ (displaceOldest s).vfe = s.vfe ∧
    (displaceOldest s).scn = s.scn ∧ (displaceOldest s).tu = s.tu ∧ (displaceOldest s).re = s.re ∧
    (displaceOldest s).sul = s.sul ∧ (displaceOldest s).pending = s.pending := by
  unfold displaceOldest
  try dsimp only
  repeat' split
  all_goals simp

@[simp] theorem addEntry_frame (q : Sequence) (ep : Epoch) (n : Second) (x y z : Int) (s : State) :
    (addEntry q ep n x y z s).powered = s.powered ∧ (addEntry q ep n x y z s).pins = s.pins ∧
    (addEntry q ep n x y z s).ties = s.ties ∧ (addEntry q ep n x y z s).draws = s.draws ∧
    (addEntry q ep n x y z s).notices = s.notices ∧ (addEntry q ep n x y z s).instants = s.instants ∧
    (addEntry q ep n x y z s).lc = s.lc ∧ (addEntry q ep n x y z s).tb = s.tb ∧ (addEntry q ep n x y z s).pt = s.pt ∧
    (addEntry q ep n x y z s).du = s.du ∧ (addEntry q ep n x y z s).vfe = s.vfe ∧
    (addEntry q ep n x y z s).scn = s.scn ∧ (addEntry q ep n x y z s).tu = s.tu ∧
    (addEntry q ep n x y z s).re = s.re ∧ (addEntry q ep n x y z s).sul = s.sul ∧
    (addEntry q ep n x y z s).pending = s.pending := by
  unfold addEntry
  try dsimp only
  all_goals simp

@[simp] theorem matchRecord_frame (q : Sequence) (ep : Epoch) (n : Second) (v : Axes (Option Int)) (s : State) :
    (matchRecord q ep n v s).powered = s.powered ∧ (matchRecord q ep n v s).pins = s.pins ∧
    (matchRecord q ep n v s).ties = s.ties ∧ (matchRecord q ep n v s).draws = s.draws ∧
    (matchRecord q ep n v s).notices = s.notices ∧ (matchRecord q ep n v s).instants = s.instants ∧
    (matchRecord q ep n v s).lc = s.lc ∧ (matchRecord q ep n v s).tb = s.tb ∧ (matchRecord q ep n v s).pt = s.pt ∧
    (matchRecord q ep n v s).du = s.du ∧ (matchRecord q ep n v s).vfe = s.vfe ∧
    (matchRecord q ep n v s).scn = s.scn ∧ (matchRecord q ep n v s).tu = s.tu ∧ (matchRecord q ep n v s).re = s.re ∧
    (matchRecord q ep n v s).sul = s.sul ∧ (matchRecord q ep n v s).pending = s.pending := by
  unfold matchRecord
  try dsimp only
  repeat' split
  all_goals simp

@[simp] theorem deliverRoot_frame (v : Int) (s : State) :
    (deliverRoot v s).powered = s.powered ∧ (deliverRoot v s).pins = s.pins ∧ (deliverRoot v s).ties = s.ties ∧
    (deliverRoot v s).draws = s.draws ∧ (deliverRoot v s).notices = s.notices ∧
    (deliverRoot v s).instants = s.instants ∧ (deliverRoot v s).lc = s.lc ∧ (deliverRoot v s).tb = s.tb ∧
    (deliverRoot v s).pt = s.pt ∧ (deliverRoot v s).du = s.du ∧ (deliverRoot v s).vfe = s.vfe ∧
    (deliverRoot v s).scn = s.scn ∧ (deliverRoot v s).tu = s.tu ∧ (deliverRoot v s).re = s.re ∧
    (deliverRoot v s).sul = s.sul ∧ (deliverRoot v s).pending = s.pending := by
  unfold deliverRoot
  try dsimp only
  repeat' split
  all_goals simp

@[simp] theorem reevaluateSource_frame (s : State) :
    (reevaluateSource s).powered = s.powered ∧ (reevaluateSource s).pins = s.pins ∧
    (reevaluateSource s).ties = s.ties ∧ (reevaluateSource s).draws = s.draws ∧
    (reevaluateSource s).notices = s.notices ∧ (reevaluateSource s).instants = s.instants ∧
    (reevaluateSource s).lc = s.lc ∧ (reevaluateSource s).tb = s.tb ∧ (reevaluateSource s).pt = s.pt ∧
    (reevaluateSource s).du = s.du ∧ (reevaluateSource s).vfe = s.vfe ∧ (reevaluateSource s).scn = s.scn ∧
    (reevaluateSource s).tu = s.tu ∧ (reevaluateSource s).re = s.re ∧ (reevaluateSource s).dru = s.dru ∧
    (reevaluateSource s).bw = s.bw ∧ (reevaluateSource s).rs = s.rs ∧ (reevaluateSource s).sul = s.sul ∧
    (reevaluateSource s).pending = s.pending := by
  unfold reevaluateSource
  try dsimp only
  repeat' split
  all_goals simp

@[simp] theorem resolveAll_frame (f : Int) (es : List PendingEntry) (s : State) :
    (resolveAll f es s).powered = s.powered ∧ (resolveAll f es s).pins = s.pins ∧ (resolveAll f es s).ties = s.ties ∧
    (resolveAll f es s).draws = s.draws ∧ (resolveAll f es s).notices = s.notices ∧
    (resolveAll f es s).instants = s.instants ∧ (resolveAll f es s).lc = s.lc ∧ (resolveAll f es s).tb = s.tb ∧
    (resolveAll f es s).pt = s.pt ∧ (resolveAll f es s).du = s.du ∧ (resolveAll f es s).vfe = s.vfe ∧
    (resolveAll f es s).scn = s.scn ∧ (resolveAll f es s).tu = s.tu ∧ (resolveAll f es s).re = s.re ∧
    (resolveAll f es s).sul = s.sul ∧ (resolveAll f es s).pending = s.pending := by
  induction es generalizing s with
  | nil => simp [resolveAll]
  | cons e es ih =>
    simp only [resolveAll, List.foldl_cons] at ih ⊢
    cases e.magnitude with
    | none => exact ih s
    | some m => simpa using ih (resolve e m f s)

@[simp] theorem matchF_frame (f : Int) (q : Second) (s : State) :
    (matchF f q s).powered = s.powered ∧ (matchF f q s).pins = s.pins ∧ (matchF f q s).ties = s.ties ∧
    (matchF f q s).draws = s.draws ∧ (matchF f q s).notices = s.notices ∧ (matchF f q s).instants = s.instants ∧
    (matchF f q s).lc = s.lc ∧ (matchF f q s).tb = s.tb ∧ (matchF f q s).pt = s.pt ∧ (matchF f q s).du = s.du ∧
    (matchF f q s).vfe = s.vfe ∧ (matchF f q s).scn = s.scn ∧ (matchF f q s).tu = s.tu ∧ (matchF f q s).re = s.re ∧
    (matchF f q s).sul = s.sul ∧ (matchF f q s).pending = s.pending := by
  unfold matchF
  try dsimp only
  repeat' split
  all_goals simp

@[simp] theorem takeF_frame (f : Int) (q : Second) (s : State) :
    (takeF f q s).powered = s.powered ∧ (takeF f q s).pins = s.pins ∧ (takeF f q s).ties = s.ties ∧
    (takeF f q s).draws = s.draws ∧ (takeF f q s).notices = s.notices ∧ (takeF f q s).instants = s.instants ∧
    (takeF f q s).lc = s.lc ∧ (takeF f q s).tb = s.tb ∧ (takeF f q s).pt = s.pt ∧ (takeF f q s).du = s.du ∧
    (takeF f q s).vfe = s.vfe ∧ (takeF f q s).scn = s.scn ∧ (takeF f q s).tu = s.tu ∧ (takeF f q s).re = s.re ∧
    (takeF f q s).sul = s.sul ∧ (takeF f q s).pending = s.pending := by
  unfold takeF
  try dsimp only
  repeat' split
  all_goals simp

@[simp] theorem takeOwnF_frame (f : Int) (q : Second) (s : State) :
    (takeOwnF f q s).powered = s.powered ∧ (takeOwnF f q s).pins = s.pins ∧ (takeOwnF f q s).ties = s.ties ∧
    (takeOwnF f q s).draws = s.draws ∧ (takeOwnF f q s).notices = s.notices ∧
    (takeOwnF f q s).instants = s.instants ∧ (takeOwnF f q s).lc = s.lc ∧ (takeOwnF f q s).tb = s.tb ∧
    (takeOwnF f q s).pt = s.pt ∧ (takeOwnF f q s).du = s.du ∧ (takeOwnF f q s).vfe = s.vfe ∧
    (takeOwnF f q s).scn = s.scn ∧ (takeOwnF f q s).tu = s.tu ∧ (takeOwnF f q s).re = s.re ∧
    (takeOwnF f q s).sul = s.sul ∧ (takeOwnF f q s).pending = s.pending := by
  unfold takeOwnF
  try dsimp only
  repeat' split
  all_goals simp

@[simp] theorem takePeerF_frame (id : StationId) (f : Int) (q : Second) (s : State) :
    (takePeerF id f q s).powered = s.powered ∧ (takePeerF id f q s).pins = s.pins ∧
    (takePeerF id f q s).ties = s.ties ∧ (takePeerF id f q s).draws = s.draws ∧
    (takePeerF id f q s).notices = s.notices ∧ (takePeerF id f q s).instants = s.instants ∧
    (takePeerF id f q s).lc = s.lc ∧ (takePeerF id f q s).tb = s.tb ∧ (takePeerF id f q s).pt = s.pt ∧
    (takePeerF id f q s).du = s.du ∧ (takePeerF id f q s).vfe = s.vfe ∧ (takePeerF id f q s).scn = s.scn ∧
    (takePeerF id f q s).tu = s.tu ∧ (takePeerF id f q s).re = s.re ∧ (takePeerF id f q s).sul = s.sul ∧
    (takePeerF id f q s).pending = s.pending := by
  unfold takePeerF
  try dsimp only
  repeat' split
  all_goals simp

@[simp] theorem expireEntries_frame (s : State) :
    (expireEntries s).powered = s.powered ∧ (expireEntries s).pins = s.pins ∧ (expireEntries s).ties = s.ties ∧
    (expireEntries s).draws = s.draws ∧ (expireEntries s).notices = s.notices ∧
    (expireEntries s).instants = s.instants ∧ (expireEntries s).lc = s.lc ∧ (expireEntries s).tb = s.tb ∧
    (expireEntries s).pt = s.pt ∧ (expireEntries s).du = s.du ∧ (expireEntries s).vfe = s.vfe ∧
    (expireEntries s).scn = s.scn ∧ (expireEntries s).tu = s.tu ∧ (expireEntries s).re = s.re ∧
    (expireEntries s).sul = s.sul ∧ (expireEntries s).pending = s.pending := by
  unfold expireEntries
  try dsimp only
  all_goals simp

@[simp] theorem markMdm_frame (s : State) :
    (markMdm s).powered = s.powered ∧ (markMdm s).pins = s.pins ∧ (markMdm s).ties = s.ties ∧
    (markMdm s).draws = s.draws ∧ (markMdm s).notices = s.notices ∧ (markMdm s).instants = s.instants ∧
    (markMdm s).lc = s.lc ∧ (markMdm s).tb = s.tb ∧ (markMdm s).pt = s.pt ∧ (markMdm s).du = s.du ∧
    (markMdm s).vfe = s.vfe ∧ (markMdm s).scn = s.scn ∧ (markMdm s).tu = s.tu ∧ (markMdm s).re = s.re ∧
    (markMdm s).sul = s.sul ∧ (markMdm s).pending = s.pending := by
  unfold markMdm
  try dsimp only
  all_goals simp

@[simp] theorem enterRecord_frame (r : SecondRecord) (s : State) :
    (enterRecord r s).powered = s.powered ∧ (enterRecord r s).pins = s.pins ∧ (enterRecord r s).ties = s.ties ∧
    (enterRecord r s).draws = s.draws ∧ (enterRecord r s).notices = s.notices ∧
    (enterRecord r s).instants = s.instants ∧ (enterRecord r s).lc = s.lc ∧ (enterRecord r s).tb = s.tb ∧
    (enterRecord r s).pt = s.pt ∧ (enterRecord r s).du = s.du ∧ (enterRecord r s).vfe = s.vfe ∧
    (enterRecord r s).scn = s.scn ∧ (enterRecord r s).tu = s.tu ∧ (enterRecord r s).re = s.re ∧
    (enterRecord r s).sul = s.sul ∧ (enterRecord r s).pending = s.pending := by
  unfold enterRecord
  try dsimp only
  all_goals simp

end Sys2Proof.Machine
end

