-- ==== Sys2Proof/Laws/FrameMeasure.lean ====
section
/-! SUPPORT. For each shared operation of the front ends, the Reduction Engine and the axis chains: the parts of `State` it leaves as they stand. -/

namespace Sys2Proof.Machine

@[simp] theorem loopOff_frame (s : State) :
    (loopOff s).powered = s.powered ∧ (loopOff s).ties = s.ties ∧ (loopOff s).draws = s.draws ∧
    (loopOff s).notices = s.notices ∧ (loopOff s).instants = s.instants ∧ (loopOff s).lc = s.lc ∧
    (loopOff s).tb = s.tb ∧ (loopOff s).pt = s.pt ∧ (loopOff s).du = s.du ∧ (loopOff s).scn = s.scn ∧
    (loopOff s).tu = s.tu ∧ (loopOff s).re = s.re ∧ (loopOff s).dru = s.dru ∧ (loopOff s).mdm = s.mdm ∧
    (loopOff s).bw = s.bw ∧ (loopOff s).rs = s.rs ∧ (loopOff s).sul = s.sul ∧ (loopOff s).pending = s.pending := by
  unfold loopOff
  try dsimp only
  all_goals simp

@[simp] theorem enterLoopStart_frame (s : State) :
    (enterLoopStart s).powered = s.powered ∧ (enterLoopStart s).pins = s.pins ∧ (enterLoopStart s).ties = s.ties ∧
    (enterLoopStart s).draws = s.draws ∧ (enterLoopStart s).notices = s.notices ∧
    (enterLoopStart s).instants = s.instants ∧ (enterLoopStart s).lc = s.lc ∧ (enterLoopStart s).tb = s.tb ∧
    (enterLoopStart s).pt = s.pt ∧ (enterLoopStart s).du = s.du ∧ (enterLoopStart s).scn = s.scn ∧
    (enterLoopStart s).tu = s.tu ∧ (enterLoopStart s).re = s.re ∧ (enterLoopStart s).dru = s.dru ∧
    (enterLoopStart s).mdm = s.mdm ∧ (enterLoopStart s).bw = s.bw ∧ (enterLoopStart s).rs = s.rs ∧
    (enterLoopStart s).sul = s.sul ∧ (enterLoopStart s).pending = s.pending := by
  unfold enterLoopStart
  try dsimp only
  all_goals simp

@[simp] theorem enterDriveStart_frame (s : State) :
    (enterDriveStart s).powered = s.powered ∧ (enterDriveStart s).ties = s.ties ∧
    (enterDriveStart s).draws = s.draws ∧ (enterDriveStart s).notices = s.notices ∧
    (enterDriveStart s).instants = s.instants ∧ (enterDriveStart s).lc = s.lc ∧ (enterDriveStart s).tb = s.tb ∧
    (enterDriveStart s).pt = s.pt ∧ (enterDriveStart s).du = s.du ∧ (enterDriveStart s).scn = s.scn ∧
    (enterDriveStart s).tu = s.tu ∧ (enterDriveStart s).re = s.re ∧ (enterDriveStart s).dru = s.dru ∧
    (enterDriveStart s).mdm = s.mdm ∧ (enterDriveStart s).bw = s.bw ∧ (enterDriveStart s).rs = s.rs ∧
    (enterDriveStart s).sul = s.sul ∧ (enterDriveStart s).pending = s.pending := by
  unfold enterDriveStart
  try dsimp only
  repeat' split
  all_goals simp

@[simp] theorem enterRunning_frame (s : State) :
    (enterRunning s).powered = s.powered ∧ (enterRunning s).pins = s.pins ∧ (enterRunning s).ties = s.ties ∧
    (enterRunning s).draws = s.draws ∧ (enterRunning s).notices = s.notices ∧
    (enterRunning s).instants = s.instants ∧ (enterRunning s).lc = s.lc ∧ (enterRunning s).tb = s.tb ∧
    (enterRunning s).pt = s.pt ∧ (enterRunning s).du = s.du ∧ (enterRunning s).scn = s.scn ∧
    (enterRunning s).tu = s.tu ∧ (enterRunning s).re = s.re ∧ (enterRunning s).dru = s.dru ∧
    (enterRunning s).mdm = s.mdm ∧ (enterRunning s).bw = s.bw ∧ (enterRunning s).rs = s.rs ∧
    (enterRunning s).sul = s.sul ∧ (enterRunning s).pending = s.pending := by
  unfold enterRunning
  try dsimp only
  all_goals simp

@[simp] theorem enterFaulted_frame (c : FaultCause) (s : State) :
    (enterFaulted c s).powered = s.powered ∧ (enterFaulted c s).ties = s.ties ∧ (enterFaulted c s).draws = s.draws ∧
    (enterFaulted c s).notices = s.notices ∧ (enterFaulted c s).instants = s.instants ∧
    (enterFaulted c s).lc = s.lc ∧ (enterFaulted c s).tb = s.tb ∧ (enterFaulted c s).pt = s.pt ∧
    (enterFaulted c s).du = s.du ∧ (enterFaulted c s).scn = s.scn ∧ (enterFaulted c s).tu = s.tu ∧
    (enterFaulted c s).re = s.re ∧ (enterFaulted c s).dru = s.dru ∧ (enterFaulted c s).mdm = s.mdm ∧
    (enterFaulted c s).bw = s.bw ∧ (enterFaulted c s).sul = s.sul ∧ (enterFaulted c s).pending = s.pending := by
  unfold enterFaulted
  try dsimp only
  all_goals simp

@[simp] theorem markVfe_frame (s : State) :
    (markVfe s).powered = s.powered ∧ (markVfe s).ties = s.ties ∧ (markVfe s).draws = s.draws ∧
    (markVfe s).notices = s.notices ∧ (markVfe s).instants = s.instants ∧ (markVfe s).lc = s.lc ∧
    (markVfe s).tb = s.tb ∧ (markVfe s).pt = s.pt ∧ (markVfe s).du = s.du ∧ (markVfe s).scn = s.scn ∧
    (markVfe s).tu = s.tu ∧ (markVfe s).re = s.re ∧ (markVfe s).dru = s.dru ∧ (markVfe s).mdm = s.mdm ∧
    (markVfe s).bw = s.bw ∧ (markVfe s).rs = s.rs ∧ (markVfe s).sul = s.sul ∧ (markVfe s).pending = s.pending := by
  unfold markVfe
  try dsimp only
  repeat' split
  all_goals simp

@[simp] theorem performRetune_frame (im : Image) (v : VFE) (r : ResidualReport) (s : State) :
    (performRetune im v r s).powered = s.powered ∧ (performRetune im v r s).pins = s.pins ∧
    (performRetune im v r s).ties = s.ties ∧ (performRetune im v r s).draws = s.draws ∧
    (performRetune im v r s).notices = s.notices ∧ (performRetune im v r s).instants = s.instants ∧
    (performRetune im v r s).lc = s.lc ∧ (performRetune im v r s).tb = s.tb ∧ (performRetune im v r s).pt = s.pt ∧
    (performRetune im v r s).du = s.du ∧ (performRetune im v r s).scn = s.scn ∧ (performRetune im v r s).tu = s.tu ∧
    (performRetune im v r s).dru = s.dru ∧ (performRetune im v r s).mdm = s.mdm ∧
    (performRetune im v r s).bw = s.bw ∧ (performRetune im v r s).rs = s.rs ∧ (performRetune im v r s).sul = s.sul ∧
    (performRetune im v r s).pending = s.pending := by
  unfold performRetune
  try dsimp only
  all_goals simp

@[simp] theorem evaluateReport_frame (r : ResidualReport) (s : State) :
    (evaluateReport r s).powered = s.powered ∧ (evaluateReport r s).pins = s.pins ∧
    (evaluateReport r s).ties = s.ties ∧ (evaluateReport r s).draws = s.draws ∧
    (evaluateReport r s).notices = s.notices ∧ (evaluateReport r s).instants = s.instants ∧
    (evaluateReport r s).lc = s.lc ∧ (evaluateReport r s).tb = s.tb ∧ (evaluateReport r s).pt = s.pt ∧
    (evaluateReport r s).du = s.du ∧ (evaluateReport r s).scn = s.scn ∧ (evaluateReport r s).tu = s.tu ∧
    (evaluateReport r s).dru = s.dru ∧ (evaluateReport r s).mdm = s.mdm ∧ (evaluateReport r s).bw = s.bw ∧
    (evaluateReport r s).rs = s.rs ∧ (evaluateReport r s).sul = s.sul ∧ (evaluateReport r s).pending = s.pending := by
  unfold evaluateReport
  try dsimp only
  repeat' split
  all_goals simp

@[simp] theorem closeSecond_frame (s : State) :
    (closeSecond s).1.powered = s.powered ∧ (closeSecond s).1.pins = s.pins ∧ (closeSecond s).1.ties = s.ties ∧
    (closeSecond s).1.draws = s.draws ∧ (closeSecond s).1.notices = s.notices ∧
    (closeSecond s).1.instants = s.instants ∧ (closeSecond s).1.lc = s.lc ∧ (closeSecond s).1.tb = s.tb ∧
    (closeSecond s).1.pt = s.pt ∧ (closeSecond s).1.du = s.du ∧ (closeSecond s).1.vfe = s.vfe ∧
    (closeSecond s).1.scn = s.scn ∧ (closeSecond s).1.tu = s.tu ∧ (closeSecond s).1.sul = s.sul ∧
    (closeSecond s).1.pending = s.pending := by
  unfold closeSecond
  try dsimp only
  repeat' split
  all_goals simp

@[simp] theorem leaveSecond_frame (s : State) :
    (leaveSecond s).1.powered = s.powered ∧ (leaveSecond s).1.pins = s.pins ∧ (leaveSecond s).1.ties = s.ties ∧
    (leaveSecond s).1.draws = s.draws ∧ (leaveSecond s).1.notices = s.notices ∧
    (leaveSecond s).1.instants = s.instants ∧ (leaveSecond s).1.lc = s.lc ∧ (leaveSecond s).1.tb = s.tb ∧
    (leaveSecond s).1.pt = s.pt ∧ (leaveSecond s).1.du = s.du ∧ (leaveSecond s).1.vfe = s.vfe ∧
    (leaveSecond s).1.scn = s.scn ∧ (leaveSecond s).1.tu = s.tu ∧ (leaveSecond s).1.sul = s.sul ∧
    (leaveSecond s).1.pending = s.pending := by
  unfold leaveSecond
  try dsimp only
  repeat' split
  all_goals simp

@[simp] theorem openSecond_frame (q : Second) (ep : Epoch) (fl : StickyFlags) (s : State) :
    (openSecond q ep fl s).powered = s.powered ∧ (openSecond q ep fl s).pins = s.pins ∧
    (openSecond q ep fl s).ties = s.ties ∧ (openSecond q ep fl s).draws = s.draws ∧
    (openSecond q ep fl s).notices = s.notices ∧ (openSecond q ep fl s).instants = s.instants ∧
    (openSecond q ep fl s).lc = s.lc ∧ (openSecond q ep fl s).tb = s.tb ∧ (openSecond q ep fl s).pt = s.pt ∧
    (openSecond q ep fl s).du = s.du ∧ (openSecond q ep fl s).vfe = s.vfe ∧ (openSecond q ep fl s).scn = s.scn ∧
    (openSecond q ep fl s).tu = s.tu ∧ (openSecond q ep fl s).dru = s.dru ∧ (openSecond q ep fl s).mdm = s.mdm ∧
    (openSecond q ep fl s).bw = s.bw ∧ (openSecond q ep fl s).rs = s.rs ∧ (openSecond q ep fl s).sul = s.sul ∧
    (openSecond q ep fl s).pending = s.pending := by
  unfold openSecond
  try dsimp only
  all_goals simp

@[simp] theorem foldReports_frame (cs : List ChainRecord) (s : State) :
    (cs.foldl (fun s c => evaluateReport (reportOf c) s) s).powered = s.powered ∧
    (cs.foldl (fun s c => evaluateReport (reportOf c) s) s).pins = s.pins ∧
    (cs.foldl (fun s c => evaluateReport (reportOf c) s) s).ties = s.ties ∧
    (cs.foldl (fun s c => evaluateReport (reportOf c) s) s).draws = s.draws ∧
    (cs.foldl (fun s c => evaluateReport (reportOf c) s) s).notices = s.notices ∧
    (cs.foldl (fun s c => evaluateReport (reportOf c) s) s).instants = s.instants ∧
    (cs.foldl (fun s c => evaluateReport (reportOf c) s) s).lc = s.lc ∧
    (cs.foldl (fun s c => evaluateReport (reportOf c) s) s).tb = s.tb ∧
    (cs.foldl (fun s c => evaluateReport (reportOf c) s) s).pt = s.pt ∧
    (cs.foldl (fun s c => evaluateReport (reportOf c) s) s).du = s.du ∧
    (cs.foldl (fun s c => evaluateReport (reportOf c) s) s).scn = s.scn ∧
    (cs.foldl (fun s c => evaluateReport (reportOf c) s) s).tu = s.tu ∧
    (cs.foldl (fun s c => evaluateReport (reportOf c) s) s).dru = s.dru ∧
    (cs.foldl (fun s c => evaluateReport (reportOf c) s) s).mdm = s.mdm ∧
    (cs.foldl (fun s c => evaluateReport (reportOf c) s) s).bw = s.bw ∧
    (cs.foldl (fun s c => evaluateReport (reportOf c) s) s).rs = s.rs ∧
    (cs.foldl (fun s c => evaluateReport (reportOf c) s) s).sul = s.sul ∧
    (cs.foldl (fun s c => evaluateReport (reportOf c) s) s).pending = s.pending := by
  induction cs generalizing s with
  | nil => simp
  | cons c cs ih => simpa using ih (evaluateReport (reportOf c) s)

@[simp] theorem giveReports_frame (s : State) :
    (giveReports s).powered = s.powered ∧ (giveReports s).pins = s.pins ∧ (giveReports s).ties = s.ties ∧
    (giveReports s).draws = s.draws ∧ (giveReports s).notices = s.notices ∧ (giveReports s).instants = s.instants ∧
    (giveReports s).lc = s.lc ∧ (giveReports s).tb = s.tb ∧ (giveReports s).pt = s.pt ∧ (giveReports s).du = s.du ∧
    (giveReports s).scn = s.scn ∧ (giveReports s).tu = s.tu ∧ (giveReports s).dru = s.dru ∧
    (giveReports s).mdm = s.mdm ∧ (giveReports s).bw = s.bw ∧ (giveReports s).rs = s.rs ∧
    (giveReports s).sul = s.sul ∧ (giveReports s).pending = s.pending := by simp only [giveReports]; simp [foldReports_frame]

@[simp] theorem chainsEndedNotice_frame (c : ChainRecord) (s : State) :
    (chainsEndedNotice c s).powered = s.powered ∧ (chainsEndedNotice c s).pins = s.pins ∧
    (chainsEndedNotice c s).ties = s.ties ∧ (chainsEndedNotice c s).draws = s.draws ∧
    (chainsEndedNotice c s).notices = s.notices ∧ (chainsEndedNotice c s).instants = s.instants ∧
    (chainsEndedNotice c s).lc = s.lc ∧ (chainsEndedNotice c s).tb = s.tb ∧ (chainsEndedNotice c s).pt = s.pt ∧
    (chainsEndedNotice c s).du = s.du ∧ (chainsEndedNotice c s).vfe = s.vfe ∧ (chainsEndedNotice c s).scn = s.scn ∧
    (chainsEndedNotice c s).tu = s.tu ∧ (chainsEndedNotice c s).sul = s.sul ∧
    (chainsEndedNotice c s).pending = s.pending := by
  unfold chainsEndedNotice
  try dsimp only
  all_goals simp

@[simp] theorem foldEnded_frame (cs : List ChainRecord) (s : State) :
    (cs.foldl (fun s c => chainsEndedNotice c s) s).powered = s.powered ∧
    (cs.foldl (fun s c => chainsEndedNotice c s) s).pins = s.pins ∧
    (cs.foldl (fun s c => chainsEndedNotice c s) s).ties = s.ties ∧
    (cs.foldl (fun s c => chainsEndedNotice c s) s).draws = s.draws ∧
    (cs.foldl (fun s c => chainsEndedNotice c s) s).notices = s.notices ∧
    (cs.foldl (fun s c => chainsEndedNotice c s) s).instants = s.instants ∧
    (cs.foldl (fun s c => chainsEndedNotice c s) s).lc = s.lc ∧
    (cs.foldl (fun s c => chainsEndedNotice c s) s).tb = s.tb ∧
    (cs.foldl (fun s c => chainsEndedNotice c s) s).pt = s.pt ∧
    (cs.foldl (fun s c => chainsEndedNotice c s) s).du = s.du ∧
    (cs.foldl (fun s c => chainsEndedNotice c s) s).vfe = s.vfe ∧
    (cs.foldl (fun s c => chainsEndedNotice c s) s).scn = s.scn ∧
    (cs.foldl (fun s c => chainsEndedNotice c s) s).tu = s.tu ∧
    (cs.foldl (fun s c => chainsEndedNotice c s) s).sul = s.sul ∧
    (cs.foldl (fun s c => chainsEndedNotice c s) s).pending = s.pending := by
  induction cs generalizing s with
  | nil => simp
  | cons c cs ih => simpa using ih (chainsEndedNotice c s)

@[simp] theorem endChains_frame (s : State) :
    (endChains s).powered = s.powered ∧ (endChains s).pins = s.pins ∧ (endChains s).ties = s.ties ∧
    (endChains s).draws = s.draws ∧ (endChains s).notices = s.notices ∧ (endChains s).instants = s.instants ∧
    (endChains s).lc = s.lc ∧ (endChains s).tb = s.tb ∧ (endChains s).pt = s.pt ∧ (endChains s).du = s.du ∧
    (endChains s).vfe = s.vfe ∧ (endChains s).scn = s.scn ∧ (endChains s).tu = s.tu ∧ (endChains s).sul = s.sul ∧
    (endChains s).pending = s.pending := by simp only [endChains]; simp [foldEnded_frame]

@[simp] theorem startAxis_frame (a : Axis) (s : State) :
    (startAxis a s).powered = s.powered ∧ (startAxis a s).pins = s.pins ∧ (startAxis a s).ties = s.ties ∧
    (startAxis a s).draws = s.draws ∧ (startAxis a s).notices = s.notices ∧ (startAxis a s).instants = s.instants ∧
    (startAxis a s).lc = s.lc ∧ (startAxis a s).tb = s.tb ∧ (startAxis a s).pt = s.pt ∧ (startAxis a s).du = s.du ∧
    (startAxis a s).vfe = s.vfe ∧ (startAxis a s).scn = s.scn ∧ (startAxis a s).tu = s.tu ∧
    (startAxis a s).mdm = s.mdm ∧ (startAxis a s).bw = s.bw ∧ (startAxis a s).rs = s.rs ∧
    (startAxis a s).sul = s.sul ∧ (startAxis a s).pending = s.pending := by
  unfold startAxis
  try dsimp only
  repeat' split
  all_goals simp

@[simp] theorem foldAxes_frame (l : List Axis) (s : State) :
    (l.foldl (fun s a => startAxis a s) s).powered = s.powered ∧
    (l.foldl (fun s a => startAxis a s) s).pins = s.pins ∧ (l.foldl (fun s a => startAxis a s) s).ties = s.ties ∧
    (l.foldl (fun s a => startAxis a s) s).draws = s.draws ∧
    (l.foldl (fun s a => startAxis a s) s).notices = s.notices ∧
    (l.foldl (fun s a => startAxis a s) s).instants = s.instants ∧ (l.foldl (fun s a => startAxis a s) s).lc = s.lc ∧
    (l.foldl (fun s a => startAxis a s) s).tb = s.tb ∧ (l.foldl (fun s a => startAxis a s) s).pt = s.pt ∧
    (l.foldl (fun s a => startAxis a s) s).du = s.du ∧ (l.foldl (fun s a => startAxis a s) s).vfe = s.vfe ∧
    (l.foldl (fun s a => startAxis a s) s).scn = s.scn ∧ (l.foldl (fun s a => startAxis a s) s).tu = s.tu ∧
    (l.foldl (fun s a => startAxis a s) s).mdm = s.mdm ∧ (l.foldl (fun s a => startAxis a s) s).bw = s.bw ∧
    (l.foldl (fun s a => startAxis a s) s).rs = s.rs ∧ (l.foldl (fun s a => startAxis a s) s).sul = s.sul ∧
    (l.foldl (fun s a => startAxis a s) s).pending = s.pending := by
  induction l generalizing s with
  | nil => simp
  | cons c cs ih => simpa using ih (startAxis c s)

@[simp] theorem settleChains_frame (s : State) :
    (settleChains s).powered = s.powered ∧ (settleChains s).pins = s.pins ∧ (settleChains s).ties = s.ties ∧
    (settleChains s).draws = s.draws ∧ (settleChains s).notices = s.notices ∧
    (settleChains s).instants = s.instants ∧ (settleChains s).lc = s.lc ∧ (settleChains s).tb = s.tb ∧
    (settleChains s).pt = s.pt ∧ (settleChains s).du = s.du ∧ (settleChains s).scn = s.scn ∧
    (settleChains s).tu = s.tu ∧ (settleChains s).sul = s.sul ∧ (settleChains s).pending = s.pending := by
  unfold settleChains
  try dsimp only
  all_goals simp

@[simp] theorem refusedNotice_frame (c : Option ChainRecord) (s : State) :
    (refusedNotice c s).powered = s.powered ∧ (refusedNotice c s).pins = s.pins ∧ (refusedNotice c s).ties = s.ties ∧
    (refusedNotice c s).draws = s.draws ∧ (refusedNotice c s).notices = s.notices ∧
    (refusedNotice c s).instants = s.instants ∧ (refusedNotice c s).lc = s.lc ∧ (refusedNotice c s).tb = s.tb ∧
    (refusedNotice c s).pt = s.pt ∧ (refusedNotice c s).du = s.du ∧ (refusedNotice c s).scn = s.scn ∧
    (refusedNotice c s).tu = s.tu ∧ (refusedNotice c s).sul = s.sul ∧ (refusedNotice c s).pending = s.pending := by
  unfold refusedNotice
  try dsimp only
  repeat' split
  all_goals simp

@[simp] theorem changeSecond_frame (q : Second) (ep : Epoch) (fl : StickyFlags) (s : State) :
    (changeSecond q ep fl s).powered = s.powered ∧ (changeSecond q ep fl s).pins = s.pins ∧
    (changeSecond q ep fl s).ties = s.ties ∧ (changeSecond q ep fl s).draws = s.draws ∧
    (changeSecond q ep fl s).notices = s.notices ∧ (changeSecond q ep fl s).instants = s.instants ∧
    (changeSecond q ep fl s).lc = s.lc ∧ (changeSecond q ep fl s).tb = s.tb ∧ (changeSecond q ep fl s).pt = s.pt ∧
    (changeSecond q ep fl s).du = s.du ∧ (changeSecond q ep fl s).scn = s.scn ∧ (changeSecond q ep fl s).tu = s.tu ∧
    (changeSecond q ep fl s).sul = s.sul ∧ (changeSecond q ep fl s).pending = s.pending := by simp only [changeSecond]; simp [foldAxes_frame]

@[simp] theorem nextDivision_frame (a : Axis) (st : ChainStep) (op : Operation) (s : State) :
    (nextDivision a st op s).powered = s.powered ∧ (nextDivision a st op s).pins = s.pins ∧
    (nextDivision a st op s).ties = s.ties ∧ (nextDivision a st op s).draws = s.draws ∧
    (nextDivision a st op s).notices = s.notices ∧ (nextDivision a st op s).instants = s.instants ∧
    (nextDivision a st op s).lc = s.lc ∧ (nextDivision a st op s).tb = s.tb ∧ (nextDivision a st op s).pt = s.pt ∧
    (nextDivision a st op s).du = s.du ∧ (nextDivision a st op s).vfe = s.vfe ∧
    (nextDivision a st op s).scn = s.scn ∧ (nextDivision a st op s).tu = s.tu ∧
    (nextDivision a st op s).mdm = s.mdm ∧ (nextDivision a st op s).bw = s.bw ∧ (nextDivision a st op s).rs = s.rs ∧
    (nextDivision a st op s).sul = s.sul ∧ (nextDivision a st op s).pending = s.pending := by
  unfold nextDivision
  try dsimp only
  all_goals simp

@[simp] theorem endWithValue_frame (a : Axis) (q : Sequence) (v : Int) (s : State) :
    (endWithValue a q v s).powered = s.powered ∧ (endWithValue a q v s).pins = s.pins ∧
    (endWithValue a q v s).ties = s.ties ∧ (endWithValue a q v s).draws = s.draws ∧
    (endWithValue a q v s).notices = s.notices ∧ (endWithValue a q v s).instants = s.instants ∧
    (endWithValue a q v s).lc = s.lc ∧ (endWithValue a q v s).tb = s.tb ∧ (endWithValue a q v s).pt = s.pt ∧
    (endWithValue a q v s).du = s.du ∧ (endWithValue a q v s).vfe = s.vfe ∧ (endWithValue a q v s).scn = s.scn ∧
    (endWithValue a q v s).tu = s.tu ∧ (endWithValue a q v s).mdm = s.mdm ∧ (endWithValue a q v s).bw = s.bw ∧
    (endWithValue a q v s).sul = s.sul ∧ (endWithValue a q v s).pending = s.pending := by
  unfold endWithValue
  try dsimp only
  repeat' split
  all_goals simp

@[simp] theorem endWithout_frame (a : Axis) (q : Sequence) (s : State) :
    (endWithout a q s).powered = s.powered ∧ (endWithout a q s).pins = s.pins ∧ (endWithout a q s).ties = s.ties ∧
    (endWithout a q s).draws = s.draws ∧ (endWithout a q s).notices = s.notices ∧
    (endWithout a q s).instants = s.instants ∧ (endWithout a q s).lc = s.lc ∧ (endWithout a q s).tb = s.tb ∧
    (endWithout a q s).pt = s.pt ∧ (endWithout a q s).du = s.du ∧ (endWithout a q s).vfe = s.vfe ∧
    (endWithout a q s).scn = s.scn ∧ (endWithout a q s).tu = s.tu ∧ (endWithout a q s).mdm = s.mdm ∧
    (endWithout a q s).bw = s.bw ∧ (endWithout a q s).sul = s.sul ∧ (endWithout a q s).pending = s.pending := by
  unfold endWithout
  try dsimp only
  all_goals simp

@[simp] theorem deliverAxis_frame (a : Axis) (v : Option Int) (s : State) :
    (deliverAxis a v s).powered = s.powered ∧ (deliverAxis a v s).pins = s.pins ∧ (deliverAxis a v s).ties = s.ties ∧
    (deliverAxis a v s).draws = s.draws ∧ (deliverAxis a v s).notices = s.notices ∧
    (deliverAxis a v s).instants = s.instants ∧ (deliverAxis a v s).lc = s.lc ∧ (deliverAxis a v s).tb = s.tb ∧
    (deliverAxis a v s).pt = s.pt ∧ (deliverAxis a v s).du = s.du ∧ (deliverAxis a v s).scn = s.scn ∧
    (deliverAxis a v s).tu = s.tu ∧ (deliverAxis a v s).sul = s.sul ∧ (deliverAxis a v s).pending = s.pending := by
  unfold deliverAxis
  try dsimp only
  repeat' split
  all_goals simp

@[simp] theorem markAccumulation_frame (q : Second) (ep : Epoch) (s : State) :
    (markAccumulation q ep s).powered = s.powered ∧ (markAccumulation q ep s).pins = s.pins ∧
    (markAccumulation q ep s).ties = s.ties ∧ (markAccumulation q ep s).draws = s.draws ∧
    (markAccumulation q ep s).notices = s.notices ∧ (markAccumulation q ep s).instants = s.instants ∧
    (markAccumulation q ep s).lc = s.lc ∧ (markAccumulation q ep s).tb = s.tb ∧ (markAccumulation q ep s).pt = s.pt ∧
    (markAccumulation q ep s).du = s.du ∧ (markAccumulation q ep s).scn = s.scn ∧
    (markAccumulation q ep s).tu = s.tu ∧ (markAccumulation q ep s).sul = s.sul ∧
    (markAccumulation q ep s).pending = s.pending := by
  unfold markAccumulation
  try dsimp only
  repeat' split
  all_goals simp

@[simp] theorem markRe_frame (q : Second) (ep : Epoch) (s : State) :
    (markRe q ep s).powered = s.powered ∧ (markRe q ep s).pins = s.pins ∧ (markRe q ep s).ties = s.ties ∧
    (markRe q ep s).draws = s.draws ∧ (markRe q ep s).notices = s.notices ∧ (markRe q ep s).instants = s.instants ∧
    (markRe q ep s).lc = s.lc ∧ (markRe q ep s).tb = s.tb ∧ (markRe q ep s).pt = s.pt ∧ (markRe q ep s).du = s.du ∧
    (markRe q ep s).scn = s.scn ∧ (markRe q ep s).tu = s.tu ∧ (markRe q ep s).sul = s.sul ∧
    (markRe q ep s).pending = s.pending := by
  unfold markRe
  try dsimp only
  all_goals simp

@[simp] theorem takeSample_frame (n : InstantNotice) (ps : Axes Part) (s : State) :
    (takeSample n ps s).powered = s.powered ∧ (takeSample n ps s).pins = s.pins ∧ (takeSample n ps s).ties = s.ties ∧
    (takeSample n ps s).draws = s.draws ∧ (takeSample n ps s).notices = s.notices ∧
    (takeSample n ps s).instants = s.instants ∧ (takeSample n ps s).lc = s.lc ∧ (takeSample n ps s).tb = s.tb ∧
    (takeSample n ps s).pt = s.pt ∧ (takeSample n ps s).du = s.du ∧ (takeSample n ps s).scn = s.scn ∧
    (takeSample n ps s).tu = s.tu ∧ (takeSample n ps s).sul = s.sul ∧ (takeSample n ps s).pending = s.pending := by
  unfold takeSample
  try dsimp only
  repeat' split
  all_goals simp

@[simp] theorem stepNotice_frame (q : Second) (s : State) :
    (stepNotice q s).powered = s.powered ∧ (stepNotice q s).pins = s.pins ∧ (stepNotice q s).ties = s.ties ∧
    (stepNotice q s).draws = s.draws ∧ (stepNotice q s).notices = s.notices ∧
    (stepNotice q s).instants = s.instants ∧ (stepNotice q s).lc = s.lc ∧ (stepNotice q s).tb = s.tb ∧
    (stepNotice q s).pt = s.pt ∧ (stepNotice q s).du = s.du ∧ (stepNotice q s).scn = s.scn ∧
    (stepNotice q s).tu = s.tu ∧ (stepNotice q s).sul = s.sul ∧ (stepNotice q s).pending = s.pending := by
  unfold stepNotice
  try dsimp only
  repeat' split
  all_goals simp

@[simp] theorem relabelNotice_frame (q : Second) (ep : Epoch) (s : State) :
    (relabelNotice q ep s).powered = s.powered ∧ (relabelNotice q ep s).pins = s.pins ∧
    (relabelNotice q ep s).ties = s.ties ∧ (relabelNotice q ep s).draws = s.draws ∧
    (relabelNotice q ep s).notices = s.notices ∧ (relabelNotice q ep s).instants = s.instants ∧
    (relabelNotice q ep s).lc = s.lc ∧ (relabelNotice q ep s).tb = s.tb ∧ (relabelNotice q ep s).pt = s.pt ∧
    (relabelNotice q ep s).du = s.du ∧ (relabelNotice q ep s).scn = s.scn ∧ (relabelNotice q ep s).tu = s.tu ∧
    (relabelNotice q ep s).sul = s.sul ∧ (relabelNotice q ep s).pending = s.pending := by
  unfold relabelNotice
  try dsimp only
  all_goals simp

@[simp] theorem vfeInstant_frame (n : InstantNotice) (r : Axes (BitVec 24)) (s : State) :
    (vfeInstant n r s).powered = s.powered ∧ (vfeInstant n r s).pins = s.pins ∧ (vfeInstant n r s).ties = s.ties ∧
    (vfeInstant n r s).draws = s.draws ∧ (vfeInstant n r s).notices = s.notices ∧
    (vfeInstant n r s).instants = s.instants ∧ (vfeInstant n r s).lc = s.lc ∧ (vfeInstant n r s).tb = s.tb ∧
    (vfeInstant n r s).pt = s.pt ∧ (vfeInstant n r s).du = s.du ∧ (vfeInstant n r s).scn = s.scn ∧
    (vfeInstant n r s).tu = s.tu ∧ (vfeInstant n r s).sul = s.sul ∧ (vfeInstant n r s).pending = s.pending := by
  unfold vfeInstant
  try dsimp only
  repeat' split
  all_goals simp

@[simp] theorem endCycle_frame (r : ScnOutcome) (s : State) :
    (endCycle r s).powered = s.powered ∧ (endCycle r s).pins = s.pins ∧ (endCycle r s).ties = s.ties ∧
    (endCycle r s).draws = s.draws ∧ (endCycle r s).notices = s.notices ∧ (endCycle r s).instants = s.instants ∧
    (endCycle r s).lc = s.lc ∧ (endCycle r s).tb = s.tb ∧ (endCycle r s).pt = s.pt ∧ (endCycle r s).du = s.du ∧
    (endCycle r s).vfe = s.vfe ∧ (endCycle r s).tu = s.tu ∧ (endCycle r s).re = s.re ∧ (endCycle r s).dru = s.dru ∧
    (endCycle r s).mdm = s.mdm ∧ (endCycle r s).bw = s.bw ∧ (endCycle r s).rs = s.rs ∧ (endCycle r s).sul = s.sul ∧
    (endCycle r s).pending = s.pending := by
  unfold endCycle
  try dsimp only
  all_goals simp

@[simp] theorem polarizeFaults_frame (s : State) :
    (polarizeFaults s).powered = s.powered ∧ (polarizeFaults s).pins = s.pins ∧ (polarizeFaults s).ties = s.ties ∧
    (polarizeFaults s).draws = s.draws ∧ (polarizeFaults s).notices = s.notices ∧
    (polarizeFaults s).instants = s.instants ∧ (polarizeFaults s).lc = s.lc ∧ (polarizeFaults s).tb = s.tb ∧
    (polarizeFaults s).pt = s.pt ∧ (polarizeFaults s).du = s.du ∧ (polarizeFaults s).vfe = s.vfe ∧
    (polarizeFaults s).tu = s.tu ∧ (polarizeFaults s).re = s.re ∧ (polarizeFaults s).dru = s.dru ∧
    (polarizeFaults s).mdm = s.mdm ∧ (polarizeFaults s).bw = s.bw ∧ (polarizeFaults s).sul = s.sul ∧
    (polarizeFaults s).pending = s.pending := by
  unfold polarizeFaults
  try dsimp only
  all_goals simp

@[simp] theorem enterPolarize_frame (s : State) :
    (enterPolarize s).powered = s.powered ∧ (enterPolarize s).pins = s.pins ∧ (enterPolarize s).ties = s.ties ∧
    (enterPolarize s).draws = s.draws ∧ (enterPolarize s).notices = s.notices ∧
    (enterPolarize s).instants = s.instants ∧ (enterPolarize s).lc = s.lc ∧ (enterPolarize s).tb = s.tb ∧
    (enterPolarize s).pt = s.pt ∧ (enterPolarize s).du = s.du ∧ (enterPolarize s).vfe = s.vfe ∧
    (enterPolarize s).tu = s.tu ∧ (enterPolarize s).re = s.re ∧ (enterPolarize s).dru = s.dru ∧
    (enterPolarize s).mdm = s.mdm ∧ (enterPolarize s).bw = s.bw ∧ (enterPolarize s).sul = s.sul ∧
    (enterPolarize s).pending = s.pending := by
  unfold enterPolarize
  try dsimp only
  repeat' split
  all_goals simp

@[simp] theorem markScn_frame (q : Second) (s : State) :
    (markScn q s).powered = s.powered ∧ (markScn q s).pins = s.pins ∧ (markScn q s).ties = s.ties ∧
    (markScn q s).draws = s.draws ∧ (markScn q s).notices = s.notices ∧ (markScn q s).instants = s.instants ∧
    (markScn q s).lc = s.lc ∧ (markScn q s).tb = s.tb ∧ (markScn q s).pt = s.pt ∧ (markScn q s).du = s.du ∧
    (markScn q s).vfe = s.vfe ∧ (markScn q s).tu = s.tu ∧ (markScn q s).re = s.re ∧ (markScn q s).dru = s.dru ∧
    (markScn q s).mdm = s.mdm ∧ (markScn q s).bw = s.bw ∧ (markScn q s).sul = s.sul ∧
    (markScn q s).pending = s.pending := by
  unfold markScn
  try dsimp only
  repeat' split
  all_goals simp

@[simp] theorem enterGate_frame (s : State) :
    (enterGate s).powered = s.powered ∧ (enterGate s).pins = s.pins ∧ (enterGate s).ties = s.ties ∧
    (enterGate s).draws = s.draws ∧ (enterGate s).notices = s.notices ∧ (enterGate s).instants = s.instants ∧
    (enterGate s).lc = s.lc ∧ (enterGate s).tb = s.tb ∧ (enterGate s).pt = s.pt ∧ (enterGate s).du = s.du ∧
    (enterGate s).vfe = s.vfe ∧ (enterGate s).tu = s.tu ∧ (enterGate s).re = s.re ∧ (enterGate s).dru = s.dru ∧
    (enterGate s).mdm = s.mdm ∧ (enterGate s).bw = s.bw ∧ (enterGate s).rs = s.rs ∧ (enterGate s).sul = s.sul ∧
    (enterGate s).pending = s.pending := by
  unfold enterGate
  try dsimp only
  repeat' split
  all_goals simp

@[simp] theorem closeGate_frame (s : State) :
    (closeGate s).powered = s.powered ∧ (closeGate s).pins = s.pins ∧ (closeGate s).ties = s.ties ∧
    (closeGate s).draws = s.draws ∧ (closeGate s).notices = s.notices ∧ (closeGate s).instants = s.instants ∧
    (closeGate s).lc = s.lc ∧ (closeGate s).tb = s.tb ∧ (closeGate s).pt = s.pt ∧ (closeGate s).du = s.du ∧
    (closeGate s).vfe = s.vfe ∧ (closeGate s).tu = s.tu ∧ (closeGate s).re = s.re ∧ (closeGate s).mdm = s.mdm ∧
    (closeGate s).bw = s.bw ∧ (closeGate s).rs = s.rs ∧ (closeGate s).sul = s.sul ∧ (closeGate s).pending = s.pending := by
  unfold closeGate
  try dsimp only
  repeat' split
  all_goals simp

@[simp] theorem deliverScalar_frame (v : Option Int) (s : State) :
    (deliverScalar v s).powered = s.powered ∧ (deliverScalar v s).pins = s.pins ∧ (deliverScalar v s).ties = s.ties ∧
    (deliverScalar v s).draws = s.draws ∧ (deliverScalar v s).notices = s.notices ∧
    (deliverScalar v s).instants = s.instants ∧ (deliverScalar v s).lc = s.lc ∧ (deliverScalar v s).tb = s.tb ∧
    (deliverScalar v s).pt = s.pt ∧ (deliverScalar v s).du = s.du ∧ (deliverScalar v s).vfe = s.vfe ∧
    (deliverScalar v s).tu = s.tu ∧ (deliverScalar v s).re = s.re ∧ (deliverScalar v s).sul = s.sul ∧
    (deliverScalar v s).pending = s.pending := by
  unfold deliverScalar
  try dsimp only
  repeat' split
  all_goals simp

@[simp] theorem abortCycle_frame (s : State) :
    (abortCycle s).powered = s.powered ∧ (abortCycle s).pins = s.pins ∧ (abortCycle s).ties = s.ties ∧
    (abortCycle s).draws = s.draws ∧ (abortCycle s).notices = s.notices ∧ (abortCycle s).instants = s.instants ∧
    (abortCycle s).lc = s.lc ∧ (abortCycle s).tb = s.tb ∧ (abortCycle s).pt = s.pt ∧ (abortCycle s).du = s.du ∧
    (abortCycle s).vfe = s.vfe ∧ (abortCycle s).tu = s.tu ∧ (abortCycle s).re = s.re ∧ (abortCycle s).dru = s.dru ∧
    (abortCycle s).mdm = s.mdm ∧ (abortCycle s).bw = s.bw ∧ (abortCycle s).rs = s.rs ∧ (abortCycle s).sul = s.sul ∧
    (abortCycle s).pending = s.pending := by
  unfold abortCycle
  try dsimp only
  repeat' split
  all_goals simp

@[simp] theorem handleCode_frame (ch : Channel) (code : BitVec 16) (q : Second) (ep : Epoch) (s : State) :
    (handleCode ch code q ep s).powered = s.powered ∧ (handleCode ch code q ep s).pins = s.pins ∧
    (handleCode ch code q ep s).ties = s.ties ∧ (handleCode ch code q ep s).draws = s.draws ∧
    (handleCode ch code q ep s).notices = s.notices ∧ (handleCode ch code q ep s).instants = s.instants ∧
    (handleCode ch code q ep s).lc = s.lc ∧ (handleCode ch code q ep s).tb = s.tb ∧
    (handleCode ch code q ep s).pt = s.pt ∧ (handleCode ch code q ep s).du = s.du ∧
    (handleCode ch code q ep s).vfe = s.vfe ∧ (handleCode ch code q ep s).scn = s.scn ∧
    (handleCode ch code q ep s).re = s.re ∧ (handleCode ch code q ep s).dru = s.dru ∧
    (handleCode ch code q ep s).mdm = s.mdm ∧ (handleCode ch code q ep s).bw = s.bw ∧
    (handleCode ch code q ep s).sul = s.sul ∧ (handleCode ch code q ep s).pending = s.pending := by
  unfold handleCode
  try dsimp only
  all_goals simp

@[simp] theorem completeAcquisition_frame (a b : BitVec 16) (s : State) :
    (completeAcquisition a b s).powered = s.powered ∧ (completeAcquisition a b s).pins = s.pins ∧
    (completeAcquisition a b s).ties = s.ties ∧ (completeAcquisition a b s).draws = s.draws ∧
    (completeAcquisition a b s).notices = s.notices ∧ (completeAcquisition a b s).instants = s.instants ∧
    (completeAcquisition a b s).lc = s.lc ∧ (completeAcquisition a b s).tb = s.tb ∧
    (completeAcquisition a b s).pt = s.pt ∧ (completeAcquisition a b s).du = s.du ∧
    (completeAcquisition a b s).vfe = s.vfe ∧ (completeAcquisition a b s).scn = s.scn ∧
    (completeAcquisition a b s).re = s.re ∧ (completeAcquisition a b s).dru = s.dru ∧
    (completeAcquisition a b s).mdm = s.mdm ∧ (completeAcquisition a b s).bw = s.bw ∧
    (completeAcquisition a b s).sul = s.sul ∧ (completeAcquisition a b s).pending = s.pending := by
  unfold completeAcquisition
  try dsimp only
  repeat' split
  all_goals simp

@[simp] theorem markTu_frame (q : Second) (s : State) :
    (markTu q s).powered = s.powered ∧ (markTu q s).pins = s.pins ∧ (markTu q s).ties = s.ties ∧
    (markTu q s).draws = s.draws ∧ (markTu q s).notices = s.notices ∧ (markTu q s).instants = s.instants ∧
    (markTu q s).lc = s.lc ∧ (markTu q s).tb = s.tb ∧ (markTu q s).pt = s.pt ∧ (markTu q s).du = s.du ∧
    (markTu q s).vfe = s.vfe ∧ (markTu q s).scn = s.scn ∧ (markTu q s).re = s.re ∧ (markTu q s).dru = s.dru ∧
    (markTu q s).mdm = s.mdm ∧ (markTu q s).bw = s.bw ∧ (markTu q s).rs = s.rs ∧ (markTu q s).sul = s.sul ∧
    (markTu q s).pending = s.pending := by
  unfold markTu
  try dsimp only
  repeat' split
  all_goals simp

end Sys2Proof.Machine
end

