-- ==== Sys2Proof/Laws/FrameLine.lean ====
section
/-! SUPPORT. For each shared operation of the Timebase, the Line Controller and the Discipline Unit: the parts of `State` it leaves as they stand. -/

namespace Sys2Proof.Machine

@[simp] theorem tbMark_frame (s : State) :
    (tbMark s).powered = s.powered ∧ (tbMark s).pins = s.pins ∧ (tbMark s).ties = s.ties ∧
    (tbMark s).draws = s.draws ∧ (tbMark s).lc = s.lc ∧ (tbMark s).pt = s.pt ∧ (tbMark s).du = s.du ∧
    (tbMark s).vfe = s.vfe ∧ (tbMark s).scn = s.scn ∧ (tbMark s).tu = s.tu ∧ (tbMark s).re = s.re ∧
    (tbMark s).dru = s.dru ∧ (tbMark s).mdm = s.mdm ∧ (tbMark s).bw = s.bw ∧ (tbMark s).rs = s.rs ∧
    (tbMark s).sul = s.sul ∧ (tbMark s).pending = s.pending := by
  unfold tbMark
  try dsimp only
  all_goals simp

@[simp] theorem contend_frame (s : State) :
    (contend s).powered = s.powered ∧ (contend s).pins = s.pins ∧ (contend s).ties = s.ties ∧
    (contend s).notices = s.notices ∧ (contend s).instants = s.instants ∧ (contend s).tb = s.tb ∧
    (contend s).pt = s.pt ∧ (contend s).du = s.du ∧ (contend s).vfe = s.vfe ∧ (contend s).scn = s.scn ∧
    (contend s).tu = s.tu ∧ (contend s).re = s.re ∧ (contend s).dru = s.dru ∧ (contend s).mdm = s.mdm ∧
    (contend s).bw = s.bw ∧ (contend s).rs = s.rs ∧ (contend s).sul = s.sul ∧ (contend s).pending = s.pending := by
  unfold contend
  try dsimp only
  repeat' split
  all_goals simp

@[simp] theorem promote_frame (s : State) :
    (promote s).powered = s.powered ∧ (promote s).pins = s.pins ∧ (promote s).ties = s.ties ∧
    (promote s).notices = s.notices ∧ (promote s).instants = s.instants ∧ (promote s).tb = s.tb ∧
    (promote s).pt = s.pt ∧ (promote s).du = s.du ∧ (promote s).vfe = s.vfe ∧ (promote s).scn = s.scn ∧
    (promote s).tu = s.tu ∧ (promote s).re = s.re ∧ (promote s).dru = s.dru ∧ (promote s).mdm = s.mdm ∧
    (promote s).bw = s.bw ∧ (promote s).rs = s.rs ∧ (promote s).sul = s.sul ∧ (promote s).pending = s.pending := by
  unfold promote
  try dsimp only
  all_goals simp

@[simp] theorem freeSlot_frame (n : SlotName) (s : State) :
    (freeSlot n s).powered = s.powered ∧ (freeSlot n s).pins = s.pins ∧ (freeSlot n s).ties = s.ties ∧
    (freeSlot n s).draws = s.draws ∧ (freeSlot n s).notices = s.notices ∧ (freeSlot n s).instants = s.instants ∧
    (freeSlot n s).tb = s.tb ∧ (freeSlot n s).pt = s.pt ∧ (freeSlot n s).du = s.du ∧ (freeSlot n s).vfe = s.vfe ∧
    (freeSlot n s).scn = s.scn ∧ (freeSlot n s).tu = s.tu ∧ (freeSlot n s).re = s.re ∧ (freeSlot n s).dru = s.dru ∧
    (freeSlot n s).mdm = s.mdm ∧ (freeSlot n s).bw = s.bw ∧ (freeSlot n s).sul = s.sul ∧
    (freeSlot n s).pending = s.pending := by
  unfold freeSlot
  try dsimp only
  repeat' split
  all_goals simp

@[simp] theorem abandonSlot_frame (n : SlotName) (s : State) :
    (abandonSlot n s).powered = s.powered ∧ (abandonSlot n s).pins = s.pins ∧ (abandonSlot n s).ties = s.ties ∧
    (abandonSlot n s).draws = s.draws ∧ (abandonSlot n s).notices = s.notices ∧
    (abandonSlot n s).instants = s.instants ∧ (abandonSlot n s).tb = s.tb ∧ (abandonSlot n s).pt = s.pt ∧
    (abandonSlot n s).du = s.du ∧ (abandonSlot n s).vfe = s.vfe ∧ (abandonSlot n s).scn = s.scn ∧
    (abandonSlot n s).tu = s.tu ∧ (abandonSlot n s).re = s.re ∧ (abandonSlot n s).dru = s.dru ∧
    (abandonSlot n s).mdm = s.mdm ∧ (abandonSlot n s).bw = s.bw ∧ (abandonSlot n s).sul = s.sul ∧
    (abandonSlot n s).pending = s.pending := by
  unfold abandonSlot
  try dsimp only
  all_goals simp

@[simp] theorem beginAttempt_frame (n : SlotName) (v : Slot) (s : State) :
    (beginAttempt n v s).powered = s.powered ∧ (beginAttempt n v s).pins = s.pins ∧
    (beginAttempt n v s).ties = s.ties ∧ (beginAttempt n v s).draws = s.draws ∧
    (beginAttempt n v s).notices = s.notices ∧ (beginAttempt n v s).instants = s.instants ∧
    (beginAttempt n v s).tb = s.tb ∧ (beginAttempt n v s).pt = s.pt ∧ (beginAttempt n v s).du = s.du ∧
    (beginAttempt n v s).vfe = s.vfe ∧ (beginAttempt n v s).scn = s.scn ∧ (beginAttempt n v s).tu = s.tu ∧
    (beginAttempt n v s).re = s.re ∧ (beginAttempt n v s).dru = s.dru ∧ (beginAttempt n v s).mdm = s.mdm ∧
    (beginAttempt n v s).bw = s.bw ∧ (beginAttempt n v s).sul = s.sul ∧ (beginAttempt n v s).pending = s.pending := by
  unfold beginAttempt
  try dsimp only
  repeat' split
  all_goals simp

@[simp] theorem placeAnnouncement_frame (a : Announcement) (s : State) :
    (placeAnnouncement a s).powered = s.powered ∧ (placeAnnouncement a s).pins = s.pins ∧
    (placeAnnouncement a s).ties = s.ties ∧ (placeAnnouncement a s).notices = s.notices ∧
    (placeAnnouncement a s).instants = s.instants ∧ (placeAnnouncement a s).tb = s.tb ∧
    (placeAnnouncement a s).pt = s.pt ∧ (placeAnnouncement a s).du = s.du ∧ (placeAnnouncement a s).vfe = s.vfe ∧
    (placeAnnouncement a s).scn = s.scn ∧ (placeAnnouncement a s).tu = s.tu ∧ (placeAnnouncement a s).re = s.re ∧
    (placeAnnouncement a s).dru = s.dru ∧ (placeAnnouncement a s).mdm = s.mdm ∧ (placeAnnouncement a s).bw = s.bw ∧
    (placeAnnouncement a s).rs = s.rs ∧ (placeAnnouncement a s).sul = s.sul ∧
    (placeAnnouncement a s).pending = s.pending := by
  unfold placeAnnouncement
  try dsimp only
  repeat' split
  all_goals simp

@[simp] theorem announceNow_frame (s : State) :
    (announceNow s).powered = s.powered ∧ (announceNow s).pins = s.pins ∧ (announceNow s).ties = s.ties ∧
    (announceNow s).notices = s.notices ∧ (announceNow s).instants = s.instants ∧ (announceNow s).tb = s.tb ∧
    (announceNow s).pt = s.pt ∧ (announceNow s).du = s.du ∧ (announceNow s).vfe = s.vfe ∧
    (announceNow s).scn = s.scn ∧ (announceNow s).tu = s.tu ∧ (announceNow s).re = s.re ∧
    (announceNow s).dru = s.dru ∧ (announceNow s).mdm = s.mdm ∧ (announceNow s).bw = s.bw ∧
    (announceNow s).rs = s.rs ∧ (announceNow s).sul = s.sul ∧ (announceNow s).pending = s.pending := by
  unfold announceNow
  try dsimp only
  repeat' split
  all_goals simp

@[simp] theorem announceWhenDue_frame (s : State) :
    (announceWhenDue s).powered = s.powered ∧ (announceWhenDue s).pins = s.pins ∧
    (announceWhenDue s).ties = s.ties ∧ (announceWhenDue s).notices = s.notices ∧
    (announceWhenDue s).instants = s.instants ∧ (announceWhenDue s).tb = s.tb ∧ (announceWhenDue s).pt = s.pt ∧
    (announceWhenDue s).du = s.du ∧ (announceWhenDue s).vfe = s.vfe ∧ (announceWhenDue s).scn = s.scn ∧
    (announceWhenDue s).tu = s.tu ∧ (announceWhenDue s).re = s.re ∧ (announceWhenDue s).dru = s.dru ∧
    (announceWhenDue s).mdm = s.mdm ∧ (announceWhenDue s).bw = s.bw ∧ (announceWhenDue s).rs = s.rs ∧
    (announceWhenDue s).sul = s.sul ∧ (announceWhenDue s).pending = s.pending := by
  unfold announceWhenDue
  try dsimp only
  repeat' split
  all_goals simp

@[simp] theorem moveNotice_frame (b : Bool) (s : State) :
    (moveNotice b s).powered = s.powered ∧ (moveNotice b s).pins = s.pins ∧ (moveNotice b s).ties = s.ties ∧
    (moveNotice b s).draws = s.draws ∧ (moveNotice b s).notices = s.notices ∧
    (moveNotice b s).instants = s.instants ∧ (moveNotice b s).lc = s.lc ∧ (moveNotice b s).tb = s.tb ∧
    (moveNotice b s).pt = s.pt ∧ (moveNotice b s).du = s.du ∧ (moveNotice b s).scn = s.scn ∧
    (moveNotice b s).tu = s.tu ∧ (moveNotice b s).sul = s.sul ∧ (moveNotice b s).pending = s.pending := by
  unfold moveNotice
  try dsimp only
  repeat' split
  all_goals simp

@[simp] theorem moveClock_frame (b : Bool) (th : Int) (s : State) :
    (moveClock b th s).powered = s.powered ∧ (moveClock b th s).pins = s.pins ∧ (moveClock b th s).ties = s.ties ∧
    (moveClock b th s).notices = s.notices ∧ (moveClock b th s).instants = s.instants ∧
    (moveClock b th s).tu = s.tu ∧ (moveClock b th s).sul = s.sul ∧ (moveClock b th s).pending = s.pending := by
  unfold moveClock
  try dsimp only
  repeat' split
  all_goals simp

@[simp] theorem filterSample_frame (b : Nat) (th : Int) (s : State) :
    (filterSample b th s).powered = s.powered ∧ (filterSample b th s).pins = s.pins ∧
    (filterSample b th s).ties = s.ties ∧ (filterSample b th s).draws = s.draws ∧
    (filterSample b th s).notices = s.notices ∧ (filterSample b th s).instants = s.instants ∧
    (filterSample b th s).lc = s.lc ∧ (filterSample b th s).pt = s.pt ∧ (filterSample b th s).vfe = s.vfe ∧
    (filterSample b th s).scn = s.scn ∧ (filterSample b th s).tu = s.tu ∧ (filterSample b th s).re = s.re ∧
    (filterSample b th s).dru = s.dru ∧ (filterSample b th s).mdm = s.mdm ∧ (filterSample b th s).bw = s.bw ∧
    (filterSample b th s).rs = s.rs ∧ (filterSample b th s).sul = s.sul ∧ (filterSample b th s).pending = s.pending := by
  unfold filterSample
  try dsimp only
  all_goals simp

@[simp] theorem sampleAcquire_frame (th : Int) (s : State) :
    (sampleAcquire th s).powered = s.powered ∧ (sampleAcquire th s).pins = s.pins ∧
    (sampleAcquire th s).ties = s.ties ∧ (sampleAcquire th s).notices = s.notices ∧
    (sampleAcquire th s).instants = s.instants ∧ (sampleAcquire th s).tu = s.tu ∧ (sampleAcquire th s).sul = s.sul ∧
    (sampleAcquire th s).pending = s.pending := by
  unfold sampleAcquire
  try dsimp only
  repeat' split
  all_goals simp

@[simp] theorem sampleLocked_frame (th : Int) (s : State) :
    (sampleLocked th s).powered = s.powered ∧ (sampleLocked th s).pins = s.pins ∧ (sampleLocked th s).ties = s.ties ∧
    (sampleLocked th s).notices = s.notices ∧ (sampleLocked th s).instants = s.instants ∧
    (sampleLocked th s).tu = s.tu ∧ (sampleLocked th s).sul = s.sul ∧ (sampleLocked th s).pending = s.pending := by
  unfold sampleLocked
  try dsimp only
  repeat' split
  all_goals simp

@[simp] theorem duSample_frame (r : Reference) (th : Int) (s : State) :
    (duSample r th s).powered = s.powered ∧ (duSample r th s).pins = s.pins ∧ (duSample r th s).ties = s.ties ∧
    (duSample r th s).notices = s.notices ∧ (duSample r th s).instants = s.instants ∧ (duSample r th s).tu = s.tu ∧
    (duSample r th s).sul = s.sul ∧ (duSample r th s).pending = s.pending := by
  unfold duSample
  try dsimp only
  repeat' split
  all_goals simp

@[simp] theorem loseReference_frame (s : State) :
    (loseReference s).powered = s.powered ∧ (loseReference s).pins = s.pins ∧ (loseReference s).ties = s.ties ∧
    (loseReference s).draws = s.draws ∧ (loseReference s).notices = s.notices ∧
    (loseReference s).instants = s.instants ∧ (loseReference s).lc = s.lc ∧ (loseReference s).pt = s.pt ∧
    (loseReference s).vfe = s.vfe ∧ (loseReference s).scn = s.scn ∧ (loseReference s).tu = s.tu ∧
    (loseReference s).re = s.re ∧ (loseReference s).dru = s.dru ∧ (loseReference s).mdm = s.mdm ∧
    (loseReference s).bw = s.bw ∧ (loseReference s).rs = s.rs ∧ (loseReference s).sul = s.sul ∧
    (loseReference s).pending = s.pending := by
  unfold loseReference
  try dsimp only
  all_goals simp

@[simp] theorem selectSource_frame (r : Reference) (q : Second) (s : State) :
    (selectSource r q s).powered = s.powered ∧ (selectSource r q s).pins = s.pins ∧
    (selectSource r q s).ties = s.ties ∧ (selectSource r q s).draws = s.draws ∧
    (selectSource r q s).notices = s.notices ∧ (selectSource r q s).instants = s.instants ∧
    (selectSource r q s).lc = s.lc ∧ (selectSource r q s).pt = s.pt ∧ (selectSource r q s).vfe = s.vfe ∧
    (selectSource r q s).scn = s.scn ∧ (selectSource r q s).tu = s.tu ∧ (selectSource r q s).re = s.re ∧
    (selectSource r q s).dru = s.dru ∧ (selectSource r q s).mdm = s.mdm ∧ (selectSource r q s).bw = s.bw ∧
    (selectSource r q s).sul = s.sul ∧ (selectSource r q s).pending = s.pending := by
  unfold selectSource
  try dsimp only
  all_goals simp

@[simp] theorem evaluateSelection_frame (q : Second) (s : State) :
    (evaluateSelection q s).powered = s.powered ∧ (evaluateSelection q s).pins = s.pins ∧
    (evaluateSelection q s).ties = s.ties ∧ (evaluateSelection q s).draws = s.draws ∧
    (evaluateSelection q s).notices = s.notices ∧ (evaluateSelection q s).instants = s.instants ∧
    (evaluateSelection q s).lc = s.lc ∧ (evaluateSelection q s).pt = s.pt ∧ (evaluateSelection q s).vfe = s.vfe ∧
    (evaluateSelection q s).scn = s.scn ∧ (evaluateSelection q s).tu = s.tu ∧ (evaluateSelection q s).re = s.re ∧
    (evaluateSelection q s).dru = s.dru ∧ (evaluateSelection q s).mdm = s.mdm ∧ (evaluateSelection q s).bw = s.bw ∧
    (evaluateSelection q s).sul = s.sul ∧ (evaluateSelection q s).pending = s.pending := by
  unfold evaluateSelection
  try dsimp only
  repeat' split
  all_goals simp

@[simp] theorem markDu_frame (q : Second) (s : State) :
    (markDu q s).powered = s.powered ∧ (markDu q s).pins = s.pins ∧ (markDu q s).ties = s.ties ∧
    (markDu q s).draws = s.draws ∧ (markDu q s).notices = s.notices ∧ (markDu q s).instants = s.instants ∧
    (markDu q s).lc = s.lc ∧ (markDu q s).pt = s.pt ∧ (markDu q s).vfe = s.vfe ∧ (markDu q s).scn = s.scn ∧
    (markDu q s).tu = s.tu ∧ (markDu q s).re = s.re ∧ (markDu q s).dru = s.dru ∧ (markDu q s).mdm = s.mdm ∧
    (markDu q s).bw = s.bw ∧ (markDu q s).sul = s.sul ∧ (markDu q s).pending = s.pending := by
  unfold markDu
  try dsimp only
  all_goals simp

end Sys2Proof.Machine
end

