-- ==== Sys2Proof/Laws/FrameNode.lean ====
section
/-! SUPPORT. For each shared operation of answers, starts, the restart and the notices: the parts of `State` it leaves as they stand. -/

namespace Sys2Proof.Machine

@[simp] theorem placeAnswer_frame (n : SlotName) (q : HeldQuery) (c : Composition) (s : State) :
    (placeAnswer n q c s).powered = s.powered ∧ (placeAnswer n q c s).pins = s.pins ∧
    (placeAnswer n q c s).ties = s.ties ∧ (placeAnswer n q c s).notices = s.notices ∧
    (placeAnswer n q c s).instants = s.instants ∧ (placeAnswer n q c s).tb = s.tb ∧ (placeAnswer n q c s).pt = s.pt ∧
    (placeAnswer n q c s).du = s.du ∧ (placeAnswer n q c s).vfe = s.vfe ∧ (placeAnswer n q c s).scn = s.scn ∧
    (placeAnswer n q c s).tu = s.tu ∧ (placeAnswer n q c s).re = s.re ∧ (placeAnswer n q c s).dru = s.dru ∧
    (placeAnswer n q c s).mdm = s.mdm ∧ (placeAnswer n q c s).bw = s.bw ∧ (placeAnswer n q c s).rs = s.rs ∧
    (placeAnswer n q c s).sul = s.sul ∧ (placeAnswer n q c s).pending = s.pending := by
  unfold placeAnswer
  try dsimp only
  all_goals simp

/-- R180, R186: every case of the build list after a restart's start of the current minute. -/
theorem restartBuildList_cases (rs : RS) :
    (rs.current = none → restartBuildList rs = rs.buildList)
    ∧ (∀ c, rs.current = some c → rs.buildList.length < 16 → restartBuildList rs = rs.buildList ++ [c])
    ∧ (∀ c b head lost rest, rs.current = some c → 16 ≤ rs.buildList.length → rs.build = some b →
        rs.buildList = head :: lost :: rest → restartBuildList rs = head :: rest ++ [c])
    ∧ (∀ c, rs.current = some c → 16 ≤ rs.buildList.length → rs.build = none →
        restartBuildList rs = rs.buildList.drop 1 ++ [c]) := by
  refine ⟨fun h => ?_, fun c h hl => ?_, fun c b head lost rest h hl hb he => ?_, fun c h hl hb => ?_⟩
  · simp [restartBuildList, h]
  · simp [restartBuildList, h, hl]
  · have hn : ¬ rest.length + 1 + 1 < 16 := by simpa [he] using hl
    simp [restartBuildList, h, hb, he, hn]
  · simp [restartBuildList, h, Nat.not_lt.mpr hl, hb]

@[simp] theorem startVfe_frame (s : State) :
    (startVfe s).powered = s.powered ∧ (startVfe s).ties = s.ties ∧ (startVfe s).draws = s.draws ∧
    (startVfe s).notices = s.notices ∧ (startVfe s).instants = s.instants ∧ (startVfe s).lc = s.lc ∧
    (startVfe s).tb = s.tb ∧ (startVfe s).pt = s.pt ∧ (startVfe s).du = s.du ∧ (startVfe s).scn = s.scn ∧
    (startVfe s).tu = s.tu ∧ (startVfe s).re = s.re ∧ (startVfe s).dru = s.dru ∧ (startVfe s).mdm = s.mdm ∧
    (startVfe s).bw = s.bw ∧ (startVfe s).rs = s.rs ∧ (startVfe s).sul = s.sul ∧ (startVfe s).pending = s.pending := by
  unfold startVfe
  try dsimp only
  repeat' split
  all_goals simp

@[simp] theorem finishEntries_frame (s : State) :
    (finishEntries s).powered = s.powered ∧ (finishEntries s).pins = s.pins ∧ (finishEntries s).ties = s.ties ∧
    (finishEntries s).draws = s.draws ∧ (finishEntries s).notices = s.notices ∧
    (finishEntries s).instants = s.instants ∧ (finishEntries s).lc = s.lc ∧ (finishEntries s).tb = s.tb ∧
    (finishEntries s).pt = s.pt ∧ (finishEntries s).du = s.du ∧ (finishEntries s).vfe = s.vfe ∧
    (finishEntries s).scn = s.scn ∧ (finishEntries s).tu = s.tu ∧ (finishEntries s).re = s.re ∧
    (finishEntries s).dru = s.dru ∧ (finishEntries s).bw = s.bw ∧ (finishEntries s).sul = s.sul ∧
    (finishEntries s).pending = s.pending := by
  unfold finishEntries
  try dsimp only
  all_goals simp

@[simp] theorem closeAtRestart_frame (s : State) :
    (closeAtRestart s).powered = s.powered ∧ (closeAtRestart s).pins = s.pins ∧ (closeAtRestart s).ties = s.ties ∧
    (closeAtRestart s).draws = s.draws ∧ (closeAtRestart s).notices = s.notices ∧
    (closeAtRestart s).instants = s.instants ∧ (closeAtRestart s).lc = s.lc ∧ (closeAtRestart s).tb = s.tb ∧
    (closeAtRestart s).pt = s.pt ∧ (closeAtRestart s).du = s.du ∧ (closeAtRestart s).vfe = s.vfe ∧
    (closeAtRestart s).scn = s.scn ∧ (closeAtRestart s).tu = s.tu ∧ (closeAtRestart s).re = s.re ∧
    (closeAtRestart s).sul = s.sul ∧ (closeAtRestart s).pending = s.pending := by
  unfold closeAtRestart
  try dsimp only
  repeat' split
  all_goals simp

@[simp] theorem finishChains_frame (s : State) :
    (finishChains s).powered = s.powered ∧ (finishChains s).pins = s.pins ∧ (finishChains s).ties = s.ties ∧
    (finishChains s).draws = s.draws ∧ (finishChains s).notices = s.notices ∧
    (finishChains s).instants = s.instants ∧ (finishChains s).lc = s.lc ∧ (finishChains s).tb = s.tb ∧
    (finishChains s).pt = s.pt ∧ (finishChains s).du = s.du ∧ (finishChains s).vfe = s.vfe ∧
    (finishChains s).scn = s.scn ∧ (finishChains s).tu = s.tu ∧ (finishChains s).dru = s.dru ∧
    (finishChains s).mdm = s.mdm ∧ (finishChains s).bw = s.bw ∧ (finishChains s).sul = s.sul ∧
    (finishChains s).pending = s.pending := by
  unfold finishChains
  try dsimp only
  all_goals simp

@[simp] theorem restartNode_frame (m : Option MemoryRecord) (s : State) :
    (restartNode m s).powered = s.powered ∧ (restartNode m s).ties = s.ties ∧ (restartNode m s).draws = s.draws ∧
    (restartNode m s).notices = s.notices ∧ (restartNode m s).instants = s.instants ∧ (restartNode m s).pending = s.pending := by
  unfold restartNode
  try dsimp only
  all_goals simp

@[simp] theorem afterLeaving_frame (m : Option MemoryRecord) (b : Bool) (s : State) :
    (afterLeaving m b s).powered = s.powered ∧ (afterLeaving m b s).ties = s.ties ∧
    (afterLeaving m b s).notices = s.notices ∧ (afterLeaving m b s).instants = s.instants ∧
    (afterLeaving m b s).pending = s.pending := by
  unfold afterLeaving
  try dsimp only
  repeat' split
  all_goals simp

@[simp] theorem abandonFrame_frame (m : Option MemoryRecord) (n : SlotName) (s : State) :
    (abandonFrame m n s).powered = s.powered ∧ (abandonFrame m n s).ties = s.ties ∧
    (abandonFrame m n s).notices = s.notices ∧ (abandonFrame m n s).instants = s.instants ∧
    (abandonFrame m n s).pending = s.pending := by
  unfold abandonFrame
  try dsimp only
  all_goals simp

@[simp] theorem markPtState_frame (s : State) :
    (markPtState s).powered = s.powered ∧ (markPtState s).pins = s.pins ∧ (markPtState s).ties = s.ties ∧
    (markPtState s).draws = s.draws ∧ (markPtState s).notices = s.notices ∧ (markPtState s).instants = s.instants ∧
    (markPtState s).lc = s.lc ∧ (markPtState s).tb = s.tb ∧ (markPtState s).du = s.du ∧ (markPtState s).vfe = s.vfe ∧
    (markPtState s).scn = s.scn ∧ (markPtState s).tu = s.tu ∧ (markPtState s).re = s.re ∧
    (markPtState s).dru = s.dru ∧ (markPtState s).mdm = s.mdm ∧ (markPtState s).bw = s.bw ∧
    (markPtState s).rs = s.rs ∧ (markPtState s).sul = s.sul ∧ (markPtState s).pending = s.pending := by
  unfold markPtState
  try dsimp only
  all_goals simp

@[simp] theorem takeMark_frame (b : MarkBlock) (q : Second) (ep : Epoch) (s : State) :
    (takeMark b q ep s).powered = s.powered ∧ (takeMark b q ep s).ties = s.ties ∧
    (takeMark b q ep s).draws = s.draws ∧ (takeMark b q ep s).notices = s.notices ∧
    (takeMark b q ep s).instants = s.instants ∧ (takeMark b q ep s).lc = s.lc ∧ (takeMark b q ep s).sul = s.sul ∧
    (takeMark b q ep s).pending = s.pending := by
  unfold takeMark
  try dsimp only
  repeat' split
  all_goals simp

@[simp] theorem takeNotice_frame (b : MarkBlock) (s : State) :
    (takeNotice b s).powered = s.powered ∧ (takeNotice b s).ties = s.ties ∧ (takeNotice b s).draws = s.draws ∧
    (takeNotice b s).instants = s.instants ∧ (takeNotice b s).lc = s.lc ∧ (takeNotice b s).sul = s.sul ∧
    (takeNotice b s).pending = s.pending := by
  unfold takeNotice
  try dsimp only
  repeat' split
  all_goals simp

@[simp] theorem takeNotices_frame (bs : List MarkBlock) (s : State) :
    (takeNotices bs s).powered = s.powered ∧ (takeNotices bs s).ties = s.ties ∧ (takeNotices bs s).draws = s.draws ∧
    (takeNotices bs s).instants = s.instants ∧ (takeNotices bs s).lc = s.lc ∧ (takeNotices bs s).sul = s.sul ∧
    (takeNotices bs s).pending = s.pending := by
  induction bs generalizing s with
  | nil => simp [takeNotices]
  | cons b bs ih =>
    simp only [takeNotices, List.foldl_cons] at ih ⊢
    simpa using ih (takeNotice b s)

@[simp] theorem takeOwnMark_frame (b : MarkBlock) (s : State) :
    (takeOwnMark b s).powered = s.powered ∧ (takeOwnMark b s).ties = s.ties ∧ (takeOwnMark b s).draws = s.draws ∧
    (takeOwnMark b s).instants = s.instants ∧ (takeOwnMark b s).lc = s.lc ∧ (takeOwnMark b s).sul = s.sul ∧
    (takeOwnMark b s).pending = s.pending := by
  unfold takeOwnMark
  try dsimp only
  repeat' split
  all_goals simp

@[simp] theorem emitInstant_frame (k : Instant) (r : Axes (BitVec 24)) (s : State) :
    (emitInstant k r s).powered = s.powered ∧ (emitInstant k r s).ties = s.ties ∧
    (emitInstant k r s).draws = s.draws ∧ (emitInstant k r s).notices = s.notices ∧ (emitInstant k r s).lc = s.lc ∧
    (emitInstant k r s).pt = s.pt ∧ (emitInstant k r s).du = s.du ∧ (emitInstant k r s).scn = s.scn ∧
    (emitInstant k r s).tu = s.tu ∧ (emitInstant k r s).sul = s.sul ∧ (emitInstant k r s).pending = s.pending := by
  unfold emitInstant
  try dsimp only
  repeat' split
  all_goals simp

end Sys2Proof.Machine
end

