-- ==== Sys2Proof/Laws/Line.lean ====
section
/-! SUPPORT. What the shared operations of the Line Controller can do: the effect of a command on a node that runs or is held in
RESET, the contention of the SENDING frame, and the turn of the next frame. -/

namespace Sys2Proof.Machine

theorem whenOn_on {s : State} {f : State → State} (h : s.powered = true) : whenOn s f = f s := by
  simp [whenOn, h]

theorem whenOn_off {s : State} {f : State → State} (h : s.powered = false) : whenOn s f = s := by
  simp [whenOn, h]

theorem spreadDraw_le (n : Nat) : (Config.spreadDraw n).toNat ≤ 15 := by
  have := (Config.spreadDraw n).isLt
  omega

theorem backoffSlots_lt (a draw : Nat) : backoffSlots a draw < 2 ^ min a 6 :=
  Nat.mod_lt _ (by positivity)

theorem contend_stays {s : State} (h : s.lc.contention ≠ .waitIdle ∨ mayTransmit s = false) : contend s = s := by
  unfold contend
  rw [if_neg]
  rintro ⟨h1, h2⟩
  rcases h with h | h
  · exact h h1
  · simp [h] at h2

theorem contend_spreads {s : State} (h : s.lc.contention = .waitIdle) (hm : mayTransmit s = true) :
    contend s = { s with
      lc := { s.lc with contention := .spread (40 * (Config.spreadDraw s.draws).toNat) }
      draws := s.draws + 1 } := by
  unfold contend
  rw [if_pos ⟨h, hm⟩]
  rfl

/-- `mayTransmit` as R7 lists its conditions. -/
theorem mayTransmit_iff (s : State) : mayTransmit s = true ↔
    s.lc.monitor = .idle ∧ listenOnly s = false ∧ s.lc.duplicateId = false ∧ s.lc.joinListen = none ∧ s.lc.silence = none := by
  simp [mayTransmit, and_assoc]

theorem sendingSlot_of {s : State} {n : SlotName} {v : Slot} (ho : isSending s.lc.slotA = false ∨ isSending s.lc.slotB = false)
    (h1 : getSlot n s.lc = some v) (h2 : v.sending = true) : sendingSlot s.lc = some n := by
  cases n <;> simp_all [sendingSlot, getSlot, isSending]

@[simp] theorem getSlot_setSlot (n : SlotName) (v : Option Slot) (l : LC) : getSlot n (setSlot n v l) = v := by
  cases n <;> rfl

theorem getSlot_setSlot_ne {n m : SlotName} (h : m ≠ n) (v : Option Slot) (l : LC) :
    getSlot m (setSlot n v l) = getSlot m l := by
  cases n <;> cases m <;> first | rfl | exact absurd rfl h

/-- With a slot SENDING, no other takes its turn (R6). -/
theorem promoteLc_busy {l : LC} {n : SlotName} (h : sendingSlot l = some n) : promoteLc l = l := by
  unfold promoteLc
  rw [h]

/-- With no READY slot, none takes its turn. -/
theorem promoteLc_empty {l : LC} (h : l.readyOrder = []) : promoteLc l = l := by
  unfold promoteLc
  rw [h]
  cases sendingSlot l <;> rfl

/-- The READY slot that became READY earliest takes its turn when none is SENDING (R6). -/
theorem promoteLc_turn {l : LC} {n : SlotName} {rest : List SlotName} {v : Slot} (h : sendingSlot l = none)
    (hr : l.readyOrder = n :: rest) (hv : getSlot n l = some v) :
    promoteLc l = { setSlot n (some { v with sending := true, expiry := none }) l with
      readyOrder := rest
      contention := .waitIdle } := by
  unfold promoteLc
  rw [h, hr]
  simp only [hv]

end Sys2Proof.Machine
end

