-- ==== Sys2Proof/Laws/PerInstr.lean ====
section
/-! SUPPORT. A statement about every command of the table, constructor by constructor: what its operands must satisfy for it to
be a command of the node. -/

namespace Sys2Proof.Laws.WellFormed

/-- What the operands of a command must satisfy: the configuration memory holds 192 octets (chapter 12), a block takes one
notice per mark (R29), a received run opens with a start symbol (R13), a symbol has been read back at a collision (R8),
a command brings one to ten bits of an octet of the label line (R32). The operands of every other command are in range by their types. -/
def operandsFit : Instr → Prop
  | .powerOn _ memory | .jamEnd memory | .frameSent memory | .jabberCut memory | .answerExpiry _ memory =>
    ∀ m, memory = some m → m.octets.length = 192
  | .secondMark now => now.Nodup
  | .frameReceived levels memory =>
    levels.head? = some .dominant ∧ ∀ m, memory = some m → m.octets.length = 192
  | .collision readBack => readBack ≠ []
  | .labelOctetReceived levels => levels ≠ [] ∧ levels.length ≤ 10
  | _ => True

/-- A command is well-formed exactly when its operands fit. -/
def Statement (i : Instr) : Prop :=
  i.wf = true ↔ operandsFit i

theorem of_fit {i : Instr} (h : i.wf = true) (hf : operandsFit i) : Statement i :=
  ⟨fun _ => hf, fun _ => h⟩

/-- What the configuration memory holds fits when it has 192 octets. -/
theorem readWf_iff (memory : Option MemoryRecord) :
    MemoryRecord.readWf memory = true ↔ ∀ m, memory = some m → m.octets.length = 192 := by
  cases memory <;> simp [MemoryRecord.readWf, MemoryRecord.wf]

theorem powerOn (straps : StationId) (memory : Option MemoryRecord) : Statement (.powerOn straps memory) :=
  readWf_iff memory

theorem lineActivityStart : Statement .lineActivityStart := of_fit rfl trivial

theorem lineIdle : Statement .lineIdle := of_fit rfl trivial

theorem lineStuck : Statement .lineStuck := of_fit rfl trivial

theorem spreadEnd : Statement .spreadEnd := of_fit rfl trivial

theorem collision (readBack : List Level) : Statement (.collision readBack) := by
  simp [Statement, operandsFit, Instr.wf, Level.readBackWf]

theorem jamEnd (memory : Option MemoryRecord) : Statement (.jamEnd memory) := readWf_iff memory

theorem backoffEnd : Statement .backoffEnd := of_fit rfl trivial

theorem frameSent (memory : Option MemoryRecord) : Statement (.frameSent memory) := readWf_iff memory

theorem jabberCut (memory : Option MemoryRecord) : Statement (.jabberCut memory) := readWf_iff memory

theorem jabberSilenceEnd : Statement .jabberSilenceEnd := of_fit rfl trivial

theorem joinListenEnd : Statement .joinListenEnd := of_fit rfl trivial

theorem frameReceived (levels : List Level) (memory : Option MemoryRecord) :
    Statement (.frameReceived levels memory) := by
  simp only [Statement, operandsFit, Instr.wf, Bool.and_eq_true, readWf_iff]
  simp [Level.runWf]

theorem dispatch : Statement .dispatch := of_fit rfl trivial

theorem queryExpiry : Statement .queryExpiry := of_fit rfl trivial

theorem announcePoint : Statement .announcePoint := of_fit rfl trivial

theorem answerExpiry (slot : SlotName) (memory : Option MemoryRecord) : Statement (.answerExpiry slot memory) :=
  readWf_iff memory

theorem readSeconds : Statement .readSeconds := of_fit rfl trivial

theorem readMinutes : Statement .readMinutes := of_fit rfl trivial

theorem status : Statement .status := of_fit rfl trivial

theorem peers : Statement .peers := of_fit rfl trivial

theorem recenter : Statement .recenter := of_fit rfl trivial

theorem reseed : Statement .reseed := of_fit rfl trivial

theorem restart : Statement .restart := of_fit rfl trivial

theorem unknownRequest : Statement .unknownRequest := of_fit rfl trivial

theorem announceHandled : Statement .announceHandled := of_fit rfl trivial

theorem secondMark (now : List MarkBlock) : Statement (.secondMark now) := by
  simp [Statement, operandsFit, Instr.wf, MarkBlock.orderWf]

theorem entryStale : Statement .entryStale := of_fit rfl trivial

theorem entryRemoved : Statement .entryRemoved := of_fit rfl trivial

theorem holdoverExpiry : Statement .holdoverExpiry := of_fit rfl trivial

theorem holdoffEnd : Statement .holdoffEnd := of_fit rfl trivial

theorem pendingExpiry : Statement .pendingExpiry := of_fit rfl trivial

theorem heldFLapse : Statement .heldFLapse := of_fit rfl trivial

theorem disturbedTimeExceeded : Statement .disturbedTimeExceeded := of_fit rfl trivial

theorem secondMarkOutputEnd : Statement .secondMarkOutputEnd := of_fit rfl trivial

theorem sampleInstant (k : Instant) (residual : Axes (BitVec 24)) : Statement (.sampleInstant k residual) := of_fit rfl trivial

theorem settleComplete (k : Instant) (residual : Axes (BitVec 24)) : Statement (.settleComplete k residual) := of_fit rfl trivial

theorem pulseEdge : Statement .pulseEdge := of_fit rfl trivial

theorem edgeWindowEnd : Statement .edgeWindowEnd := of_fit rfl trivial

theorem labelGapEnd : Statement .labelGapEnd := of_fit rfl trivial

theorem edgeAgeLimit : Statement .edgeAgeLimit := of_fit rfl trivial

theorem labelAgeLimit : Statement .labelAgeLimit := of_fit rfl trivial

theorem driveGoodAppears : Statement .driveGoodAppears := of_fit rfl trivial

theorem driveStartTimeout : Statement .driveStartTimeout := of_fit rfl trivial

theorem loopGoodAppears : Statement .loopGoodAppears := of_fit rfl trivial

theorem loopStartTimeout : Statement .loopStartTimeout := of_fit rfl trivial

theorem driveGoodLost : Statement .driveGoodLost := of_fit rfl trivial

theorem loopGoodLost (driveLostToo : Bool) : Statement (.loopGoodLost driveLostToo) := of_fit rfl trivial

theorem polarizeExpiry : Statement .polarizeExpiry := of_fit rfl trivial

theorem polarizeCurrentFault (present : Bool) : Statement (.polarizeCurrentFault present) := of_fit rfl trivial

theorem deadExpiry : Statement .deadExpiry := of_fit rfl trivial

theorem risingCrossing : Statement .risingCrossing := of_fit rfl trivial

theorem signalDetectLost (absent : Bool) : Statement (.signalDetectLost absent) := of_fit rfl trivial

theorem gateExpiry : Statement .gateExpiry := of_fit rfl trivial

theorem tuSettleExpiry : Statement .tuSettleExpiry := of_fit rfl trivial

theorem conversionComplete (sensorCode : BitVec 16) (pierCode : BitVec 16) : Statement (.conversionComplete sensorCode pierCode) := of_fit rfl trivial

theorem divideComplete : Statement .divideComplete := of_fit rfl trivial

theorem rootComplete : Statement .rootComplete := of_fit rfl trivial

theorem resetAsserted : Statement .resetAsserted := of_fit rfl trivial

theorem labelOctetReceived (levels : List Level) : Statement (.labelOctetReceived levels) := by
  simp [Statement, operandsFit, Instr.wf, Level.octetWf]

end Sys2Proof.Laws.WellFormed
end

