-- ==== Sys2Proof/Tests/Slice0.lean ====
section
/-! SUPPORT. The own tests: ill-formed commands refused, the worked figures of the manual, one step of some commands, and for
every statement with hypotheses a state and operands that meet them. -/

namespace Sys2Proof.Tests

open Sys2Proof Sys2Proof.Machine

/-! ## Ill-formed commands -/

theorem test_short_memory_refused : Instr.wf (.powerOn 3 (some ⟨[0x2D], ⟨0, 0, 0, 0, 0, 0, ⟨0, 0, 0⟩, ⟨0, 0, 0⟩, ⟨0, 0, 0⟩, 0, 0,
    0, 0, 0, 0, ⟨0, 0⟩, ⟨0, 0⟩, ⟨0, 0⟩, ⟨0, 0⟩, ⟨0, 0⟩, 0, 0, ⟨0, 0, 0⟩, ⟨0, 0, 0⟩, 0, 0, 0, 0, 0, 0, 0, 0, 0, 0, 0⟩⟩)) = false := by
  decide

theorem test_mark_taken_twice_refused : Instr.wf (.secondMark [.re, .du, .re]) = false := by decide

theorem test_empty_run_refused : Instr.wf (.frameReceived [] none) = false
    ∧ Instr.wf (.frameReceived [.recessive] none) = false ∧ Instr.wf (.collision []) = false
    ∧ Instr.wf (.labelOctetReceived []) = false ∧ Instr.wf (.labelOctetReceived (List.replicate 11 .dominant)) = false := by
  decide

theorem test_no_word_spells_a_command (nbits w : Nat) : decodeTableWord nbits w = none := rfl

/-! ## Worked figures -/

/-- Figure 61. -/
theorem test_figure_61 : roundDiv 7 2 = 4 ∧ roundDiv (-7) 2 = -4 ∧ roundDiv (-5) 4 = -1 ∧ roundDiv 47550 100 = 476
    ∧ roundDiv (-41) 2 = -21 := by
  decide

/-- Figure 75. -/
theorem test_figure_75 : roundRoot 12 = 3 ∧ roundRoot 13 = 4 ∧ roundRoot 20 = 4 ∧ roundRoot 21 = 5 ∧ roundRoot 0 = 0 := by
  decide +kernel

/-- Figure 64. -/
theorem test_figure_64 : sumValue ⟨1008062794, 1⟩ = 5303030090 ∧ sumValue ⟨4080482914, -1⟩ = -214484382 := by decide

/-- Figure 51. -/
theorem test_figure_51 : roundDiv (2000 * 234872000000) 9400000 = 49972766 := by decide

/-- Figure 18, the rows s, s + 1 and s + 3. -/
theorem test_figure_18 :
    (fixRate { TB.reset with trim := 176, slew := some 225 }).remainder = 1
    ∧ (fixRate { TB.reset with trim := 213, slew := some 150, remainder := 1 }).schedule = some ⟨4, 0⟩
    ∧ (fixRate { TB.reset with trim := -250 }).schedule = some ⟨-3, 0⟩
    ∧ (fixRate { TB.reset with trim := -250 }).remainder = 50
    ∧ [1, 2, 3].map (correctionPosition (-3)) = [1666667, 5000000, 8333333] := by
  decide

/-- Figure 20, edges 1 to 4. -/
theorem test_figure_20 : pulseOffset 1700000001 1700000000 9999988 = 1200 ∧ pulseOffset 1700000002 1700000002 35 = -3500
    ∧ pulseOffset 1700000003 1700000003 5000000 = -500000000 ∧ pulseOffset 1700000010 1700000000 20 = 9999998000 := by
  decide

/-- Figure 21, the backward step and the relabel. -/
theorem test_figure_21 :
    clockOf (stepTb (-300000000) { TB.reset with second := 5001, tick := 200000, epoch := 3 }) = ⟨5000, 7200000, 3⟩
    ∧ clockOf (relabelTb 1699999880250000000 { TB.reset with second := 120, tick := 4000000 })
      = ⟨1700000000, 6500000, 1⟩ := by
  decide

/-- Figure 56, rows 1 to 3. -/
theorem test_figure_56 : convertCode 12000 (-5000) 40000 = ⟨2324, .none⟩ ∧ convertCode 20000 (-5000) 62000 = ⟨8500, .high⟩
    ∧ convertCode 12000 (-5000) 600 = ⟨-4000, .low⟩ ∧ codeFaulted 450 = true ∧ codeFaulted 65001 = true
    ∧ codeFaulted 500 = false ∧ codeFaulted 65000 = false := by
  decide

/-- Figure 48, rows 2 to 5. -/
theorem test_figure_48 :
    (correctPeriod { Image.default with cyclePeriod := 2 }) = ⟨3, 1⟩
    ∧ (correctPeriod { Image.default with cyclePeriod := 2, gateTime := 48 }) = ⟨3, 1⟩
    ∧ (correctPeriod { Image.default with cyclePeriod := 4, polarizeTime := 30, gateTime := 100 }) = ⟨5, 1⟩
    ∧ (correctPeriod { Image.default with cyclePeriod := 2, polarizeTime := 5, gateTime := 20 }) = ⟨2, 0⟩ := by
  decide

/-- R83: the greatest residual of an unclipped sample with the default gain. -/
theorem test_residual_scale : roundDiv (8000000 * 23438) 65536 = 2861084 ∧ clips 8000000 = true ∧ clips 7999999 = false
    ∧ clips (BitVec.ofInt 24 (-8000000)) = true := by
  decide

/-- R3: CRC-16 with generator 0x1021 from 0xFFFF over the ASCII digits 1 to 9 is 0x29B1. -/
theorem test_crc : crc16 [0x31, 0x32, 0x33, 0x34, 0x35, 0x36, 0x37, 0x38, 0x39] = 0x29B1 := by decide +kernel

/-- Figure 84, records 1 to 3: the baseline of X in the slow, the fast and the watch band. -/
theorem test_figure_84 : movedBaseline Image.default .quiet 28055129 5120 = 28055134
    ∧ movedBaseline Image.default .quiet 28055134 35000 = 28056228
    ∧ movedBaseline Image.default .quiet 28056228 300000 = 28056228 := by
  decide

/-! ## A node at work -/

/-- The state a command answers. -/
def after (o : Host.Outcome State Fault Refusal) : State :=
  match o with
  | .next t => t
  | _ => { State.reset with powered := false }

/-- Station 3 with every role on, at an idle line after its join listen. -/
def node : State :=
  { State.reset with
    instants := []
    lc := { LC.reset with monitor := .idle, joinListen := none }
    sul := { SUL.reset with
      stationId := 3
      image := { Image.default with vectorRole := true, scalarRole := true, thermalRole := true, timePulse := true } } }

/-- An announcement with one event. -/
def news : Announcement :=
  { composeAnnouncement node with root := 3, f := some (7, -5), sensor := some (7, 2324), events := [⟨.retune, 9⟩] }

/-- A frame in a slot. -/
def slot (sending : Bool) (f : Frame) : Option Slot :=
  some ⟨sending, f, 0, none⟩

/-- An answer of the opening octets alone. -/
def reply : Answer := ⟨4, 1, 7, .ok, .nothing, false, []⟩

/-- The node with its Line Controller changed. -/
def lineNode (f : LC → LC) : State :=
  { node with lc := f node.lc }

/-- The node driving the first attempt of an announcement. -/
def driving1 : State :=
  lineNode (fun l => { l with slotA := slot true (.announce news), contention := .attempt 27600 [] })

/-- A received run. -/
def run : RxRun := ⟨⟨5, 6, 0⟩, false, false, false⟩

/-- A query from station 5 for the node, as it crosses the line. -/
def wire : List Level := frameSymbols (frameOctets .query 5 3 [1, 3])

/-- R2: the first octet of the opening mark, 0x2D, least-significant bit first, 1 recessive. -/
theorem test_octet_symbols : octetSymbols 0x2D = [.dominant, .recessive, .dominant, .recessive, .recessive, .dominant,
    .recessive, .dominant, .dominant, .recessive] := by
  decide

/-- R2, R13: a dominant level at the stop symbol is a framing error, and the next octet starts after a recessive level. -/
theorem test_framing_error : receiveOctets ((octetSymbols 0xB4).take 9 ++ [.dominant, .recessive] ++ octetSymbols 0x2D)
    = [⟨0xB4, true⟩, ⟨0x2D, false⟩] := by
  decide

theorem test_query_received : (after (exec (.frameReceived wire none) (lineNode (fun l => { l with rx := some run })))).lc.ring
    = [⟨.query, 5, 3, [1, 3], ⟨5, 6, 0⟩, false⟩] := by
  decide +kernel

theorem test_bad_check_counted :
    (after (exec (.frameReceived (frameSymbols ((frameOctets .query 5 3 [1, 3]).dropLast ++ [0])) none)
      (lineNode (fun l => { l with rx := some run })))).lc.badFrame = 1 := by
  decide +kernel

theorem test_own_id_latches :
    (after (exec (.frameReceived (frameSymbols (frameOctets .answer 3 3 [1, 3, 0])) none)
      (lineNode (fun l => { l with rx := some run, slotB := slot false (.announce news) })))).lc.abandoned = 1 := by
  decide +kernel

theorem test_announcement_handled :
    (after (exec .announceHandled (lineNode (fun l => { l with
      dispatcher := some ⟨.announce, 5, 0, announcementBody { news with departureSecond := 5000, departureTick := 3000020 },
        ⟨5000, 3002150, 0⟩, false⟩ })))).pt.entries.map PeerEntry.offset = [some (-213000)] := by
  decide

theorem test_sent_announcement_takes_its_events :
    (after (exec (.frameSent none) { driving1 with rs := { RS.reset with
      events := [⟨.retune, 1⟩, ⟨.clockStep, 2⟩, ⟨.retune, 3⟩, ⟨.retune, 4⟩, ⟨.deltaFStart, 5⟩], carried := 4 } })).rs.events
      = [⟨.deltaFStart, 5⟩] := by
  decide

theorem test_second_mark_closes : ((after (exec (.secondMark [.re]) { node with
    tb := { TB.reset with tick := 9999999 } })).rs.seconds.map SecondRecord.sequence) = [0] := by
  decide

/-- R36: a step taken before the mark leaves a tick from which no mark comes. -/
theorem test_mark_after_a_step : (after (exec (.secondMark [.re]) { node with
    tb := { TB.reset with tick := 9999998 } })).tb.tick = 9999998 := by
  decide

/-- R27: with four corrections the count that passes instant 16 is by two. -/
theorem test_instant_at_a_correction : (after (exec (.sampleInstant 16 ⟨0, 0, 0⟩) { node with
    tb := { TB.reset with tick := 1249999, schedule := some ⟨4, 0⟩ } })).tb.tick = 1250001 := by
  decide

/-- The label receiver of the node in a state, after bits of the label line. -/
def labelled (t : TB) (levels : List Level) : TB :=
  (after (exec (.labelOctetReceived levels) { node with tb := t })).tb

/-- R32: the octets of a cut run that the line still carries begin no run. -/
theorem test_label_tail : ((labelled { TB.reset with labelTail := some 9 } (octetSymbols 7)).label,
    (labelled { TB.reset with labelTail := some 9 } (octetSymbols 7)).labelTail) = (none, some 100000) := by
  decide

/-- R32: the bits of 0x2D, least-significant first, between a low start bit and a high stop bit, and with a low level there. -/
theorem test_label_octet : ((labelled TB.reset [.dominant, .recessive, .dominant, .recessive, .recessive, .dominant, .recessive,
    .dominant, .dominant, .recessive]).label, (labelled TB.reset [.dominant, .recessive, .dominant, .recessive, .recessive,
    .dominant, .recessive, .dominant, .dominant, .dominant]).label) = (some ⟨[⟨0x2D, false⟩], 100000⟩, some ⟨[⟨0x2D, true⟩], 100000⟩) := by
  decide

/-- R32: a label in its first octet at an edge is cut short and rejected; the rest of that octet begins no run. -/
theorem test_label_cut_in_its_first_octet :
    (fun t : TB => (t.label, t.labelReject, (labelled t ((octetSymbols 7).drop 4)).label))
      (after (exec .pulseEdge { node with tb := labelled TB.reset ((octetSymbols 7).take 4) })).tb = (none, 1, none) := by
  decide

/-- R32: a start bit inside the gap keeps the run. -/
theorem test_start_bit_holds_the_gap :
    (after (exec .labelGapEnd { node with tb := labelled (labelled TB.reset (octetSymbols 7)) [.dominant] })).tb.label
      = some ⟨[⟨7, false⟩], 100000⟩ := by
  decide

theorem test_gate_close : (after (exec .gateExpiry { node with
    scn := { SCN.reset with state := .gate, n := 2000, t := 9400000, first := some ⟨10, 9000000, 0⟩ } })).scn.mid
      = some (11, 0) := by
  decide

theorem test_power_on_starts_drive_off : (after (exec (.powerOn 5 none) node)).sul.stationId = 5 := by decide

theorem test_reset_is_a_power_on : exec (.powerOn 0 none) State.reset = .next State.reset := by
  rfl

theorem test_reset_runs_its_first_instant : (after (step State.reset)).pending.length = 1 := by decide

theorem test_restart_answer_sent :
    clockOf (after (exec (.frameSent none) { driving1 with lc := { driving1.lc with
      slotA := slot true (.answer { reply with restart := true }) } })).tb = ⟨0, 0, 1⟩ := by
  decide

theorem test_third_short_code_faults :
    (after (exec (.conversionComplete 0 40000) { node with tu := { TU.reset with
      state := .convert
      sensor := { TempChannel.reset with faultRun := 2 } } })).rs.events = [⟨.sensorFault, 0⟩] := by
  decide

/-- Figure 36, edge 3: the third outlier steps. -/
theorem test_third_outlier_steps : (duSample .pulse 2500100 { node with
    du := { node.du with state := .locked, reference := some .pulse, outlierRun := 2, outliers := 2 }
    tb := { node.tb with second := 9, tick := 100 } }).tb.tick = 25101 := by
  decide

/-- Figure 34, announcements 6 and 7. -/
theorem test_figure_34 : (duSample (.peer 2) 150 (duSample (.peer 2) 300 { node with
    du := { node.du with state := .acquire, reference := some (.peer 2) } })).tb.trim = 18 := by
  decide

/-! ## States and operands that meet the hypotheses of the statements, clause by clause -/

/-- A contention that is not a spread. -/
theorem notSpread : ∀ k, node.lc.contention ≠ .spread k := by
  intro k h
  cases h

theorem witness_ImageInUse : State.reset.sul.image.InRange := by
  unfold Image.InRange
  refine ⟨by decide, by decide, ?_, ?_, ?_, by decide, by decide, by decide, by decide, by decide, by decide, ?_, ?_, ?_, ?_, ?_,
    by decide, by decide, ?_, ?_, by decide, by decide, by decide, by decide, by decide, by decide, by decide, by decide,
    by decide, by decide, by decide⟩ <;> (intro c; cases c <;> decide)

theorem witness_HeldReset : ({ node with powered := false }).powered = false ∧ Instr.lineIdle ≠ .resetAsserted
    ∧ ∀ straps memory, Instr.lineIdle ≠ .powerOn straps memory :=
  ⟨rfl, by decide, fun _ _ h => by cases h⟩

/-- The node between two periods, at tick n. -/
def quiet (n : Nat) : State :=
  { node with tb := { TB.reset with tick := n }, lc := { node.lc with announced := [0] } }

theorem witness_PeriodPasses :
    ((quiet 9999999).pending = [] ∧ (quiet 9999999).notices = [] ∧ (quiet 9999999).instants = []
      ∧ dueCommands (quiet 9999999) = [] ∧ (quiet 9999999).tb.schedule = none ∧ (quiet 9999999).tb.tick = 9999999)
    ∧ (dueCommands (quiet 0) = [] ∧ (quiet 0).tb.tick < 9999999 ∧ ((quiet 0).tb.tick + 1) % 78125 ≠ 0)
    ∧ (dueCommands (quiet 78124) = [] ∧ (1 : Instant) ≠ 0 ∧ (quiet 78124).tb.tick + 1 = 78125 * (1 : Instant).toNat) := by
  decide +kernel

theorem witness_UnreadableRecord : ∀ m : MemoryRecord, (none : Option MemoryRecord) = some m → m.octets.length = 192 →
    crc16 (m.octets.take 190) ≠ word16At m.octets 190 :=
  fun _ h => by cases h

/-- A stored record with one axis and one threshold out of range and every correction to make. -/
def stored : RawFields where
  vectorRole := 2
  scalarRole := 0
  thermalRole := 0
  timePulse := 0
  lineDelay := 20000
  holdoverLimit := 86400
  gain := ⟨0, 1, 65535⟩
  coarseStep := ⟨1, 1, 4000000⟩
  fineStep := ⟨1, 1, 40000⟩
  retuneBand := 1000
  cyclePeriod := 2
  polarizeTime := 15
  gateTime := 50
  scalarPeer := 15
  acqPeriod := 60
  slope := ⟨-65535, 65535⟩
  intercept := ⟨-20000, 20000⟩
  hot := ⟨-3900, 8500⟩
  cool := ⟨-3900, 8400⟩
  queueCode := ⟨0, 3⟩
  completeness := 128
  t0 := -4000
  ks := ⟨-100000, 0, 100000⟩
  ko := ⟨-100000, 0, 100000⟩
  substitutePeer := 0
  slowBeta := 15
  fastBeta := 1
  fastBound := 2
  watchThreshold := 0
  releaseThreshold := 1
  onsetCount := 60
  easeCount := 3600
  maxDisturbed := 60
  deltaFLimit := 1
  eventMask := 0

/-- Octets whose check is 0: the first two clear the CRC register, and zeros keep it so. -/
def checked (n : Nat) : List Octet :=
  0xFF :: 0xFF :: List.replicate (n + 2) 0

theorem checked_length (n : Nat) : (checked n).length = n + 4 := by simp [checked]

theorem checked_crc (n : Nat) : crc16 ((checked n).take (n + 2)) = word16At (checked n) (n + 2) := by
  have zeros : ∀ k, (List.replicate k (0 : Octet)).foldl crcOctet 0 = 0 := by
    intro k
    induction k with
    | zero => rfl
    | succ k ih => rw [List.replicate_succ, List.foldl_cons, show crcOctet 0 0 = 0 by decide, ih]
  have two : crcOctet (crcOctet 0xFFFF#16 (0xFF : Octet)) (0xFF : Octet) = 0 := by decide +kernel
  have tail : word16At (checked n) (n + 2) = 0 := by simp [word16At, octetAt, checked, List.getD]
  rw [tail, checked, List.take_succ_cons, List.take_succ_cons, List.take_replicate, crc16, List.foldl_cons, List.foldl_cons, two,
    zeros]

theorem witness_CheckedRecord : (checked 188).length = 192 ∧ crc16 ((checked 188).take 190) = word16At (checked 188) 190 :=
  ⟨checked_length 188, checked_crc 188⟩

/-- Figures 48 and 91: two fields clamped; the period, one cool threshold, the fast bound and the release threshold corrected. -/
theorem test_stored_record : (fun u : SUL => (u.clampCount, u.image.gain.x, u.image.cyclePeriod, u.image.cool, u.image.fastBound,
    u.image.releaseThreshold)) (readRecord 3 (some ⟨checked 188, stored⟩)) = (6, 1, 3, ⟨-4000, 8400⟩, 1, 1) := by
  have h : checkMatches (checked 188) = true := by
    rw [checkMatches, witness_CheckedRecord.1, witness_CheckedRecord.2, beq_self_eq_true]
    rfl
  rw [readRecord, h]
  decide

theorem witness_LineMonitorMoves :
    (node.powered = true ∧ node.lc.monitor = .idle)
    ∧ ((lineNode (fun l => { l with contention := .spread 0 })).lc.contention = .spread 0
      ∧ (lineNode (fun l => { l with contention := .spread 0 })).lc.monitor = .idle)
    ∧ ((lineNode (fun l => { l with monitor := .busy })).lc.monitor = .busy
      ∧ driving (lineNode (fun l => { l with monitor := .busy })).lc.contention = false)
    ∧ ((lineNode (fun l => { l with monitor := .stuck, contention := .waitIdle, rx := some run })).lc.monitor ≠ .idle
      ∧ driving (lineNode (fun l => { l with monitor := .stuck, contention := .waitIdle, rx := some run })).lc.contention
        = false) := by
  decide

/-- The node with a frame SENDING in slot A at a stage of its contention. -/
def sendingNode (f : Frame) (c : Contention) : State :=
  lineNode (fun l => { l with slotA := slot true f, contention := c })

theorem oneSlot (f : Frame) (c : Contention) : OneSlotSends (sendingNode f c) := Or.inr rfl

theorem witness_AttemptBegins :
    (mayTransmit (sendingNode (.announce news) (.spread 0)) = true
      ∧ getSlot .a (sendingNode (.announce news) (.spread 0)).lc = slot true (.announce news))
    ∧ (mayTransmit (sendingNode (.answer reply) (.spread 0)) = true
      ∧ getSlot .a (sendingNode (.answer reply) (.spread 0)).lc = slot true (.answer reply)) := by
  decide

theorem witness_ContentionMoves :
    (sendingNode (.announce news) (.attempt 9 [0x2D])).lc.contention = .attempt 9 [0x2D]
    ∧ ((frameSymbols [0x2D])[0]? = some .dominant ∧ ([.recessive] : List Level)[0]? = some .recessive
      ∧ Level.dominant ≠ .recessive)
    ∧ readsBackOther [0x2D] [.dominant, .recessive] = false
    ∧ (getSlot .a (sendingNode (.announce news) (.jam 0)).lc = some ⟨true, .announce news, 0, none⟩ ∧ 0 + 1 < 8)
    ∧ mayTransmit (lineNode (fun l => { l with contention := .backoff 0, monitor := .busy })) = false
    ∧ mayTransmit (lineNode (fun l => { l with contention := .backoff 0 })) = true
    ∧ node.lc.contention ≠ .waitIdle
    ∧ ((lineNode (fun l => { l with contention := .waitIdle, silence := some 0 })).lc.contention = .waitIdle
      ∧ listenOnly (lineNode (fun l => { l with contention := .waitIdle, silence := some 0 })) = false
      ∧ (lineNode (fun l => { l with contention := .waitIdle, silence := some 0 })).lc.joinListen = none)
    ∧ ((lineNode (fun l => { l with contention := .waitIdle, joinListen := some 0 })).lc.silence = none) := by
  decide

/-- Every symbol of a read-back that is the start of the frame is read as driven. -/
theorem witness_NoCollision : ∀ (i : Nat) (a b : Level), (frameSymbols [0x2D])[i]? = some a →
    (frameSymbols [0x2D])[i]? = some b → a = b :=
  fun _ _ _ ha hb => Option.some.inj (ha.symm.trans hb)

/-- The node with a seventh attempt behind it in slot A and a READY answer in slot B. -/
def seventh (c : Contention) : State :=
  lineNode (fun l => { l with
    slotA := some ⟨true, .announce news, 7, none⟩
    slotB := slot false (.answer reply)
    readyOrder := [.b]
    contention := c })

theorem witness_FrameAbandoned :
    getSlot .a (seventh (.jam 0)).lc = some ⟨true, .announce news, 7, none⟩
    ∧ holdsRestart (some ⟨true, .announce news, 7, none⟩) = false ∧ SlotName.b ≠ .a ∧ 8 ≤ 7 + 1
    ∧ isSending (seventh (.jam 0)).lc.slotB = false ∧ (seventh (.jam 0)).lc.readyOrder = [.b]
    ∧ driving (seventh (.attempt 3 [])).lc.contention = true := by
  decide

theorem witness_FrameSent :
    getSlot .a (seventh (.attempt 0 [])).lc = some ⟨true, .announce news, 7, none⟩
    ∧ (seventh (.attempt 0 [])).lc.contention = .attempt 0 [] ∧ isSending (seventh (.attempt 0 [])).lc.slotB = false
    ∧ getSlot .b (seventh (.attempt 0 [])).lc = slot false (.answer reply)
    ∧ getSlot .a (sendingNode (.answer reply) (.attempt 0 [])).lc = slot true (.answer reply)
    ∧ getSlot .b (sendingNode (.answer reply) (.attempt 0 [])).lc = none := by
  decide

theorem witness_FrameReceived :
    judgeFrame (receiveOctets [.dominant]) = none
    ∧ judgeFrame (receiveOctets wire) = some (.query, 5, 3, [1, 3]) ∧ (5 : Octet) ≠ node.sul.stationId.setWidth 8
    ∧ (3 : Octet) = node.sul.stationId.setWidth 8
    ∧ judgeFrame (receiveOctets (frameSymbols (frameOctets .answer 5 9 [1, 3, 0]))) = some (.answer, 5, 9, [1, 3, 0])
    ∧ judgeFrame (receiveOctets (frameSymbols (frameOctets .answer 3 9 [1, 3, 0])))
      = some (.answer, node.sul.stationId.setWidth 8, 9, [1, 3, 0]) := by
  decide +kernel

/-- An entry of the receive ring. -/
def entry (kind : FrameKind) (dest : Octet) : RingEntry :=
  ⟨kind, 5, dest, [1, 3], ⟨5, 6, 0⟩, false⟩

theorem witness_Dispatch : ∀ e ∈ [entry .announce 0, entry .answer 3, entry .query 0, entry .query 3],
    (lineNode (fun l => { l with ring := [e] })).lc.ring = e :: [] ∧ node.lc.dispatcher = none
      ∧ (entry .query 3).dest = node.sul.stationId.setWidth 8 := by
  decide

/-- Slot A SENDING an announcement, slot B a READY answer, at a busy line. -/
def waiting : State :=
  lineNode (fun l => { l with
    monitor := .busy
    slotA := slot true (.announce news)
    slotB := slot false (.answer reply)
    readyOrder := [.b]
    contention := .waitIdle
    holder := some ⟨5, [1, 3], 0⟩ })

theorem witness_Expiries : waiting.lc.holder ≠ none ∧ getSlot .b waiting.lc = slot false (.answer reply)
    ∧ getSlot .a waiting.lc = slot true (.announce news) ∧ mayTransmit waiting = false := by
  decide

/-- The node at its announce point with its Line Controller changed. -/
def pointNode (f : LC → LC) : State :=
  { lineNode f with tb := { TB.reset with tick := 3000000 } }

theorem witness_AnnouncePoint :
    3000000 ≤ (pointNode id).tb.tick ∧ (pointNode id).tb.second ∉ (pointNode id).lc.announced ∧ composing (pointNode id) = true
    ∧ node.tb.tick < 3000000
    ∧ composing (pointNode (fun l => { l with joinListen := some 1 })) = false
    ∧ readyAnnounce (pointNode (fun l => { l with slotA := slot false (.announce news) })).lc.slotA = true
    ∧ (readyAnnounce (pointNode (fun l => { l with slotB := slot false (.announce news) })).lc.slotB = true
      ∧ readyAnnounce (pointNode (fun l => { l with slotB := slot false (.announce news) })).lc.slotA = false)
    ∧ ((pointNode id).lc.slotA = none ∧ (pointNode id).lc.slotB = none ∧ (pointNode id).lc.readyOrder = [])
    ∧ (waiting.lc.slotA ≠ none ∧ waiting.lc.slotB ≠ none ∧ readyAnnounce waiting.lc.slotA = false
      ∧ readyAnnounce waiting.lc.slotB = false)
    ∧ (isSending (sendingNode (.announce news) .waitIdle).lc.slotA = true
      ∧ (sendingNode (.announce news) .waitIdle).lc.slotB = none)
    ∧ ((pointNode (fun l => { l with slotB := slot true (.answer reply) })).lc.slotA = none
      ∧ isSending (pointNode (fun l => { l with slotB := slot true (.answer reply) })).lc.slotB = true) := by
  decide

/-- The node with a held query. -/
def asked (body : List Octet) : State :=
  lineNode (fun l => { l with holder := some ⟨5, body, 9⟩ })

theorem witness_Answers :
    composing (asked [1, 1, 0, 0, 0, 0, 4]) = true ∧ emptySlot (asked [1, 1, 0, 0, 0, 0, 4]).lc = some .a
    ∧ requestKind [1, 1, 0, 0, 0, 0, 4] = .readSeconds ∧ requestKind [1, 1, 0] = .readSeconds
    ∧ requestKind [1, 2, 0, 0, 0, 0, 4] = .readMinutes ∧ requestKind [1, 3] = .status ∧ requestKind [1, 4] = .peers
    ∧ requestKind [1, 5] = .recenter ∧ requestKind [1, 6] = .reseed ∧ requestKind [1, 7] = .restart
    ∧ requestKind [1, 8] = .unknown ∧ ([1, 1, 0] : List Octet).length < 7 ∧ requestKind [1] = .unknown := by
  decide

/-- R6, R19: an answer is READY behind a SENDING frame, SENDING in an idle pair of slots, and READY behind an earlier READY frame,
which then takes its turn. -/
theorem witness_AnswerTurns :
    [lineNode (fun l => { l with holder := some ⟨5, [1, 3], 9⟩, slotA := slot true (.announce news), contention := .jam 9 }),
      asked [1, 3],
      lineNode (fun l => { l with holder := some ⟨5, [1, 3], 9⟩, slotB := slot false (.announce news), readyOrder := [.b] })].map
        (fun s => (fun l : LC => (emptySlot s.lc, sendingSlot s.lc, isSending l.slotA, isSending l.slotB, l.readyOrder))
          (after (exec .status s)).lc)
      = [(some .b, some .a, true, false, [.b]), (some .a, none, true, false, []), (some .a, none, false, true, [.a])] := by
  decide +kernel

/-- R184: a from-sequence 2^31 away is earlier than the oldest. -/
theorem test_far_from_is_gone : (readRing SecondRecord.sequence AnswerBody.seconds 0x80000005 4
    [{ closedRecord (.none, none) node with sequence := 5 }]).result = .gone := by
  decide

theorem witness_LineRoundTrips : (5 : StationId) ≠ 0 ∧ ([] : List Octet).length ≤ 240
    ∧ news.departureTick < 2 ^ 32 ∧ news.cls ≤ 2 ∧ news.root ≠ 0 ∧ news.depth ≤ 6 ∧ news.errorBound ≤ 65535
    ∧ news.reference ≠ some (.peer 0) ∧ news.events.length ≤ 4 ∧ news.f = some (7, -5)
    ∧ news.sensor = some (7, 2324) := by
  decide

/-- The restart answer in slot A at a stage of its contention. -/
def leaving (c : Contention) : State :=
  lineNode (fun l => { l with
    slotA := some ⟨true, .answer { reply with restart := true }, 7, none⟩
    contention := c
    rx := some run })

theorem witness_Restart :
    holdsRestart (leaving (.attempt 0 [])).lc.slotA = true ∧ (leaving (.attempt 0 [])).rs.minutes.length ≤ 512
    ∧ getSlot .a (leaving (.attempt 0 [])).lc = some ⟨true, .answer { reply with restart := true }, 7, none⟩
    ∧ driving (leaving (.attempt 0 [])).lc.contention = true ∧ (leaving (.jam 0)).lc.contention = .jam 0 ∧ 8 ≤ 7 + 1
    ∧ holdsRestart (slot false (.answer { reply with restart := true })) = true
    ∧ (leaving (.spread 0)).lc.duplicateId = false ∧ (leaving (.spread 0)).lc.rx = some run ∧ run.own = false
    ∧ (leaving (.spread 0)).re.isOpen = true ∧ (leaving (.spread 0)).rs.seconds.length < 1024
    ∧ ({ leaving (.spread 0) with du := { node.du with state := .locked } }).du.state = .locked := by
  decide

/-- R170: an accepted RESEED clears the judgements and the runs and keeps the latest values and the excluded counter. -/
theorem witness_Reseeded : (after (exec .reseed { asked [1, 6] with bw := { BW.reset with
        axes := ⟨⟨some 1, some 2, some 3, some .active⟩, AxisWatch.unseeded, AxisWatch.unseeded⟩
        state := .easing
        easeRun := 3
        disturbedTime := 9
        excluded := 8 } })).bw
    = { BW.reset with
        axes := ⟨⟨some 2, some 2, none, none⟩, AxisWatch.unseeded, AxisWatch.unseeded⟩
        reseeds := 1
        excluded := 8 } := by
  decide +kernel

/-- An OPEN second ends in the ring as FINAL with RESTART, and the records already held stand. -/
theorem test_restart_keeps_the_ring :
    (after (exec (.answerExpiry .a none) { node with
      lc := { node.lc with slotA := slot false (.answer { reply with restart := true }) }
      rs := { RS.reset with seconds := [{ closedRecord (.none, none) node with second := 7, final := true }] } })).rs.seconds.map
        (fun r => (r.sequence, r.second, r.final, r.flags.restart)) = [(0, 7, true, false), (1, 0, true, true)] := by
  decide

/-- R148, R186: at a restart an axis whose chain has not ended is absent with ARITH, and the minute at the head of the list is built anew. -/
theorem witness_RestartFinishes :
    (fun t : State => (t.rs.seconds.map (fun r => (r.axes.x.value, r.axes.y.value, r.flags.arith, r.reason)), t.rs.build.map MinuteBuild.todo,
      t.rs.minutes.length))
      (after (exec (.frameSent none) { leaving (.attempt 0 []) with
        re := { node.re with isOpen := false, chain := [{ chainOf (closedRecord (.none, none) node) node.re with
          steps := ⟨.ended, .mean, .waiting⟩ }] }
        rs := { RS.reset with
          seconds := [{ closedRecord (.none, none) node with axes := ⟨⟨some 4, 9⟩, ⟨none, 9⟩, ⟨none, 9⟩⟩, f := some 5 }]
          buildList := [⟨0, 0⟩] } }))
      = ([(some 4, none, true, some .restart)], some [⟨.f, 5, 1⟩], 0) := by
  decide +kernel

/-- R186, Figure 90: the minute under build stays at the head of a full list, the one behind it is lost, and minute-lost is 0. -/
theorem witness_RestartKeepsHead :
    (fun t : State => (t.rs.buildList, t.rs.minuteLost, t.rs.build.map MinuteBuild.todo))
      (after (exec (.frameSent none) { leaving (.attempt 0 []) with
        re := { node.re with isOpen := false }
        rs := { RS.reset with
          seconds := [{ closedRecord (.none, none) node with final := true, f := some 5 }]
          current := some ⟨0, 9⟩
          build := some ⟨(gatherMinute ⟨0, 0⟩ []).body, []⟩
          buildList := ⟨0, 0⟩ :: ⟨0, 7⟩ :: List.replicate 14 ⟨0, 8⟩ } }))
      = (⟨0, 0⟩ :: List.replicate 14 ⟨0, 8⟩ ++ [⟨0, 9⟩], 0, some [⟨.f, 5, 1⟩]) := by
  decide +kernel

/-- A peer entry of station 5. -/
def peer5 : PeerEntry :=
  { createdEntry 5 (heardOf (announcementBody news)) ⟨5, 6, 0⟩ with consecutive := 4, lastSequence := 255, locked := true }

/-- The node handling an announcement of station 5. -/
def handling (body : List Octet) : State :=
  lineNode (fun l => { l with dispatcher := some ⟨.announce, 5, 0, body, ⟨5, 6, 0⟩, false⟩ })

/-- Figure 8, octets 19 to 36 and 51 on. -/
theorem test_figure_8 : (fun b : List Octet => (b.drop 19).take 18 ++ b.drop 51) (announcementBody { news with
      vectorSecond := 0x01020304
      vector := ⟨some 5, none, some (-1)⟩
      pier := some (6, -2)
      events := [⟨.retune, 0xAB010203⟩, ⟨.frontEndFault, 9⟩] })
    = [1, 2, 3, 4, 5, 0, 0, 0, 5, 0, 0, 0, 0, 255, 255, 255, 255, 7, 0, 0, 0, 6, 255, 254, 2, 7, 1, 2, 3, 12, 0, 0, 9] := by
  decide

theorem witness_Announcements :
    bodyValid (announcementBody news) = true ∧ bodyValid [] = false
    ∧ (handling (announcementBody news)).lc.dispatcher = some ⟨.announce, 5, 0, announcementBody news, ⟨5, 6, 0⟩, false⟩
    ∧ (handling []).du.reference ≠ some (.peer 5) ∧ (handling []).mdm.source ≠ .configured 5
    ∧ (handling []).mdm.source ≠ .automatic 5
    ∧ findEntry 5 ({ handling [] with pt := ⟨[peer5], 0⟩ }).pt.entries = some peer5
    ∧ (heardOf (announcementBody news)).sequence = peer5.lastSequence + 1
    ∧ (heardOf (announcementBody { news with f := none })).f = none
    ∧ (heardOf (announcementBody news)).f = some (7, -5) := by
  decide +kernel

/-- The node handling an announcement of the station that is its reference and its scalar source. -/
def referenced (source : Source) (f : Option (Second × Int)) (known : List PeerEntry) : State :=
  { handling (announcementBody { news with f := f }) with
    du := { node.du with state := .locked, reference := some (.peer 5) }
    mdm := { MDM.reset with source := source }
    pt := ⟨known, 0⟩ }

theorem witness_HandedOn :
    (referenced (.configured 5) (some (8, 50)) [peer5]).du.reference = some (.peer 5)
    ∧ (referenced (.configured 5) (some (8, 50)) [peer5]).mdm.source = .configured 5
    ∧ (referenced (.automatic 5) (some (8, 50)) [peer5]).mdm.source = .automatic 5
    ∧ bodyValid (announcementBody { news with f := some (8, 50) }) = true
    ∧ (heardOf (announcementBody { news with f := some (8, 50) })).f = some (8, 50)
    ∧ peer5.latestF.map PeerValue.second = some 7
    ∧ (heardOf (announcementBody { news with f := none })).f = none
    ∧ (referenced .own (some (8, 50)) []).mdm.source ≠ .configured 5
    ∧ node.ties.offsetBeforeF = true ∧ ({ node.ties with offsetBeforeF := false } : Ties).offsetBeforeF = false := by
  decide +kernel

/-- Entries and parts that an announcement meets: a stale entry, one whose comparison restarts, one with a last offset, an F and a
temperature of the entry's second and of another, and a SENSOR temperature at its range's ends and beyond. -/
theorem witness_Refreshed :
    ({ peer5 with state := .stale }).state = .stale ∧ peer5.state ≠ .stale ∧ peer5.rebase = false ∧ ({ peer5 with rebase := true }).rebase = true
    ∧ ({ peer5 with offset := some 300 }).offset = some 300 ∧ peer5.offset = none
    ∧ (heardOf (announcementBody { news with sequence := 5 })).sequence ≠ peer5.lastSequence + 1
    ∧ peer5.latestTemp.map PeerValue.second = some 7 ∧ (heardOf (announcementBody news)).temp = some (7, 2324)
    ∧ (heardOf (announcementBody { news with sensor := some (8, -4001) })).temp = some (8, -4001)
    ∧ (heardOf (announcementBody { news with sensor := some (8, 8500) })).temp = some (8, 8500)
    ∧ (peerOffset 0 { heardOf (announcementBody news) with departureSecond := 5, departureTick := 6 } ⟨5, 6, 0⟩).natAbs < 1000000
    ∧ ({ entry .announce 0 with preMove := true }).preMove = true := by
  decide +kernel

/-- R42: a wrong length, five events, and each checked octet beyond its range, one at a time. -/
theorem witness_RejectedBodies :
    [announcementBody news ++ [0], (announcementBody news).set 57 5, (announcementBody news).set 10 3, (announcementBody news).set 11 0,
      (announcementBody news).set 11 16, (announcementBody news).set 12 7, (announcementBody news).set 13 2,
      (announcementBody news).set 14 16, (announcementBody news).set 17 4, (announcementBody news).set 18 2].all
        (fun b => !bodyValid b) = true
    ∧ bodyValid ((announcementBody news).set 14 0xFF) = true := by
  decide +kernel

theorem witness_EntriesAge : ({ peer5 with marksSince := 4 }).state ≠ .stale ∧ ({ peer5 with marksSince := 59 }).marksSince = 59 := by
  decide

theorem witness_SecondLength : ((-3000 : Int)).natAbs ≤ 3000
    ∧ ({ TB.reset with schedule := some ⟨-3000, 0⟩ } : TB).schedule = some ⟨-3000, 0⟩
    ∧ ((10003000 : Nat) : Int) = 10000000 - (-3000) ∧ 3000 ≤ ((-3000 : Int)).natAbs := by
  decide

/-- The node at the period of its second mark. -/
def marking (s : State) : State :=
  { s with tb := { s.tb with tick := 9999999 } }

theorem witness_SecondMark : countIsMark node.tb = false ∧ countIsMark (marking node).tb = true ∧ (marking node).notices = []
    ∧ ([.re, .bw] : List MarkBlock).Nodup := by
  decide

/-- R49: an ordinary mark at PT, one after which a HEARD entry is STALE and the last. -/
theorem witness_MarkAtPeers : [0, 4, 59].map (fun m => (after (exec (.secondMark [.pt]) { marking node with
      pt := ⟨[{ createdEntry 5 (heardOf (announcementBody news)) ⟨5, 6, 0⟩ with marksSince := m }], 0⟩ })).pt.entries.map
        (fun e => (e.marksSince, e.state, e.latestF.map PeerValue.age)))
    = [[(1, .heard, some 1)], [(5, .stale, some 1)], []] := by
  decide +kernel

/-- A USABLE peer with a class, a root and an id. -/
def star (id : StationId) (cls : Nat) (root : StationId) : PeerEntry :=
  { peer5 with id := id, state := .usable, locked := true, reference := none, depth := 1, cls := cls, root := root }

/-- The node at a mark with a reference, a pulse and peers. -/
def choosing (d : DisciplineState) (r : Option Reference) (present : Bool) (es : List PeerEntry) : State :=
  { marking node with
    tb := { (marking node).tb with present := present }
    du := { node.du with state := d, reference := r }
    pt := ⟨es, 0⟩ }

theorem witness_Selection :
    countIsMark (choosing .locked (some .pulse) false []).tb = true
    ∧ pulseCandidate (choosing .locked (some .pulse) false []) = false
    ∧ pulseCandidate (choosing .acquire (some .pulse) true []) = true
    ∧ pulseCandidate (choosing .locked (some (.peer 5)) true [star 5 1 9]) = true
    ∧ peerCandidate 3 (star 5 1 9) = true
    ∧ bestPeer 3 [star 5 1 9, star 6 1 8] = some (star 6 1 8)
    ∧ ((star 6 1 8).cls = (star 5 1 9).cls ∧ (star 6 1 8).root.toNat < (star 5 1 9).root.toNat)
    ∧ bestPeer 3 [star 5 1 8, star 6 1 8] = some (star 5 1 8)
    ∧ bestPeer 3 [star 5 2 2] = some (star 5 2 2) ∧ bestPeer 3 [star 5 2 4] = some (star 5 2 4)
    ∧ (choosing .freeRoot none false [star 5 2 2]).du.reference = none
    ∧ (star 5 2 2).root.toNat < (3 : StationId).toNat ∧ (3 : StationId).toNat ≤ (star 5 2 4).root.toNat
    ∧ ([star 5 1 9, star 6 1 8].map (fun e => e.id.toNat)).Pairwise (· < ·) := by
  decide +kernel

/-- R52: what keeps a USABLE peer from being a candidate of station 3, and what does not. -/
theorem witness_Candidates :
    [star 5 1 9, { star 5 1 9 with state := .heard }, { star 5 1 9 with locked := false }, { star 5 1 9 with reference := some (.peer 3) },
      star 5 1 3, { star 5 1 9 with depth := 6 }, { star 5 1 9 with depth := 5 }].map (peerCandidate 3)
      = [true, false, false, false, false, false, true]
    ∧ peerCandidate 0 { star 5 1 9 with reference := some (.peer 0) } = true ∧ pulseCandidate (choosing .freeRoot none true []) = true := by
  decide +kernel

/-- R54, steps 1 and 3 at one mark: a lost peer or pulse gives way to the pulse, or to a peer better than the key of the root just
become; else the node holds over, or is a FREE_ROOT. -/
theorem witness_LostReference :
    [choosing .locked (some (.peer 6)) true [star 5 1 9], choosing .locked (some .pulse) false [star 5 2 2],
      choosing .locked (some (.peer 6)) false [star 5 2 4, { star 6 1 1 with locked := false }],
      choosing .acquire (some (.peer 6)) false [star 5 1 9], choosing .acquire (some .pulse) false [star 5 2 4]].map
        (fun s => (fun d : DU => (d.state, d.reference, d.cls)) (after (exec (.secondMark [.du]) s)).du)
      = [(.acquire, some .pulse, 0), (.acquire, some (.peer 5), 2), (.holdover, none, 2), (.acquire, some (.peer 5), 1),
        (.freeRoot, none, 2)] := by
  decide +kernel

/-- A node in HOLDOVER of a class and an age, at a mark. -/
def heldOver (cls age : Nat) (present : Bool) (es : List PeerEntry) : State :=
  { choosing .holdover none present es with
    du := { (choosing .holdover none present es).du with heldClass := some cls, holdoverAge := age, boundAtEntry := some 40 } }

/-- R51, R74: the advertisement and the bound of a followed pulse and of a followed peer that stands. -/
theorem witness_StandingReference :
    [choosing .locked (some .pulse) true [], choosing .acquire (some .pulse) true [],
      { choosing .locked (some (.peer 5)) false [{ star 5 1 9 with errorBound := 40 }] with
        du := { node.du with state := .locked, reference := some (.peer 5), f := -1001 } }].map
        (fun s => (fun d : DU => (d.state, d.cls, d.root, d.depth, d.errorBound)) (after (exec (.secondMark [.du]) s)).du)
      = [(.locked, 0, 3, 0, 2), (.acquire, 0, 3, 0, 65535), (.locked, 1, 9, 2, 43)] := by
  decide +kernel

/-- R72, R74: within the limit the age and the bound advance; at the limit the node is a FREE_ROOT; the pulse, and a peer better than
the key of the class held, are selected. -/
theorem witness_SelectionInHoldover :
    ((heldOver 1 3599 false []).du.state = .holdover
      ∧ ¬ (heldOver 1 3599 false []).sul.image.holdoverLimit < (heldOver 1 3599 false []).du.holdoverAge + 1)
    ∧ (heldOver 1 3600 false []).sul.image.holdoverLimit < (heldOver 1 3600 false []).du.holdoverAge + 1
    ∧ [heldOver 1 3599 false [], heldOver 2 3600 false [], heldOver 1 9 false [star 5 1 4], heldOver 2 9 false [star 5 1 4],
        heldOver 1 9 true []].map (fun s => (fun t => (t.state, t.cls, t.errorBound, t.reference)) (after (exec (.secondMark [.du]) s)).du)
      = [(.holdover, 1, 3640, none), (.freeRoot, 2, 65535, none), (.holdover, 1, 50, none), (.acquire, 1, 65535, some (.peer 5)),
        (.acquire, 0, 65535, some .pulse)] := by
  decide +kernel

theorem witness_Timebase :
    ({ node with tb := { node.tb with edge := some ⟨⟨1, 2, 0⟩, 15000001⟩ } }).tb.edge = some ⟨⟨1, 2, 0⟩, 15000001⟩
    ∧ ({ node with tb := { node.tb with labelAge := some 30000001 } }).tb.labelAge = some 30000001
    ∧ node.sul.image.timePulse = true ∧ State.reset.sul.image.timePulse = false
    ∧ ({ node with tb := { node.tb with label := some ⟨[⟨1, false⟩, ⟨2, false⟩, ⟨3, false⟩, ⟨4, false⟩, ⟨10, false⟩], 0⟩ } }).tb.label
      = some ⟨[⟨1, false⟩, ⟨2, false⟩, ⟨3, false⟩, ⟨4, false⟩, ⟨1 + 2 + 3 + 4, false⟩], 0⟩
    ∧ node.tb.label = none ∧ node.tb.labelTail = none ∧ node.tb.labelPhase = .ready
    ∧ (labelled TB.reset [.dominant]).labelPhase = .data []
    ∧ ({ node with tb := { node.tb with labelTail := some 9 } }).tb.labelTail = some 9 := by
  decide

theorem witness_PulseEdge : node.tb.edgeWindow = none ∧ node.tb.label = none
    ∧ (labelled TB.reset [.dominant]).label = some ⟨[], 100000⟩ ∧ (labelled TB.reset [.dominant]).labelPhase = .data []
    ∧ ({ node with tb := { node.tb with pendingLabel := some 9, labelAge := some 30000000 } }).tb.pendingLabel = some 9
    ∧ 5000000 < ({ node with tb := { node.tb with tick := 5000001 } }).tb.tick
    ∧ ({ node with tb := { node.tb with tick := 5000000 } }).tb.tick ≤ 5000000
    ∧ ({ node with tb := { node.tb with edgeWindow := some 1 } }).tb.edgeWindow = some 1
    ∧ labelOf [⟨1, false⟩, ⟨2, false⟩, ⟨3, false⟩, ⟨4, false⟩, ⟨10, false⟩] = some 0x01020304 ∧ labelOf [⟨1, false⟩] = none := by
  decide

/-- The node following its own pulse. -/
def following (d : DisciplineState) (outliers lock : Nat) : State :=
  { node with du := { node.du with reference := some .pulse, state := d, outlierRun := outliers, lockCount := lock } }

theorem witness_Samples :
    (following .acquire 0 7).du.reference = some .pulse ∧ (-999999 : Int).natAbs ≤ 999999 ∧ (19999 : Int).natAbs < 20000
    ∧ 8 ≤ (following .acquire 0 7).du.lockCount + 1 ∧ (following .acquire 0 6).du.lockCount + 1 < 8
    ∧ 20000 ≤ (20000 : Int).natAbs ∧ (following .locked 1 0).du.outlierRun < 2 ∧ 1000000 ≤ (1000000 : Int).natAbs
    ∧ (999999999 : Int).natAbs < 1000000000 ∧ node.du.reference ≠ some .pulse
    ∧ findEntry 5 [peer5] = some peer5 ∧ (referenced .own none [peer5]).du.state = .locked
    ∧ (referenced .own none [peer5]).du.reference = some (.peer 5) := by
  decide +kernel

theorem witness_SampleMovesClock : (following .locked 2 0).tb.tick < 10000000 ∧ 2 ≤ (following .locked 2 0).du.outlierRun
    ∧ 1000000000 ≤ (-1000000000 : Int).natAbs ∧ 1000000 ≤ (999999999 : Int).natAbs := by
  decide

/-- The node in ACQUIRE at a tick of second 5, its RE in second 5, OPEN or PASSED, with SCN in GATE. -/
def moved (tick : Nat) (isOpen : Bool) (theta : Int) : State :=
  duSample .pulse theta { following .acquire 0 0 with
    tb := { TB.reset with second := 5, tick := tick }
    re := { RE.reset with second := 5, isOpen := isOpen }
    scn := { SCN.reset with state := .gate, current := true, timer := some 9 }
    lc := { node.lc with announced := [5] } }

/-- Figure 65 and R135: a step within the second, one into a later second, and a relabel, from an OPEN and from a PASSED second. -/
theorem witness_ClockMoveAtRe :
    [moved 0 true 500000000, moved 9000000 true 500000000, moved 0 true 1500000000, moved 9000000 false (-5000000000)].map
      (fun t => (t.re.second, t.re.epoch, t.re.sticky.step, t.rs.seconds.map SecondRecord.second))
      = [(5, 0, true, []), (6, 0, true, [5]), (6, 1, false, [5]), (0, 1, false, [])] := by
  decide +kernel

/-- R108, R63, R18: the cycle's abort, the event, and an announce point that a move brings, or does not bring twice. -/
theorem witness_ClockMoveElsewhere :
    [moved 0 true 500000000, moved 0 true 1500000000, moved 9000000 true 500000000].map
      (fun t => (t.scn.outcome, t.rs.events, t.lc.announced, t.lc.announceSeq))
      = [(some .stepAbort, [⟨.clockStep, 5⟩], [5], 0), (some .stepAbort, [⟨.clockStep, 6⟩], [6], 1),
        (some .stepAbort, [⟨.clockStep, 6⟩], [6, 5], 1)] := by
  decide +kernel

/-- The node past its holdover limit. -/
def holding (present : Bool) : State :=
  { node with
    du := { node.du with state := .holdover, holdoverAge := 3600 }
    tb := { node.tb with present := present } }

theorem witness_HoldoverEnds : (holding false).sul.image.holdoverLimit < (holding false).du.holdoverAge + 1
    ∧ (holding false).du.reference = none ∧ pulseCandidate (holding false) = false
    ∧ (∀ e ∈ (holding false).pt.entries, peerCandidate 3 e = false) ∧ pulseCandidate (holding true) = true := by
  decide

/-- The node with its Vector Front End in a state. -/
def front (v : VfeState) : State :=
  { node with vfe := { VFE.reset with state := v, loop := true, holdoff := 9, blank := 31 } }

theorem witness_FrontEnd : (front .driveStart).vfe.state = .driveStart ∧ (front .loopStart).vfe.loop = true
    ∧ 9 ≤ (front .faulted).vfe.holdoff ∧ (front .faulted).pins.driveGood = false
    ∧ ({ front .faulted with pins := { Pins.reset with driveGood := true } }).pins.driveGood = true
    ∧ (front .running).vfe.state = .running ∧ (front .retuning).vfe.state = .retuning := by
  decide

/-- R81: a mark before the tenth is counted, the tenth starts the front end, and a RUNNING one takes no notice of a mark. -/
theorem witness_MarkAtFrontEnd :
    [{ front .faulted with vfe := { (front .faulted).vfe with holdoff := 8 } }, front .faulted, front .running].map
      (fun s => (fun v : VFE => (v.state, v.holdoff)) (after (exec (.secondMark [.vfe]) (marking s))).vfe)
      = [(.faulted, 9), (.driveStart, 10), (.running, 9)] := by
  decide

theorem witness_Instants :
    ((front .running).instants = [] ∧ instantPassed 0 (countTb (front .running).tb).tick ≠ some 127)
    ∧ (({ front .running with instants := [⟨127, 0, 0⟩] }).instants = [⟨127, (front .running).tb.second, (front .running).tb.epoch⟩])
    ∧ instantPassed 9921874 (countTb { (front .running).tb with tick := 9921874 }).tick = some 127
    ∧ (front .running).re.isOpen = true
    ∧ (front .running).re.second = (front .running).tb.second ∧ (front .running).re.epoch = (front .running).tb.epoch
    ∧ (127 : Instant) ∉ (front .running).re.taken
    ∧ (sumValue (front .running).re.sums.x).natAbs < 2 ^ 46
    ∧ (roundDiv ((7999999 : BitVec 24).toInt * 23438) 65536).natAbs < 2 ^ 31
    ∧ 8000000 ≤ (8000000 : BitVec 24).toInt.natAbs ∧ (7999999 : BitVec 24).toInt.natAbs < 8000000
    ∧ 31 ≤ (front .retuning).vfe.blank ∧ ({ front .retuning with vfe := { (front .retuning).vfe with blank := 30 } }).vfe.blank < 31
    ∧ (front .loopStart).vfe.state ≠ .running ∧ (front .loopStart).vfe.state ≠ .retuning := by
  decide

/-- The running node whose open second, of a number and OPEN or not, has taken instant 3, handed a sample of instant 127 of second 5. -/
def sampled (second : Second) (isOpen : Bool) (x : BitVec 24) : State :=
  after (exec (.sampleInstant 127 ⟨x, 0, 0⟩) { front .running with
    tb := { (front .running).tb with second := 5 }
    instants := [⟨127, 5, 0⟩]
    re := { RE.reset with second := second, isOpen := isOpen, taken := [3] } })

/-- R83, R129, R131: a clip, a value, a PASSED second, an earlier and a later sample. -/
theorem witness_SampleCases :
    (fun s : State => (s.re.taken, s.re.sticky.clip, s.vfe.clipped, s.vfe.lastClip.x, s.re.clipped.x)) (sampled 5 true (-8000000))
      = ([3, 127], true, 1, some .negative, 1)
    ∧ (fun s : State => (s.re.taken, s.re.sticky.clip, s.re.n.x, sumValue s.re.sums.x)) (sampled 5 true 7999999)
      = ([3, 127], false, 1, 2861084)
    ∧ ([sampled 5 false 0, sampled 6 true 0].map (fun s => (s.re.second, s.re.taken))) = [(5, [3]), (6, [3])]
    ∧ [sampled 4 true 0, sampled 4 false 0].map (fun s => (s.re.second, s.re.taken, s.rs.seconds.map SecondRecord.second))
      = [(5, [127], [4]), (5, [127], [])] := by
  decide +kernel

theorem witness_Retune : 0 < axisGet Image.default.coarseStep .x ∧ 0 < axisGet Image.default.fineStep .x
    ∧ retunedSettings Image.default .x ⟨0, 0⟩ 2500000 = ⟨1, 50⟩ := by
  decide

/-- R91: the fine setting alone at its bounds, just beyond them, and a target beyond the compensation range. -/
theorem witness_RetuneBounds : [1274999, 1275000, -1284999, -1285000, 90000000].map (retunedSettings Image.default .x ⟨0, 0⟩)
    = [⟨0, 127⟩, ⟨1, -73⟩, ⟨0, -128⟩, ⟨-1, 72⟩, ⟨31, 127⟩] := by
  decide

/-- A report of a closed second without flags whose X mean is given. -/
def report (x : Option Int) (n clipped : Nat) : ResidualReport :=
  ⟨⟨x, none, none⟩, ⟨n, 0, 0⟩, ⟨clipped, 0, 0⟩, false⟩

/-- The running front end with its X runs at the brink, under a station state. -/
def brink (d : Disturbance) : State :=
  { front .running with
    vfe := { (front .running).vfe with bandRun := ⟨2, 0, 0⟩, clipRun := ⟨1, 0, 0⟩, lastClip := ⟨some .negative, none, none⟩ }
    bw := { BW.reset with state := d } }

/-- Each trigger of a retune, and what keeps it off: a mean beyond the band, clips without a mean, a disturbance, one in the band. -/
theorem witness_ReportRetunes :
    (evaluateReport (report (some 2000001) 128 0) (brink .quiet)).vfe.state = .retuning
    ∧ (evaluateReport (report none 0 128) (brink .quiet)).vfe.state = .retuning
    ∧ (evaluateReport (report (some 2000001) 128 0) (brink .disturbed)).vfe.bandInhibit = 1
    ∧ (evaluateReport (report (some 2000000) 128 0) (brink .quiet)).vfe.state = .running
    ∧ (evaluateReport (report (some 2000001) 128 0) (front .retuning)).vfe.bandRun = ⟨1, 0, 0⟩
    ∧ (front .off).vfe.state ≠ .running := by
  decide

/-- The node with its Scalar Counter in a state. -/
def cycle (c : ScnState) : State :=
  { node with
    scn := { SCN.reset with state := c, n := 100, t := 285715, first := some ⟨0, 9999999, 0⟩ }
    pins := { Pins.reset with signalDetect := true } }

theorem witness_Scalar : (cycle .polarize).scn.state = .polarize ∧ (cycle .dead).pins.signalDetect = true
    ∧ ({ cycle .gate with scn := { (cycle .gate).scn with first := none } }).scn.first = none
    ∧ (cycle .gate).scn.n < 4000 ∧ ({ cycle .gate with tb := { TB.reset with second := 1 } }).tb.second = 0 + 1
    ∧ ({ cycle .gate with tb := { TB.reset with tick := 9999999 } }).tb.second = 0
    ∧ ({ cycle .gate with scn := { (cycle .gate).scn with n := 4000 } }).scn.n = 4000 ∧ node.pins.signalDetect = false := by
  decide

theorem witness_GateCloses : 100 ≤ (cycle .gate).scn.n ∧ 850 * (cycle .gate).scn.t ≤ (cycle .gate).scn.n * 10000000
    ∧ (cycle .gate).scn.n * 10000000 ≤ 3500 * (cycle .gate).scn.t ∧ (cycle .gate).scn.t < 10000000
    ∧ (cycle .gate).dru.current = none ∧ (cycle .gate).dru.queue = [] ∧ (99 : Nat) < 100
    ∧ 3500 * 285714 < 100 * 10000000 ∧ 100 * 10000000 < 850 * 1176471 := by
  decide

theorem witness_StartMarks :
    (({ cycle .wait with tb := { TB.reset with second := 4 } }).tb.second + 1).toNat % node.sul.image.cyclePeriod = 0
    ∧ (({ node with tb := { TB.reset with second := 9 } }).tb.second + 1).toNat % node.sul.image.acqPeriod = 0
    ∧ countIsMark (marking { cycle .wait with tb := { TB.reset with second := 4 } }).tb = true
    ∧ (cycle .wait).pins.polarizeFault = false ∧ (cycle .wait).scn.state = .wait ∧ (cycle .faulted).scn.state = .faulted
    ∧ ({ cycle .faulted with pins := { Pins.reset with polarizeFault := true } }).pins.polarizeFault = true
    ∧ ({ node with tu := { TU.reset with state := .settle } }).tu.state ≠ .off ∧ ({ node with tu := TU.reset }).tu.state = .off
    ∧ ({ node with tu := { TU.reset with state := .wait } }).tu.state = .wait := by
  decide

theorem witness_Acquisition : ({ node with tu := { TU.reset with state := .settle } }).tu.state = .settle
    ∧ ({ node with tu := { TU.reset with state := .convert } }).tu.state = .convert
    ∧ 500 ≤ (500 : BitVec 16).toNat ∧ (65000 : BitVec 16).toNat ≤ 65000 ∧ (499 : BitVec 16).toNat < 500
    ∧ 65000 < (65001 : BitVec 16).toNat
    ∧ max (-4000) (min 8500 (-5000 + roundDiv (49300 * 12000) 65536)) = (4027 : Int)
    ∧ (4000 : Int) < 4027 ∧ queueDepth 0 ≤ 1 ∧ 1 < queueDepth 1 ∧ queueDepth 1 ≤ 1 + 1 ∧ 1 + 1 < queueDepth 2 := by
  decide

theorem witness_AxisSum : (-141508479 : Int).natAbs < 2 ^ 31 ∧ (List.replicate 128 (141508479 : Int)).length ≤ 128 := by
  decide +kernel

theorem witness_MarkClosesSecond : countIsMark (marking node).tb = true ∧ node.re.isOpen = true ∧ node.re.epoch = node.tb.epoch
    ∧ node.tb.second = node.re.second
    ∧ node.rs.seconds.length < 1024 ∧ ringHolds node.re.epoch (node.re.second + 1) node.rs = false := by
  decide

/-- R178: a full ring loses its oldest record at a close. -/
theorem witness_FullRing : (fun rs : RS => (rs.seconds.length, (rs.seconds.getLast?).map SecondRecord.sequence))
    (after (exec (.secondMark [.re]) { marking node with rs := { RS.reset with
      seconds := List.replicate 1024 { closedRecord (.none, none) node with sequence := 7, second := 9, final := true } } })).rs
    = (1024, some 8) := by
  decide +kernel

/-- The closing node with a sensor reading, a substitute peer's and a held temperature of given ages. -/
def warm (own peer held : Nat) : State :=
  { marking node with
    sul := { node.sul with image := { node.sul.image with substitutePeer := 5 } }
    tu := { TU.reset with sensor := { TempChannel.reset with reading := some ⟨2001, .none, 0, 0, own⟩ } }
    pt := ⟨[{ star 5 1 9 with latestTemp := some ⟨2002, 0, peer⟩ }], 0⟩
    re := { node.re with held := some ⟨2003, .none, held⟩ } }

/-- Figure 66's order at each last admitted age (R136). -/
theorem witness_Temperatures :
    ((after (exec (.secondMark [.re]) (warm 20 30 600))).rs.seconds.map SecondRecord.tsource,
      (after (exec (.secondMark [.re]) (warm 21 30 600))).rs.seconds.map SecondRecord.tsource,
      (after (exec (.secondMark [.re]) (warm 21 31 600))).rs.seconds.map SecondRecord.tsource,
      (after (exec (.secondMark [.re]) (warm 21 31 601))).rs.seconds.map SecondRecord.tsource)
      = ([.localReading], [.peer], [.held], [.none])
    ∧ [warm 20 30 600, warm 21 30 600, warm 21 31 600, warm 21 31 65535].map (fun s => (after (exec (.secondMark [.re]) s)).re.held)
      = [some ⟨2001, .none, 1⟩, some ⟨2002, .none, 1⟩, some ⟨2003, .none, 601⟩, some ⟨2003, .none, 65535⟩] := by
  decide

/-- R133: the flags, the settings and the readings of the record of a RETUNED second. -/
theorem witness_RecordFields :
    (after (exec (.secondMark [.re]) { warm 20 30 600 with
      bw := { BW.reset with state := .easing }
      re := { (warm 20 30 600).re with sticky := ⟨false, true, false, true, true⟩, attached := some ⟨⟨1, 2⟩, ⟨3, 4⟩, ⟨5, 6⟩⟩ } })).rs.seconds.map
        (fun r => (r.flags.blank, r.flags.relabel, r.flags.thermal, r.flags.disturbed))
      = [(true, true, false, true)]
    ∧ (after (exec (.secondMark [.re]) { warm 20 30 600 with
      re := { (warm 20 30 600).re with sticky := ⟨false, true, false, true, true⟩, attached := some ⟨⟨1, 2⟩, ⟨3, 4⟩, ⟨5, 6⟩⟩ } })).rs.seconds.map
        (fun r => (r.settings, r.sensor, r.pier)) = [(some ⟨⟨1, 2⟩, ⟨3, 4⟩, ⟨5, 6⟩⟩, some ⟨2001, .none, 0⟩, none)] := by
  decide +kernel

/-- A chain record whose X chain stands at a step. -/
def chainAt (c : ChainStep) (t : Option Int) : ChainRecord :=
  { chainOf (closedRecord (.none, none) node) node.re with steps := ⟨c, .waiting, .waiting⟩, tcorr := t }

/-- The node dividing for a client with a chain record. -/
def dividing (client : Client) (d : Nat) (c : ChainRecord) : State :=
  { node with
    dru := { DRU.reset with current := some ⟨⟨client, .divide 7 d⟩, 0⟩ }
    re := { node.re with chain := [c] }
    scn := { SCN.reset with state := .compute, mid := some (4, 0) } }

theorem witness_Division :
    (dividing .scalar 2 (chainAt .mean none)).scn.state = .compute
    ∧ activeRecord .x (dividing (.axis .x) 0 (chainAt .mean none)).re.chain = some (chainAt .mean none)
    ∧ axisGet (chainAt .mean none).steps .x ≠ .waiting ∧ axisGet (chainAt .mean none).steps .x ≠ .ended
    ∧ activeRecord .x (dividing (.axis .x) 2 (chainAt (.offset 5 6) (some 1))).re.chain = some (chainAt (.offset 5 6) (some 1))
    ∧ axisGet (chainAt (.offset 5 6) (some 1)).steps .x = .offset 5 6 ∧ (chainAt .mean none).tcorr = none
    ∧ (chainAt .mean (some 1)).tcorr = some 1 ∧ axisGet (chainAt (.scale 5) (some 1)).steps .x = .scale 5
    ∧ (dividing (.axis .x) 2 (chainAt (.scale 5) (some 1))).dru.queue = [] ∧ node.mdm.source ≠ .own
    ∧ ({ dividing .scalar 2 (chainAt .mean none) with mdm := { MDM.reset with source := .own } }).mdm.source = .own
    ∧ (dividing .scalar 2 (chainAt .mean none)).dru.queue = [] := by
  decide

/-- The node building a minute: DIVIDE for MINUTE in progress, with the rest of the build. -/
def building (b : Option MinuteBuild) (heads : List Minute) (discard : Bool) : State :=
  { node with
    dru := { DRU.reset with current := some ⟨⟨.minute, .divide 90 4⟩, 0⟩ }
    rs := { RS.reset with build := b, buildList := heads, discard := discard } }

/-- A FINAL record of second 0 with an F. -/
def finished : SecondRecord :=
  { closedRecord (.none, none) node with final := true, f := some 5 }

/-- Its minute without axis means, and the divisions of F and of ΔF. -/
theorem witness_Minutes :
    (gatherMinute ⟨0, 0⟩ [finished]).todo = [⟨.f, 5, 1⟩]
    ∧ ((building none [] true).rs.discard = true ∧ (building none [] true).rs.buildList = [])
    ∧ (building (some ⟨(gatherMinute ⟨0, 0⟩ [finished]).body, [⟨.f, 5, 1⟩, ⟨.deltaF, 6, 1⟩]⟩) [⟨0, 0⟩] false).rs.discard = false
    ∧ (building (some ⟨(gatherMinute ⟨0, 0⟩ [finished]).body, [⟨.f, 5, 1⟩]⟩) [⟨0, 0⟩] false).rs.minutes = []
    ∧ (after (exec .divideComplete (building (some ⟨(gatherMinute ⟨0, 0⟩ [finished]).body, [⟨.f, 5, 1⟩]⟩) [⟨0, 0⟩] false))).rs.minutes.map
        (fun m => (m.sequence, m.body.f.mean)) = [(0, some 23)] := by
  decide

/-- The node whose current minute is 0, with the minutes started. -/
def minuteNode (r : SecondRecord) (heads : List Minute) : State :=
  { node with rs := { RS.reset with seconds := [r], current := some ⟨0, 0⟩, buildList := heads } }

theorem witness_MinuteKeys :
    (minuteNode finished []).rs.current = some ⟨0, 0⟩ ∧ (⟨0, 0⟩ : Minute) ≠ ⟨0, 1⟩
    ∧ (∀ r ∈ minuteRecords ⟨0, 0⟩ (minuteNode finished []).rs, r.final = true)
    ∧ (gatherMinute ⟨0, 0⟩ (minuteRecords ⟨0, 0⟩ (minuteNode finished []).rs)).todo = [⟨.f, 5, 1⟩]
    ∧ (∃ r ∈ minuteRecords ⟨0, 0⟩ (minuteNode { finished with final := false } [⟨0, 0⟩]).rs, r.final = false)
    ∧ (minuteNode { finished with final := false } (⟨0, 9⟩ :: ⟨0, 0⟩ :: List.replicate 14 ⟨0, 8⟩)).rs.buildList
        = ⟨0, 9⟩ :: ⟨0, 0⟩ :: List.replicate 14 ⟨0, 8⟩
    ∧ (List.replicate 14 (⟨0, 8⟩ : Minute)).length = 14 := by
  decide

/-- A pending entry. -/
def entryOf (early : Option Int) (marks : Nat) : PendingEntry :=
  ⟨4, 0, 9, 13, none, early, marks⟩

/-- The node with one pending entry whose root is with the DRU, and a held F at its last mark. -/
def matching (e : List PendingEntry) : State :=
  { node with
    dru := { DRU.reset with current := some ⟨⟨.magnitude, .root 13⟩, 0⟩ }
    mdm := { MDM.reset with list := e, root := some 4, heldF := some ⟨5, 10, 1⟩ } }

theorem witness_Roots : (13 : Nat) < 2 ^ 56 ∧ (matching [entryOf none 8]).mdm.list = [entryOf none 8]
    ∧ (matching [entryOf none 8]).mdm.root = some (entryOf none 8).sequence ∧ (entryOf (some 3) 8).earlyF = some 3
    ∧ (matching [entryOf none 8]).dru.queue = [] := by
  decide

theorem witness_TakenF : (200000000 : Int) ≤ 200000000 ∧ (∀ e ∈ (matching [entryOf none 8]).mdm.list, 0 < signedDiff 10 e.second)
    ∧ (∀ e ∈ (matching [entryOf none 8]).mdm.list, e.second ≠ 8)
    ∧ ∃ e ∈ (matching [entryOf none 8]).mdm.list, signedDiff 8 e.second ≤ 0 := by
  decide

/-- An entry with |B|, one with an early F, and own F values for held, earlier and later seconds. -/
theorem witness_Matched :
    (∃ e ∈ (matching [{ entryOf none 8 with magnitude := some 12 }]).mdm.list, e.second = 9)
    ∧ (∀ e ∈ (matching [{ entryOf none 8 with magnitude := some 12 }]).mdm.list, e.second = 9 → e.magnitude ≠ none)
    ∧ ([{ entryOf none 8 with magnitude := some 12 }].map PendingEntry.sequence).Nodup
    ∧ (∀ e ∈ (matching [entryOf none 8]).mdm.list, e.second = 9 → e.magnitude = none)
    ∧ (matching [entryOf (some 3) 8]).mdm.root = some (entryOf (some 3) 8).sequence
    ∧ (∃ r ∈ [finished], r.epoch = 0 ∧ r.second = 0) ∧ (∀ r ∈ [finished], r.epoch ≠ 1)
    ∧ [finished] = [] ++ finished :: [] ∧ 0 < signedDiff 1 finished.second ∧ signedDiff (-1) finished.second ≤ 0 := by
  decide

theorem witness_PendingExpire : automaticMode (matching []).sul.image (matching []).sul.stationId = false
    ∧ automaticMode { (matching []).sul.image with scalarRole := false } 3 = true
    ∧ ((matching [entryOf none 1]).mdm.list.map PendingEntry.sequence).Nodup
    ∧ (∃ e ∈ (matching [entryOf none 1]).mdm.list, e.marks ≤ 1)
    ∧ (matching []).mdm.heldF = some ⟨5, 10, 1⟩ ∧ (matching []).mdm.expired ≤ 65535 := by
  decide

/-- R154, R157, R158: an ordinary mark at MDM, and one at which a held F goes. -/
theorem witness_MarkAtMatcher :
    (fun m : MDM => (m.list.map PendingEntry.marks, m.heldF.map HeldF.marks, m.source))
      (after (exec (.secondMark [.mdm]) { marking node with mdm := { MDM.reset with
        source := .own
        list := [entryOf none 8, entryOf none 2]
        heldF := some ⟨5, 10, 8⟩ } })).mdm = ([7, 1], some 7, .own)
    ∧ (after (exec (.secondMark [.mdm]) (marking (matching [entryOf none 2])))).mdm.heldF = none := by
  decide

/-- R171: the disturbed time counts in DISTURBED to its maximum, past which BW reseeds; a QUIET watch stands. -/
theorem witness_MarkAtWatch :
    [(Disturbance.disturbed, 7199), (.easing, 7200), (.quiet, 7)].map (fun p => (fun w : BW => (w.state, w.disturbedTime, w.reseeds))
      (after (exec (.secondMark [.bw]) { marking node with bw := { BW.reset with state := p.1, disturbedTime := p.2 } })).bw)
      = [(.disturbed, 7200, 0), (.quiet, 0, 1), (.quiet, 7, 0)] := by
  decide

theorem witness_Disturbed : node.sul.image.maxDisturbed < ({ BW.reset with state := .easing, disturbedTime := 7200 } : BW).disturbedTime + 1
    ∧ ({ BW.reset with state := .easing, disturbedTime := 7200 } : BW).state = .easing := by
  decide

theorem witness_Baselines : ({ noFlags with step := true } : RecordFlags).step = true ∧ noFlags.retuned = false
    ∧ axisGet (⟨some 5, none, none⟩ : Axes (Option Int)) .x = some 5
    ∧ (20000 : Int).natAbs ≤ node.sul.image.fastBound.natAbs ∧ node.sul.image.fastBound < 20001
    ∧ node.sul.image.watchThreshold < 200001 := by
  decide

/-- R164, R165: an axis absent from a counting record and the empty record leave the watch of the axis; an excluded record stores the
latest value alone. -/
theorem witness_AbsentAxes :
    (fun w : BW => [w.axes.x, w.axes.y]) (watchRecord noFlags ⟨none, some 9, none⟩ 9 { node with
        bw := { BW.reset with axes := ⟨⟨some 1, some 2, some 3, some .quiet⟩, AxisWatch.unseeded, AxisWatch.unseeded⟩ } }).bw
      = [⟨some 1, some 2, some 3, some .quiet⟩, ⟨some 9, some 9, some 0, some .quiet⟩]
    ∧ watchRecord noFlags ⟨none, none, none⟩ 9 node = node
    ∧ (watchRecord { noFlags with step := true } ⟨some 9, none, none⟩ 9 node).bw
      = { BW.reset with axes := ⟨⟨none, some 9, none, none⟩, AxisWatch.unseeded, AxisWatch.unseeded⟩, excluded := 1 } := by
  decide

/-- The node's station watch in a state, with X seeded at 0. -/
def watching (d : Disturbance) (onset ease : Nat) : State :=
  { node with bw := { BW.reset with
    axes := ⟨⟨some 0, none, none, none⟩, AxisWatch.unseeded, AxisWatch.unseeded⟩
    state := d
    onsetRun := onset
    easeRun := ease } }

/-- The station state after a record whose X deviates so far. -/
def watched (x : Int) (s : State) : Disturbance :=
  (watchRecord noFlags ⟨some x, none, none⟩ 9 s).bw.state

/-- Figure 82: an active axis beyond 200,000, the release test below 100,000, the onset count 5 and the ease count 60. -/
theorem witness_WatchStates :
    [watched 200001 (watching .quiet 0 0), watched 200001 (watching .onset 4 0), watched 200000 (watching .onset 3 0),
      watched 99999 (watching .disturbed 0 0), watched 100000 (watching .disturbed 0 0), watched 99999 (watching .easing 0 59),
      watched 100000 (watching .easing 0 59)]
      = [.onset, .disturbed, .quiet, .easing, .disturbed, .quiet, .disturbed]
    ∧ watched 200001 { watching .quiet 0 0 with
        pt := ⟨[{ star 5 1 9 with disturbance := .disturbed, abilities := ⟨true, true, true, true⟩ }], 0⟩ } = .disturbed
    ∧ 1 ≤ node.sul.image.releaseThreshold := by
  decide

/-- Figure 83 at the limit of 2,000. -/
theorem witness_DeltaF :
    ((watchDeltaF (some 2001) 9 { node with bw := { BW.reset with ldf := some 0, outside := 2 } }).bw.excursion,
      (watchDeltaF (some 2000) 9 { node with bw := { BW.reset with ldf := some 0, outside := 2 } }).bw.outside,
      (watchDeltaF (some 2000) 9 { node with bw := { BW.reset with ldf := some 0, excursion := true, inside := 2 } }).bw.ldf)
      = (true, 0, some 31) := by
  decide

theorem witness_Events : node.sul.image.eventMask.getLsbD (eventCode .frontEndFault - 1) = true
    ∧ (0 : BitVec 12).getLsbD (eventCode .frontEndFault - 1) = false ∧ node.rs.events.length < 8
    ∧ (List.replicate 7 (⟨.retune, 1⟩ : Event)).length = 7 := by
  decide

/-- The invariants that the step statements assume stand right after reset. -/
theorem witness_Invariants : State.reset.tb.tick < 10000000 ∧ State.reset.lc.ring.length ≤ 8
    ∧ (State.reset.rs.seconds.map SecondRecord.sequence).IsChain (fun a b => b = a + 1)
    ∧ State.reset.re.taken.Nodup
    ∧ (∀ e ∈ ({ node with pt := ⟨[star 5 1 9, star 6 1 8], 0⟩ }).pt.entries, e.id ≠ 0 ∧ e.id ≠ node.sul.stationId ∧ e.missed ≤ 65535) := by
  decide

end Sys2Proof.Tests
end

section
/-! PROOF. An accepted sample (R62 to R69, R74): the arithmetic of the filter and of the trim, what `filterSample`, `countLock` and
`rebound` write, what `duSample` does in each discipline state, and from these the statement O30. -/

namespace Sys2Proof.Machine

/-! ## Arithmetic of the filter, the trim and the bound -/

/-- A rounded quotient lies between 0 and its dividend. -/
theorem roundDiv_between_zero (a : Int) {d : Nat} (hd : 0 < d) : min 0 a ≤ roundDiv a d ∧ roundDiv a d ≤ max 0 a := by
  have hmod : a.natAbs % d < d := Nat.mod_lt _ hd
  have hsum : a.natAbs / d + a.natAbs % d ≤ a.natAbs := by
    calc a.natAbs / d + a.natAbs % d ≤ d * (a.natAbs / d) + a.natAbs % d :=
          Nat.add_le_add_right (Nat.le_mul_of_pos_left _ hd) _
      _ = a.natAbs := Nat.div_add_mod _ _
  have hle : (if d ≤ 2 * (a.natAbs % d) then a.natAbs / d + 1 else a.natAbs / d) ≤ a.natAbs := by
    split <;> omega
  unfold roundDiv
  dsimp only
  split <;> omega

theorem clampInt_eq_max_min {lo hi : Int} (h : lo ≤ hi) (v : Int) : clampInt lo hi v = max lo (min hi v) := by
  unfold clampInt
  split
  · omega
  · split <;> omega

theorem satBound_eq_min (v : Nat) : satBound v = min 65535 v := by
  unfold satBound
  split <;> omega

theorem trimAtBound_iff (trim : Int) : trimAtBound trim = true ↔ trim = 50000 ∨ trim = -50000 := by
  simp [trimAtBound]

/-! ## What an accepted sample writes -/

theorem filterSample_f (b : Nat) (theta : Int) (s : State) :
    (filterSample b theta s).du.f = s.du.f + roundDiv (theta - s.du.f) (2 ^ b) := rfl

/-- The filter never leaves the interval between its old value and the sample. -/
theorem filterSample_f_between (b : Nat) (theta : Int) (s : State) :
    min s.du.f theta ≤ (filterSample b theta s).du.f ∧ (filterSample b theta s).du.f ≤ max s.du.f theta := by
  have hstep := roundDiv_between_zero (theta - s.du.f) (Nat.two_pow_pos b)
  rw [filterSample_f]
  omega

theorem filterSample_trim (b : Nat) (theta : Int) (s : State) :
    (filterSample b theta s).tb.trim
      = max (-50000) (min 50000 (s.tb.trim + roundDiv (filterSample b theta s).du.f 16)) :=
  clampInt_eq_max_min (by decide) _

theorem filterSample_trimLimit_iff (b : Nat) (theta : Int) (s : State) :
    (filterSample b theta s).du.trimLimit = true
      ↔ s.du.trimLimit = true ∨ (filterSample b theta s).tb.trim = 50000 ∨ (filterSample b theta s).tb.trim = -50000 := by
  rw [← trimAtBound_iff, ← Bool.or_eq_true]
  rfl

@[simp] theorem filterSample_state (b : Nat) (theta : Int) (s : State) :
    (filterSample b theta s).du.state = s.du.state := rfl

@[simp] theorem filterSample_reference (b : Nat) (theta : Int) (s : State) :
    (filterSample b theta s).du.reference = s.du.reference := rfl

/-- With DU written after it, the filter leaves every block but TB and DU as it stood. -/
theorem filterSample_setDu (b : Nat) (theta : Int) (s : State) (d : DU) :
    (filterSample b theta s).setDu d = { s with
      tb := { s.tb with slew := some (roundDiv (filterSample b theta s).du.f 4), trim := (filterSample b theta s).tb.trim }
      du := d } := rfl

/-! ## The error bound in LOCKED (R74) -/

@[simp] theorem rebound_trimLimit (pt : PT) (d : DU) : (rebound pt d).trimLimit = d.trimLimit := rfl

theorem rebound_errorBound_pulse {d : DU} (pt : PT) (hst : d.state = .locked) (href : d.reference = some .pulse) :
    (rebound pt d).errorBound = min 65535 (1 + (d.f.natAbs + 999) / 1000 + 1) := by
  simp [rebound, boundOf, hst, href, satBound_eq_min, ceilDiv]

theorem rebound_errorBound_peer {d : DU} {pt : PT} {id : StationId} {e : PeerEntry} (hst : d.state = .locked)
    (href : d.reference = some (.peer id)) (he : findEntry id pt.entries = some e) :
    (rebound pt d).errorBound = min 65535 (e.errorBound + (d.f.natAbs + 999) / 1000 + 1) := by
  simp [rebound, boundOf, hst, href, he, satBound_eq_min, ceilDiv]

/-! ## The lock count (R69) -/

theorem countLock_of_far {theta : Int} (h : 20000 ≤ theta.natAbs) (pt : PT) (d : DU) :
    countLock theta pt d = { d with lockCount := 0 } :=
  if_neg (Nat.not_lt.mpr h)

theorem countLock_of_near {theta : Int} {d : DU} (h : theta.natAbs < 20000) (hn : d.lockCount + 1 < 8) (pt : PT) :
    countLock theta pt d = { d with lockCount := d.lockCount + 1 } :=
  (if_pos h).trans (if_neg (Nat.not_le.mpr hn))

theorem countLock_of_eighth {theta : Int} {d : DU} (h : theta.natAbs < 20000) (hn : 8 ≤ d.lockCount + 1) (pt : PT) :
    countLock theta pt d = rebound pt { d with state := .locked, lockCount := 0, outlierRun := 0 } :=
  (if_pos h).trans (if_pos hn)

/-- The lock count of a sample in ACQUIRE either only moves, or DU enters LOCKED with its bound computed anew. -/
theorem countLock_cases (theta : Int) (pt : PT) (d : DU) :
    (∃ n, countLock theta pt d = { d with lockCount := n })
      ∨ countLock theta pt d = rebound pt { d with state := .locked, lockCount := 0, outlierRun := 0 } := by
  rcases Nat.lt_or_ge theta.natAbs 20000 with hnear | hfar
  · rcases Nat.lt_or_ge (d.lockCount + 1) 8 with hn | hn
    · exact .inl ⟨_, countLock_of_near hnear hn pt⟩
    · exact .inr (countLock_of_eighth hnear hn pt)
  · exact .inl ⟨_, countLock_of_far hfar pt d⟩

theorem countLock_frame (theta : Int) (pt : PT) (d : DU) :
    countLock theta pt d = { d with
      state := (countLock theta pt d).state
      lockCount := (countLock theta pt d).lockCount
      outlierRun := (countLock theta pt d).outlierRun
      errorBound := (countLock theta pt d).errorBound } := by
  rcases countLock_cases theta pt d with ⟨n, h⟩ | h
  · rw [h]
  · rw [h]
    rfl

theorem countLock_stays {theta : Int} {pt : PT} {d : DU} (h : (countLock theta pt d).state = .acquire) :
    (countLock theta pt d).outlierRun = d.outlierRun ∧ (countLock theta pt d).errorBound = d.errorBound := by
  rcases countLock_cases theta pt d with ⟨n, hc⟩ | hc
  · rw [hc]
    exact ⟨rfl, rfl⟩
  · rw [hc] at h
    cases h

@[simp] theorem countLock_f (theta : Int) (pt : PT) (d : DU) : (countLock theta pt d).f = d.f := by
  rw [countLock_frame]

@[simp] theorem countLock_reference (theta : Int) (pt : PT) (d : DU) : (countLock theta pt d).reference = d.reference := by
  rw [countLock_frame]

@[simp] theorem countLock_trimLimit (theta : Int) (pt : PT) (d : DU) : (countLock theta pt d).trimLimit = d.trimLimit := by
  rw [countLock_frame]

/-- When the count brings LOCKED, DU is the one `rebound` made, with the filter and reference it had. -/
theorem countLock_locks {theta : Int} {pt : PT} {d : DU} (hd : d.state = .acquire)
    (h : (countLock theta pt d).state = .locked) :
    countLock theta pt d = rebound pt { d with state := .locked, lockCount := 0, outlierRun := 0 } := by
  refine (countLock_cases theta pt d).resolve_left ?_
  rintro ⟨n, hc⟩
  rw [hc, hd] at h
  cases h

theorem countLock_errorBound_pulse {theta : Int} {pt : PT} {d : DU} (hd : d.state = .acquire)
    (h : (countLock theta pt d).state = .locked) (href : d.reference = some .pulse) :
    (countLock theta pt d).errorBound = min 65535 (1 + (d.f.natAbs + 999) / 1000 + 1) := by
  rw [countLock_locks hd h]
  exact rebound_errorBound_pulse pt rfl href

theorem countLock_errorBound_peer {theta : Int} {pt : PT} {d : DU} {id : StationId} {e : PeerEntry}
    (hd : d.state = .acquire) (h : (countLock theta pt d).state = .locked) (href : d.reference = some (.peer id))
    (he : findEntry id pt.entries = some e) :
    (countLock theta pt d).errorBound = min 65535 (e.errorBound + (d.f.natAbs + 999) / 1000 + 1) := by
  rw [countLock_locks hd h]
  exact rebound_errorBound_peer rfl href he

/-! ## What a sample does in each discipline state (R61, R62, R65, R66) -/

theorem duSample_ignored {r : Reference} {theta : Int} {s : State}
    (h : s.du.reference ≠ some r ∨ s.du.state = .freeRoot ∨ s.du.state = .holdover) : duSample r theta s = s := by
  unfold duSample
  rcases h with href | hst | hst
  · exact if_neg href
  · simp [hst]
  · simp [hst]

theorem duSample_acquire {r : Reference} {theta : Int} {s : State} (href : s.du.reference = some r)
    (hst : s.du.state = .acquire) (hband : theta.natAbs ≤ 999999) :
    duSample r theta s = (filterSample 1 theta s).setDu (countLock theta s.pt (filterSample 1 theta s).du) := by
  have hrelabel : ¬ 1000000000 ≤ theta.natAbs := by omega
  have hstep : ¬ 1000000 ≤ theta.natAbs := by omega
  simp [duSample, href, hst, sampleAcquire, hrelabel, hstep]

theorem duSample_locked {r : Reference} {theta : Int} {s : State} (href : s.du.reference = some r)
    (hst : s.du.state = .locked) (hband : theta.natAbs ≤ 999999) :
    duSample r theta s
      = (filterSample 3 theta s).setDu (rebound s.pt { (filterSample 3 theta s).du with outlierRun := 0 }) := by
  have hrelabel : ¬ 1000000000 ≤ theta.natAbs := by omega
  have hstep : ¬ 1000000 ≤ theta.natAbs := by omega
  simp [duSample, href, hst, sampleLocked, hrelabel, hstep]

theorem duSample_outlier {r : Reference} {theta : Int} {s : State} (href : s.du.reference = some r)
    (hst : s.du.state = .locked) (hlow : 1000000 ≤ theta.natAbs) (hhigh : theta.natAbs < 1000000000)
    (hrun : s.du.outlierRun < 2) :
    duSample r theta s = s.setDu { s.du with outliers := bump s.du.outliers, outlierRun := s.du.outlierRun + 1 } := by
  have hrelabel : ¬ 1000000000 ≤ theta.natAbs := by omega
  have hthird : ¬ 2 ≤ s.du.outlierRun := by omega
  simp [duSample, href, hst, sampleLocked, hrelabel, hlow, hthird]

/-! ## O30 -/

/-- Settles O30, by DU's state: in ACQUIRE the filter is followed by the lock count, in LOCKED by the bound computed anew. -/
theorem sampleAccepted : Obligations.SampleAccepted := by
  unfold Obligations.SampleAccepted
  refine ⟨fun r theta s href hband hst => ?_, fun r theta s => ⟨duSample_ignored, duSample_outlier⟩⟩
  rcases hst with hst | hst
  · have hacq : (filterSample 1 theta s).du.state = .acquire := hst
    refine ⟨_, (filterSample 1 theta s).du.f, (filterSample 1 theta s).tb.trim, duSample_acquire href hst hband,
      fun _ => filterSample_f .., fun h => by simp [hst] at h, filterSample_trim .., (filterSample_f_between ..).1,
      (filterSample_f_between ..).2, filterSample_setDu .., by simp, by simp [href], by simp [filterSample_trimLimit_iff],
      fun h => by simp [hst] at h, countLock_stays, ?boundOnPulse, ?boundOnPeer, ?frame, ?far, ?near, ?eighth⟩
    case boundOnPulse => exact fun hlocked hr => countLock_errorBound_pulse hacq hlocked (hr ▸ href)
    case boundOnPeer => exact fun e id hlocked hr he => countLock_errorBound_peer hacq hlocked (hr ▸ href) he
    case frame => exact (countLock_frame ..).trans (by rw [State.setDu_du, countLock_trimLimit]; rfl)
    case far => exact fun _ hfar => by simp [countLock_of_far hfar, hst]
    case near =>
      intro _ hnear hn
      rw [State.setDu_du, countLock_of_near (d := (filterSample 1 theta s).du) hnear hn]
      exact ⟨hst, rfl⟩
    case eighth =>
      intro _ hnear hn
      rw [State.setDu_du, countLock_of_eighth (d := (filterSample 1 theta s).du) hnear hn]
      exact ⟨rfl, rfl, rfl⟩
  · have hnot : ¬ s.du.state = .acquire := by simp [hst]
    refine ⟨_, (filterSample 3 theta s).du.f, (filterSample 3 theta s).tb.trim, duSample_locked href hst hband,
      fun h => absurd h hnot, fun _ => filterSample_f .., filterSample_trim .., (filterSample_f_between ..).1,
      (filterSample_f_between ..).2, filterSample_setDu .., rfl, href, by simp [filterSample_trimLimit_iff],
      fun _ => ⟨hst, rfl, rfl⟩, fun h => absurd h hnot, ?boundOnPulse, ?boundOnPeer, rfl,
      fun h => absurd h hnot, fun h => absurd h hnot, fun h => absurd h hnot⟩
    case boundOnPulse => exact fun _ hr => rebound_errorBound_pulse _ hst (hr ▸ href)
    case boundOnPeer => exact fun e id _ hr he => rebound_errorBound_peer hst (hr ▸ href) he

end Sys2Proof.Machine
end

section
/-! PROOF. An axis sum (R130): what `addToSum` does to the low part and to the extension, when the sum's value moves by exactly the
value added, what a list of values leaves, and from these the statement O43. -/

namespace Sys2Proof.Machine

/-! ## The value of a sum and its two parts -/

theorem sumValue_eq (w : Sum48) : sumValue w = w.ext.toInt * 2 ^ 32 + w.low.toNat := rfl

/-- The low part is the remainder of the value, so the extension is its quotient, rounded down. -/
theorem ext_toInt_eq_sumValue_div (w : Sum48) : w.ext.toInt = sumValue w / 2 ^ 32 := by
  have hlow : w.low.toNat < 2 ^ 32 := w.low.isLt
  rw [sumValue_eq]
  omega

/-! ## One value added -/

theorem addToSum_low (w : Sum48) (v : Int) : ((addToSum w v).low.toNat : Int) = ((w.low.toNat : Int) + v) % 2 ^ 32 := by
  have hpos : 0 ≤ ((w.low.toNat : Int) + v) % 2 ^ 32 := Int.emod_nonneg _ (by decide)
  calc ((addToSum w v).low.toNat : Int) = ((((w.low.toNat : Int) + v) % 2 ^ 32).toNat : Int) :=
        congrArg Nat.cast (BitVec.toNat_ofInt ..)
    _ = ((w.low.toNat : Int) + v) % 2 ^ 32 := Int.toNat_of_nonneg hpos

theorem addToSum_ext_of_carry {w : Sum48} {v : Int} (h : 2 ^ 32 ≤ (w.low.toNat : Int) + v) :
    (addToSum w v).ext = w.ext + 1 := if_pos h

theorem addToSum_ext_of_borrow {w : Sum48} {v : Int} (h : (w.low.toNat : Int) + v < 0) :
    (addToSum w v).ext = w.ext - 1 :=
  (if_neg (by omega)).trans (if_pos h)

theorem addToSum_ext_of_within {w : Sum48} {v : Int} (hlow : 0 ≤ (w.low.toNat : Int) + v)
    (hhigh : (w.low.toNat : Int) + v < 2 ^ 32) : (addToSum w v).ext = w.ext :=
  (if_neg (by omega)).trans (if_neg (by omega))

theorem ext_toInt_add_one {e : BitVec 16} (h : e.toInt < 2 ^ 15 - 1) : (e + 1).toInt = e.toInt + 1 := by
  have hlow : -2 ^ 15 ≤ e.toInt := BitVec.le_toInt e
  rw [BitVec.toInt_add, show (1 : BitVec 16).toInt = 1 from rfl]
  exact Int.bmod_eq_of_le (by omega) (by omega)

theorem ext_toInt_sub_one {e : BitVec 16} (h : -2 ^ 15 < e.toInt) : (e - 1).toInt = e.toInt - 1 := by
  have hhigh : e.toInt < 2 ^ 15 := BitVec.toInt_lt
  rw [BitVec.toInt_sub, show (1 : BitVec 16).toInt = 1 from rfl]
  exact Int.bmod_eq_of_le (by omega) (by omega)

/-- Within 48 signed bits the extension takes the carry or the borrow without wrapping, so nothing of the value is lost. -/
theorem sumValue_addToSum {w : Sum48} {v : Int} (hv : v.natAbs < 2 ^ 31) (hsum : (sumValue w + v).natAbs < 2 ^ 47) :
    sumValue (addToSum w v) = sumValue w + v := by
  have hlow : w.low.toNat < 2 ^ 32 := w.low.isLt
  have hmod := addToSum_low w v
  rw [sumValue_eq] at hsum
  rw [sumValue_eq, sumValue_eq, hmod]
  rcases lt_or_ge ((w.low.toNat : Int) + v) 0 with hborrow | hnonneg
  · rw [addToSum_ext_of_borrow hborrow, ext_toInt_sub_one (by omega)]
    omega
  · rcases lt_or_ge ((w.low.toNat : Int) + v) (2 ^ 32) with hwithin | hcarry
    · rw [addToSum_ext_of_within hnonneg hwithin]
      omega
    · rw [addToSum_ext_of_carry hcarry, ext_toInt_add_one (by omega)]
      omega

/-! ## A list of values added -/

/-- Signed 32-bit values move a sum by no more than 2^31 each, so while that room is left every addition is exact. -/
theorem sumValue_foldl_addToSum {vs : List Int} (hv : ∀ v ∈ vs, v.natAbs < 2 ^ 31) {w : Sum48}
    (hroom : (sumValue w).natAbs + vs.length * 2 ^ 31 < 2 ^ 47) :
    sumValue (vs.foldl addToSum w) = sumValue w + vs.sum := by
  induction vs generalizing w with
  | nil => simp
  | cons v vs ih =>
    rw [List.forall_mem_cons] at hv
    obtain ⟨hhead, htail⟩ := hv
    rw [List.length_cons] at hroom
    have hstep : sumValue (addToSum w v) = sumValue w + v := sumValue_addToSum hhead (by omega)
    have hrest := ih htail (w := addToSum w v) (by omega)
    rw [List.foldl_cons, hrest, hstep, List.sum_cons, Int.add_assoc]

theorem sum_bounds_of_natAbs_lt {vs : List Int} (hv : ∀ v ∈ vs, v.natAbs < 2 ^ 31) :
    -(vs.length * (2 ^ 31 - 1) : Int) ≤ vs.sum ∧ vs.sum ≤ vs.length * (2 ^ 31 - 1) := by
  have hlow := vs.card_nsmul_le_sum (-(2 ^ 31 - 1)) fun v hmem => by have := hv v hmem; omega
  have hhigh := vs.sum_le_card_nsmul (2 ^ 31 - 1) fun v hmem => by have := hv v hmem; omega
  rw [nsmul_eq_mul] at hlow hhigh
  omega

/-- 128 signed 32-bit values fill a sum from zero to less than 2^38: 7 bits of the extension, its sign included. -/
theorem sum_of_128_values {vs : List Int} (hlen : vs.length ≤ 128) (hv : ∀ v ∈ vs, v.natAbs < 2 ^ 31) :
    sumValue (vs.foldl addToSum Sum48.zero) = vs.sum
      ∧ (sumValue (vs.foldl addToSum Sum48.zero)).natAbs ≤ 2 ^ 38
      ∧ -64 ≤ (vs.foldl addToSum Sum48.zero).ext.toInt ∧ (vs.foldl addToSum Sum48.zero).ext.toInt ≤ 63 := by
  have hzero : sumValue Sum48.zero = 0 := rfl
  have hvalue : sumValue (vs.foldl addToSum Sum48.zero) = vs.sum := by
    rw [sumValue_foldl_addToSum hv (by omega), hzero, Int.zero_add]
  obtain ⟨hlow, hhigh⟩ := sum_bounds_of_natAbs_lt hv
  rw [ext_toInt_eq_sumValue_div, hvalue]
  exact ⟨rfl, by omega, by omega, by omega⟩

/-! ## The mean's dividend (R139) -/

theorem startAxisList_places_mean {a : Axis} {c : ChainRecord} (hstep : axisGet c.steps a = .waiting)
    (hn : axisGet c.n a ≠ 0) (rest : List ChainRecord) :
    startAxisList a (c :: rest)
      = ({ c with steps := axisSet c.steps a .mean } :: rest,
          some (.divide (sumValue (axisGet c.sums a)) (axisGet c.n a))) := by
  simp [startAxisList, hstep, hn]

/-! ## O43 -/

/-- Settles O43: the two parts of `addToSum` by the carry, the sum of 128 values by induction on the list, and the dividend by the
request that starts a chain. -/
theorem axisSumExact : Obligations.AxisSumExact := by
  unfold Obligations.AxisSumExact
  refine ⟨fun low ext => sumValue_eq ⟨low, ext⟩, fun w v _ => ⟨addToSum_low w v, addToSum_ext_of_carry, addToSum_ext_of_borrow,
    addToSum_ext_of_within⟩, fun vs hlen hv => ?sum, fun a c rest hstep hn => ?dividend⟩
  case sum =>
    have hword : ∀ v ∈ vs, v.natAbs < 2 ^ 31 := fun v hmem => by have := hv v hmem; omega
    exact ⟨_, rfl, sum_of_128_values hlen hword⟩
  case dividend => rw [startAxisList_places_mean hstep hn]

end Sys2Proof.Machine
end

section
/-! PROOF. The ROOT of the DRU (R149, R153): what each bit of `isqrt` leaves of the radicand, the rounding to nearest, where
ROOT_COMPLETE puts the result, and from these the statement O47. -/

namespace Sys2Proof.Machine

/-! ## The integer square root by bits -/

/-- One bit settled halves the room above the bits found, and the square root stays within it. -/
theorem rootBit_bounds {x r k : Nat} (hlow : r * r ≤ x) (hhigh : x < (r + 2 ^ (k + 1)) * (r + 2 ^ (k + 1))) :
    rootBit x r k * rootBit x r k ≤ x ∧ x < (rootBit x r k + 2 ^ k) * (rootBit x r k + 2 ^ k) := by
  unfold rootBit
  split
  case isTrue hfits =>
    have htop : r + 2 ^ (k + 1) = r + 2 ^ k + 2 ^ k := by omega
    exact ⟨hfits, htop ▸ hhigh⟩
  case isFalse hexceeds => exact ⟨hlow, Nat.lt_of_not_le hexceeds⟩

theorem rootBits_bounds {x k r : Nat} (hlow : r * r ≤ x) (hhigh : x < (r + 2 ^ k) * (r + 2 ^ k)) :
    rootBits x k r * rootBits x k r ≤ x ∧ x < (rootBits x k r + 1) * (rootBits x k r + 1) := by
  induction k generalizing r with
  | zero => exact ⟨hlow, hhigh⟩
  | succ k ih =>
    obtain ⟨hlow', hhigh'⟩ := rootBit_bounds hlow hhigh
    exact ih hlow' hhigh'

/-- The 28 bits reach the square root of every 56-bit radicand. -/
theorem isqrt_eq_sqrt {x : Nat} (hx : x < 2 ^ 56) : isqrt x = x.sqrt := by
  obtain ⟨hlow, hhigh⟩ : isqrt x * isqrt x ≤ x ∧ x < (isqrt x + 1) * (isqrt x + 1) :=
    rootBits_bounds (k := 28) (r := 0) (by omega) (by omega)
  exact Nat.eq_sqrt.mpr ⟨hlow, hhigh⟩

/-! ## Rounding to nearest (R149) -/

theorem roundRoot_up {x : Nat} (hx : x < 2 ^ 56) (h : x.sqrt * x.sqrt + x.sqrt < x) : roundRoot x = x.sqrt + 1 := by
  rw [← isqrt_eq_sqrt hx] at h ⊢
  exact if_pos h

theorem roundRoot_down {x : Nat} (hx : x < 2 ^ 56) (h : x ≤ x.sqrt * x.sqrt + x.sqrt) : roundRoot x = x.sqrt := by
  rw [← isqrt_eq_sqrt hx] at h ⊢
  exact if_neg (Nat.not_lt.mpr h)

theorem roundRoot_le_sqrt_add_one {x : Nat} (hx : x < 2 ^ 56) : roundRoot x ≤ x.sqrt + 1 := by
  rcases Nat.lt_or_ge (x.sqrt * x.sqrt + x.sqrt) x with hup | hdown
  · exact (roundRoot_up hx hup).le
  · exact (roundRoot_down hx hdown).le.trans (Nat.le_succ _)

/-- The greatest radicand of three axes within 100,000,000 pT has the root 173,205,080.76. -/
theorem roundRoot_le_of_axes_limit {x : Nat} (hx : x ≤ 3 * 10 ^ 16) : roundRoot x ≤ 173205081 := by
  have hsqrt : x.sqrt < 173205081 := Nat.sqrt_lt.mpr (by omega)
  have hround : roundRoot x ≤ x.sqrt + 1 := roundRoot_le_sqrt_add_one (by omega)
  omega

/-! ## The result reaches its entry (R143, R153) -/

theorem beginNext_of_queue_nil {d : DRU} (h : d.queue = []) : beginNext d = { d with current := none } := by
  simp [beginNext, h]

theorem placeRoot_of_all_present {s : State} (h : ∀ e ∈ s.mdm.list, e.magnitude ≠ none) : placeRoot s = s := by
  have hnone : s.mdm.list.find? (fun e => e.magnitude.isNone) = none :=
    List.find?_eq_none.mpr fun e he => by simp [h e he]
  unfold placeRoot
  split
  · rfl
  · rw [hnone]

/-- R153: an entry without an early F keeps the |B| it gets and stays; the next ROOT is placed in turn. -/
theorem deliverRoot_of_waiting {s : State} {e : PendingEntry} (v : Int) (hroot : s.mdm.root = some e.sequence)
    (hfind : s.mdm.list.find? (fun x => x.sequence == e.sequence) = some e) (hearly : e.earlyF = none) :
    deliverRoot v s = placeRoot (s.setMdm { s.mdm with
      root := none
      list := s.mdm.list.map (fun x => if x.sequence = e.sequence then { x with magnitude := some v } else x) }) := by
  simp [deliverRoot, hroot, hfind, hearly, State.setMdm]

theorem deliverRoot_of_only_entry {s : State} {e : PendingEntry} (v : Int) (hlist : s.mdm.list = [e])
    (hroot : s.mdm.root = some e.sequence) (hearly : e.earlyF = none) :
    deliverRoot v s = s.setMdm { s.mdm with root := none, list := [{ e with magnitude := some v }] } := by
  rw [deliverRoot_of_waiting v hroot (by simp [hlist]) hearly, placeRoot_of_all_present (by simp [hlist])]
  simp [hlist]

theorem exec_rootComplete {s : State} {c : Client} {x left : Nat} (hon : s.powered = true)
    (hcurrent : s.dru.current = some ⟨⟨c, .root x⟩, left⟩) :
    exec .rootComplete s = .next (deliverRoot (roundRoot x) (s.setDru (beginNext s.dru))) := by
  have hends : rootEnds s = deliverRoot (roundRoot x) (s.setDru (beginNext s.dru)) := by simp [rootEnds, hcurrent]
  calc exec .rootComplete s = .next (whenOn s rootEnds) := rfl
    _ = .next (deliverRoot (roundRoot x) (s.setDru (beginNext s.dru))) := by rw [whenOn_on hon, hends]

/-! ## O47 -/

/-- Settles O47: `n` is the integer square root, which the 28 bits reach; the delivery is that of a list of one entry, after
which no |B| is absent and no further ROOT is placed. -/
theorem rootIsNearest : Obligations.RootIsNearest := by
  unfold Obligations.RootIsNearest
  refine ⟨fun x hx => ⟨x.sqrt, Nat.sqrt_le x, Nat.lt_succ_sqrt x, roundRoot_up hx, roundRoot_down hx,
    roundRoot_le_of_axes_limit⟩, ?delivery⟩
  case delivery =>
    intro s x left e hon hcurrent hqueue hlist hroot hearly
    rw [exec_rootComplete hon hcurrent, beginNext_of_queue_nil hqueue]
    exact congrArg Host.Outcome.next (deliverRoot_of_only_entry _ hlist hroot hearly)

end Sys2Proof.Machine
end

section
/-! PROOF. The second ring under the steps: a record rewritten in place keeps its key, its counts and its FINAL mark, and a record
joins the ring only with the sequence after the newest (R178). -/

namespace Sys2Proof.Machine

/-! ## Records rewritten in place -/

/-- What a write into a held record never changes: its sequence, its second, its sample counts, and FINAL once set. -/
structure Rewritten (r u : SecondRecord) : Prop where
  sequence : u.sequence = r.sequence
  epoch : u.epoch = r.epoch
  second : u.second = r.second
  counts : ∀ a, (axisGet u.axes a).n = (axisGet r.axes a).n
  final : r.final = true → u.final = true

theorem Rewritten.refl (r : SecondRecord) : Rewritten r r := ⟨rfl, rfl, rfl, fun _ => rfl, id⟩

theorem Rewritten.trans {r u v : SecondRecord} (h : Rewritten r u) (k : Rewritten u v) : Rewritten r v :=
  ⟨k.sequence.trans h.sequence, k.epoch.trans h.epoch, k.second.trans h.second, fun a => (k.counts a).trans (h.counts a),
    k.final ∘ h.final⟩

/-- The same records in the same places, each rewritten at most. -/
def SameRecords (xs ys : List SecondRecord) : Prop :=
  List.Forall₂ Rewritten xs ys

theorem SameRecords.refl (xs : List SecondRecord) : SameRecords xs xs :=
  List.forall₂_same.mpr fun r _ => Rewritten.refl r

theorem SameRecords.trans {xs ys zs : List SecondRecord} (h : SameRecords xs ys) (k : SameRecords ys zs) :
    SameRecords xs zs := by
  unfold SameRecords at *
  induction h generalizing zs with
  | nil => exact k
  | cons hr _ ih =>
    cases k with
    | cons kr kt => exact .cons (hr.trans kr) (ih kt)

theorem sameRecords_map {f : SecondRecord → SecondRecord} (h : ∀ r, Rewritten r (f r)) (xs : List SecondRecord) :
    SameRecords xs (xs.map f) := by
  induction xs with
  | nil => exact .nil
  | cons x xs ih => exact .cons (h x) ih

theorem SameRecords.map_eq {α : Type} {g : SecondRecord → α} (hg : ∀ r u, Rewritten r u → g u = g r)
    {xs ys : List SecondRecord} (h : SameRecords xs ys) : ys.map g = xs.map g := by
  unfold SameRecords at h
  induction h with
  | nil => rfl
  | cons hr _ ih => simp [hg _ _ hr, ih]

theorem SameRecords.sequences {xs ys : List SecondRecord} (h : SameRecords xs ys) :
    ys.map SecondRecord.sequence = xs.map SecondRecord.sequence :=
  h.map_eq fun _ _ hr => hr.sequence

/-- The epochs and second numbers of the held records. -/
def recordKeys (xs : List SecondRecord) : List (Epoch × Second) :=
  xs.map (fun r => (r.epoch, r.second))

theorem SameRecords.keys {xs ys : List SecondRecord} (h : SameRecords xs ys) : recordKeys ys = recordKeys xs :=
  h.map_eq fun _ _ hr => by rw [hr.epoch, hr.second]

theorem SameRecords.length {xs ys : List SecondRecord} (h : SameRecords xs ys) : ys.length = xs.length :=
  (List.Forall₂.length_eq h).symm

theorem SameRecords.mem {xs ys : List SecondRecord} (h : SameRecords xs ys) {u : SecondRecord} (hu : u ∈ ys) :
    ∃ r ∈ xs, Rewritten r u := by
  unfold SameRecords at h
  induction h with
  | nil => cases hu
  | cons hr _ ih =>
    rcases List.mem_cons.mp hu with rfl | hu
    · exact ⟨_, List.mem_cons_self, hr⟩
    · obtain ⟨r, hm, h'⟩ := ih hu
      exact ⟨r, List.mem_cons_of_mem _ hm, h'⟩

theorem ringHolds_iff (epoch : Epoch) (second : Second) (rs : RS) :
    ringHolds epoch second rs = true ↔ (epoch, second) ∈ recordKeys rs.seconds := by
  simp [ringHolds, recordKeys]

/-! ## A record joins the ring -/

/-- R178: a record joins the newest end, and the oldest leaves a full ring. -/
def pushRecord (r : SecondRecord) (xs : List SecondRecord) : List SecondRecord :=
  (if 1024 ≤ xs.length then xs.drop 1 else xs) ++ [r]

@[simp] theorem appendRecord_seconds (r : SecondRecord) (rs : RS) :
    (appendRecord r rs).seconds = pushRecord r rs.seconds := rfl

/-- The sequence of the record that joins next (R178). -/
def nextOf (xs : List SecondRecord) : Sequence :=
  nextSequence (xs.getLast?.map SecondRecord.sequence)

theorem nextSequence_newestSecond (rs : RS) : nextSequence (newestSecond rs) = nextOf rs.seconds := rfl

theorem SameRecords.nextOf {xs ys : List SecondRecord} (h : SameRecords xs ys) : nextOf ys = nextOf xs := by
  unfold Machine.nextOf
  rw [← List.getLast?_map, ← List.getLast?_map, h.sequences]

theorem pushRecord_length_le {xs : List SecondRecord} (r : SecondRecord) (h : xs.length ≤ 1024) :
    (pushRecord r xs).length ≤ 1024 := by
  unfold pushRecord
  split
  · simp
    omega
  · simp
    omega

theorem SameRecords.push {xs ys : List SecondRecord} (h : SameRecords xs ys) (r : SecondRecord) :
    SameRecords (pushRecord r xs) (pushRecord r ys) := by
  unfold pushRecord
  rw [h.length]
  split
  · exact List.rel_append (List.forall₂_drop 1 h) (SameRecords.refl [r])
  · exact List.rel_append h (SameRecords.refl [r])

/-- The sequences of a ring are a run (R178). -/
def ConsecutiveRecords (xs : List SecondRecord) : Prop :=
  (xs.map SecondRecord.sequence).IsChain (fun a b => b = a + 1)

theorem isChain_concat_next {α : Type} {g : α → Sequence} {xs : List α} {x : α}
    (h : (xs.map g).IsChain (fun a b => b = a + 1)) (hx : g x = nextSequence (xs.getLast?.map g)) :
    ((xs ++ [x]).map g).IsChain (fun a b => b = a + 1) := by
  rw [List.map_append, List.isChain_append]
  refine ⟨h, by simp, ?_⟩
  intro a ha b hb
  rw [List.getLast?_map] at ha
  have hlast : xs.getLast?.map g = some a := ha
  rw [hlast] at hx
  simp only [List.map_cons, List.map_nil, List.head?_cons, Option.mem_some_iff] at hb
  rw [← hb, hx]
  rfl

theorem isChain_drop_concat_next {α : Type} {g : α → Sequence} {xs : List α} {x : α} {cap : Nat} (hcap : 2 ≤ cap)
    (h : (xs.map g).IsChain (fun a b => b = a + 1)) (hx : g x = nextSequence (xs.getLast?.map g)) :
    (((if cap ≤ xs.length then xs.drop 1 else xs) ++ [x]).map g).IsChain (fun a b => b = a + 1) := by
  split
  next hfull =>
    refine isChain_concat_next ?_ ?_
    · rw [List.map_drop]
      exact h.drop 1
    · rw [hx, List.getLast?_drop, if_neg (by omega)]
  next => exact isChain_concat_next h hx

theorem consecutive_push {xs : List SecondRecord} {r : SecondRecord} (h : ConsecutiveRecords xs)
    (hr : r.sequence = nextOf xs) : ConsecutiveRecords (pushRecord r xs) :=
  isChain_drop_concat_next (by decide) h hr

/-- A ring after writes and at most `n` records that joined it, each with the next sequence. -/
inductive Adds : Nat → List SecondRecord → List SecondRecord → Prop where
  | same {n : Nat} {xs ys : List SecondRecord} : SameRecords xs ys → Adds n xs ys
  | next {n : Nat} {xs ys : List SecondRecord} (r : SecondRecord) : r.sequence = nextOf xs →
      Adds n (pushRecord r xs) ys → Adds (n + 1) xs ys

theorem Adds.mono {n m : Nat} {xs ys : List SecondRecord} (h : Adds n xs ys) (hm : n ≤ m) : Adds m xs ys := by
  induction h generalizing m with
  | same hs => exact .same hs
  | next r hr _ ih =>
    obtain ⟨k, rfl⟩ : ∃ k, m = k + 1 := ⟨m - 1, by omega⟩
    exact .next r hr (ih (by omega))

theorem Adds.of_same {n : Nat} {xs ys zs : List SecondRecord} (h : SameRecords xs ys) (k : Adds n ys zs) : Adds n xs zs := by
  induction k generalizing xs with
  | same hs => exact .same (h.trans hs)
  | next r hr _ ih => exact .next r (hr.trans h.nextOf) (ih (h.push r))

theorem Adds.trans {n m : Nat} {xs ys zs : List SecondRecord} (h : Adds n xs ys) (k : Adds m ys zs) :
    Adds (n + m) xs zs := by
  induction h with
  | same hs => exact (Adds.of_same hs k).mono (by omega)
  | next r hr _ ih =>
    rw [Nat.add_right_comm]
    exact .next r hr (ih k)

theorem Adds.sameRecords {xs ys : List SecondRecord} (h : Adds 0 xs ys) : SameRecords xs ys := by
  cases h with
  | same hs => exact hs

theorem Adds.length_le {n : Nat} {xs ys : List SecondRecord} (h : Adds n xs ys) (hx : xs.length ≤ 1024) :
    ys.length ≤ 1024 := by
  induction h with
  | same hs => rwa [hs.length]
  | next r _ _ ih => exact ih (pushRecord_length_le r hx)

theorem Adds.consecutive {n : Nat} {xs ys : List SecondRecord} (h : Adds n xs ys) (hx : ConsecutiveRecords xs) :
    ConsecutiveRecords ys := by
  induction h with
  | same hs =>
    unfold ConsecutiveRecords
    rwa [hs.sequences]
  | next r hr _ ih => exact ih (consecutive_push hx hr)

end Sys2Proof.Machine
end

section
/-! PROOF. What an operation of the node keeps: one relation `Move`, closed under composition, that every shared operation and
every command keeps, and one rule for each block an operation writes. -/

namespace Sys2Proof.Machine

/-! ## What is kept of the state -/

/-- The minute ring is a run of sequences (R181). -/
def ConsecutiveMinutes (s : State) : Prop :=
  (s.rs.minutes.map MinuteRecord.sequence).IsChain (fun a b => b = a + 1)

/-- What an operation that lets at most `n` records join the second ring keeps, apart from the second that is open. -/
structure Core (n : Nat) (s t : State) : Prop where
  capacity : WithinCapacity s → WithinCapacity t
  position : PeersInPosition s → PeersInPosition t
  clock : ClockInRange s → ClockInRange t
  ordered : PeersOrdered s → PeersOrdered t
  slots : OneSlotSends s → OneSlotSends t
  settings : SettingsInRange s → SettingsInRange t
  counters : CountersFit s → CountersFit t
  image : s.sul.image.InRange → t.sul.image.InRange
  minutes : ConsecutiveMinutes s → ConsecutiveMinutes t
  samples : SamplesCounted s → SamplesCounted t
  adds : Adds n s.rs.seconds t.rs.seconds

/-- What an operation keeps, the open second among it. -/
structure Move (n : Nat) (s t : State) : Prop extends Core n s t where
  distinct : RecordsDistinct s → RecordsDistinct t

theorem Core.trans {n m : Nat} {s t u : State} (h : Core n s t) (k : Core m t u) : Core (n + m) s u where
  capacity := k.capacity ∘ h.capacity
  position := k.position ∘ h.position
  clock := k.clock ∘ h.clock
  ordered := k.ordered ∘ h.ordered
  slots := k.slots ∘ h.slots
  settings := k.settings ∘ h.settings
  counters := k.counters ∘ h.counters
  image := k.image ∘ h.image
  minutes := k.minutes ∘ h.minutes
  samples := k.samples ∘ h.samples
  adds := h.adds.trans k.adds

theorem Move.trans {n m : Nat} {s t u : State} (h : Move n s t) (k : Move m t u) : Move (n + m) s u where
  toCore := h.toCore.trans k.toCore
  distinct := k.distinct ∘ h.distinct

theorem Move.refl (s : State) : Move 0 s s where
  capacity := id
  position := id
  clock := id
  ordered := id
  slots := id
  settings := id
  counters := id
  image := id
  minutes := id
  samples := id
  adds := .same (.refl _)
  distinct := id

theorem Move.mono {n m : Nat} {s t : State} (h : Move n s t) (hm : n ≤ m) : Move m s t :=
  { h with adds := h.adds.mono hm }

/-- An operation that may add a record is followed by one that adds none. -/
theorem Move.andThen {n : Nat} {s t u : State} (h : Move n s t) (k : Move 0 t u) : Move n s u :=
  h.trans k

/-- An operation that adds no record is followed by one that may add some. -/
theorem Move.before {n : Nat} {s t u : State} (h : Move 0 s t) (k : Move n t u) : Move n s u :=
  (Nat.zero_add n) ▸ h.trans k

theorem Core.andThen {n : Nat} {s t u : State} (h : Core n s t) (k : Core 0 t u) : Core n s u :=
  h.trans k

theorem Core.before {n : Nat} {s t u : State} (h : Core 0 s t) (k : Core n t u) : Core n s u :=
  (Nat.zero_add n) ▸ h.trans k

theorem Move.foldl {α : Type} {f : State → α → State} (h : ∀ s a, Move 0 s (f s a)) (l : List α) (s : State) :
    Move 0 s (l.foldl f s) := by
  induction l generalizing s with
  | nil => exact .refl s
  | cons a l ih => exact (h s a).trans (ih (f s a))

/-! ## The parts that no invariant speaks of -/

theorem Move.pins (s : State) (v : Pins) : Move 0 s (s.setPins v) := { Move.refl s with }
theorem Move.draws (s : State) (v : Nat) : Move 0 s (s.setDraws v) := { Move.refl s with }
theorem Move.notices (s : State) (v : List MarkNotice) : Move 0 s (s.setNotices v) := { Move.refl s with }
theorem Move.instants (s : State) (v : List InstantNotice) : Move 0 s (s.setInstants v) := { Move.refl s with }
theorem Move.pending (s : State) (v : List Instr) : Move 0 s (s.setPending v) := { Move.refl s with }

/-! ## The Record Store -/

/-- What a write into RS keeps. -/
structure RsMove (r q : RS) : Prop where
  seconds : SameRecords r.seconds q.seconds
  minutes : (r.minutes.map MinuteRecord.sequence).IsChain (fun a b => b = a + 1) →
    (q.minutes.map MinuteRecord.sequence).IsChain (fun a b => b = a + 1)
  minutesFit : r.minutes.length ≤ 512 → q.minutes.length ≤ 512
  eventsFit : r.events.length ≤ 8 → q.events.length ≤ 8
  buildFits : r.buildList.length ≤ 16 → q.buildList.length ≤ 16
  eventsLost : r.eventsLost ≤ 65535 → q.eventsLost ≤ 65535
  minuteLost : r.minuteLost ≤ 65535 → q.minuteLost ≤ 65535

theorem RsMove.refl (r : RS) : RsMove r r := ⟨.refl _, id, id, id, id, id, id⟩

theorem SameRecords.distinct {s t : State} (h : SameRecords s.rs.seconds t.rs.seconds) (hre : t.re = s.re)
    (hs : RecordsDistinct s) : RecordsDistinct t := by
  have hkeys := h.keys
  unfold recordKeys at hkeys
  unfold RecordsDistinct at *
  rwa [hkeys, hre]

theorem SameRecords.counts_le {xs ys : List SecondRecord} (h : SameRecords xs ys)
    (hx : ∀ r ∈ xs, ∀ a, (axisGet r.axes a).n ≤ 128) : ∀ u ∈ ys, ∀ a, (axisGet u.axes a).n ≤ 128 := by
  intro u hu a
  obtain ⟨r, hr, hru⟩ := h.mem hu
  rw [hru.counts]
  exact hx r hr a

theorem Move.rs {s : State} {q : RS} (h : RsMove s.rs q) : Move 0 s (s.setRs q) :=
  { Move.refl s with
    capacity := by
      rintro ⟨hring, hsec, hmin, hev, hbuild, hchain, hlist⟩
      exact ⟨hring, h.seconds.length.trans_le hsec, h.minutesFit hmin, h.eventsFit hev, h.buildFits hbuild, hchain, hlist⟩
    counters := by
      rintro ⟨hline, hclock, hfront, h1, h2, h3, h4, h5, h6, h7, h8, h9, h10, hlost, hmlost, hclamp⟩
      exact ⟨hline, hclock, hfront, h1, h2, h3, h4, h5, h6, h7, h8, h9, h10, h.eventsLost hlost, h.minuteLost hmlost, hclamp⟩
    minutes := h.minutes
    samples := fun ⟨htaken, hsum, hrec⟩ => ⟨htaken, hsum, h.seconds.counts_le hrec⟩
    adds := .same h.seconds
    distinct := h.seconds.distinct rfl }

/-! ## The Line Controller -/

/-- No frame of the node's own id or of id 0 stands in the ring or with the dispatcher (R13, R14). -/
def SourcesForeign (own : StationId) (l : LC) : Prop :=
  (∀ e ∈ l.ring, e.source ≠ 0 ∧ e.source ≠ own) ∧ ∀ e, l.dispatcher = some e → e.source ≠ 0 ∧ e.source ≠ own

/-- The counters of Figure 13 within 16 bits. -/
def LcCounters (l : LC) : Prop :=
  l.badFrame ≤ 65535 ∧ l.ringOverrun ≤ 65535 ∧ l.queryOverrun ≤ 65535 ∧ l.queryExpired ≤ 65535
    ∧ l.staleAnnouncement ≤ 65535 ∧ l.abandoned ≤ 65535

/-- What a write into LC keeps on a node of id `own`. -/
structure LcMove (own : StationId) (l m : LC) : Prop where
  ringFits : l.ring.length ≤ 8 → m.ring.length ≤ 8
  sources : SourcesForeign own l → SourcesForeign own m
  slots : isSending l.slotA = false ∨ isSending l.slotB = false → isSending m.slotA = false ∨ isSending m.slotB = false
  counters : LcCounters l → LcCounters m

theorem LcMove.refl (own : StationId) (l : LC) : LcMove own l l := ⟨id, id, id, id⟩

theorem LcMove.trans {own : StationId} {l m k : LC} (h : LcMove own l m) (g : LcMove own m k) : LcMove own l k :=
  ⟨g.ringFits ∘ h.ringFits, g.sources ∘ h.sources, g.slots ∘ h.slots, g.counters ∘ h.counters⟩

theorem Move.lc {s : State} {m : LC} (h : LcMove s.sul.stationId s.lc m) : Move 0 s (s.setLc m) :=
  { Move.refl s with
    capacity := fun ⟨hring, hrest⟩ => ⟨h.ringFits hring, hrest⟩
    position := fun ⟨hord, hids, hring, hdisp⟩ => ⟨hord, hids, h.sources ⟨hring, hdisp⟩⟩
    slots := h.slots
    counters := fun ⟨hline, hrest⟩ => ⟨h.counters hline, hrest⟩ }

/-! ## The clock blocks -/

/-- TB's quantities in range (R24 to R26). -/
def TbInRange (t : TB) : Prop :=
  t.tick < 10000000 ∧ t.trim.natAbs ≤ 50000 ∧ (∀ x ∈ t.slew, x.natAbs ≤ 250000) ∧ t.rate.natAbs ≤ 300000
    ∧ t.remainder.natAbs ≤ 50

/-- What a write into TB keeps. -/
structure TbMove (t u : TB) : Prop where
  clock : TbInRange t → TbInRange u
  extraEdge : t.extraEdge ≤ 65535 → u.extraEdge ≤ 65535
  labelReject : t.labelReject ≤ 65535 → u.labelReject ≤ 65535

theorem TbMove.refl (t : TB) : TbMove t t := ⟨id, id, id⟩

theorem TbMove.trans {t u v : TB} (h : TbMove t u) (k : TbMove u v) : TbMove t v :=
  ⟨k.clock ∘ h.clock, k.extraEdge ∘ h.extraEdge, k.labelReject ∘ h.labelReject⟩

theorem Move.tb {s : State} {u : TB} (h : TbMove s.tb u) : Move 0 s (s.setTb u) :=
  { Move.refl s with
    clock := fun ⟨htick, htrim, hslew, hrate, hrem, hf⟩ => by
      obtain ⟨htick, htrim, hslew, hrate, hrem⟩ := h.clock ⟨htick, htrim, hslew, hrate, hrem⟩
      exact ⟨htick, htrim, hslew, hrate, hrem, hf⟩
    counters := fun ⟨hline, ⟨hextra, hreject, hclock⟩, hrest⟩ =>
      ⟨hline, ⟨h.extraEdge hextra, h.labelReject hreject, hclock⟩, hrest⟩ }

/-- What a write into DU keeps. -/
structure DuMove (d e : DU) : Prop where
  filter : d.f.natAbs ≤ 999999 → e.f.natAbs ≤ 999999
  steps : d.steps ≤ 65535 → e.steps ≤ 65535
  relabels : d.relabels ≤ 65535 → e.relabels ≤ 65535
  outliers : d.outliers ≤ 65535 → e.outliers ≤ 65535

theorem DuMove.trans {d e k : DU} (h : DuMove d e) (g : DuMove e k) : DuMove d k :=
  ⟨g.filter ∘ h.filter, g.steps ∘ h.steps, g.relabels ∘ h.relabels, g.outliers ∘ h.outliers⟩

theorem DuMove.refl (d : DU) : DuMove d d := ⟨id, id, id, id⟩

theorem Move.du {s : State} {e : DU} (h : DuMove s.du e) : Move 0 s (s.setDu e) :=
  { Move.refl s with
    clock := fun ⟨htick, htrim, hslew, hrate, hrem, hf⟩ => ⟨htick, htrim, hslew, hrate, hrem, h.filter hf⟩
    counters := fun ⟨hline, ⟨h1, h2, h3, hsteps, hrelabels, houtliers, hmissed⟩, hrest⟩ =>
      ⟨hline, ⟨h1, h2, h3, h.steps hsteps, h.relabels hrelabels, h.outliers houtliers, hmissed⟩, hrest⟩ }

/-- The Peer Table's entries in ascending order of id (R41). -/
def EntriesOrdered (p : PT) : Prop :=
  (p.entries.map (fun e => e.id.toNat)).Pairwise (· < ·)

/-- What a write into PT keeps; the ids of its entries are those of `ids`. -/
structure PtMove (ids : StationId → Prop) (p q : PT) : Prop where
  ordered : EntriesOrdered p → EntriesOrdered q
  members : ∀ e ∈ q.entries, ids e.id ∨ ∃ d ∈ p.entries, d.id = e.id
  reject : p.reject ≤ 65535 → q.reject ≤ 65535
  missed : (∀ e ∈ p.entries, e.missed ≤ 65535) → ∀ e ∈ q.entries, e.missed ≤ 65535

/-- PT is written and the dispatcher is freed: an id that is new to the table is the source of the frame the dispatcher held. -/
theorem Move.ptLc {s : State} {q : PT} {m : LC} (hl : LcMove s.sul.stationId s.lc m)
    (h : PtMove (fun id => ∃ e, s.lc.dispatcher = some e ∧ id = e.source) s.pt q) : Move 0 s ((s.setPt q).setLc m) :=
  { Move.refl s with
    capacity := (Move.lc hl).capacity
    position := by
      rintro ⟨hord, hids, hring, hdisp⟩
      refine ⟨h.ordered hord, fun e he => ?_, hl.sources ⟨hring, hdisp⟩⟩
      rcases h.members e he with ⟨d, hd, hid⟩ | ⟨d, hd, hid⟩
      · rw [hid]
        exact hdisp d hd
      · rw [← hid]
        exact hids d hd
    ordered := h.ordered
    slots := hl.slots
    counters := fun ⟨hline, ⟨h1, h2, hreject, h4, h5, h6, hmissed⟩, hrest⟩ =>
      ⟨hl.counters hline, ⟨h1, h2, h.reject hreject, h4, h5, h6, h.missed hmissed⟩, hrest⟩ }

theorem Move.pt {s : State} {q : PT} (h : PtMove (fun _ => False) s.pt q) : Move 0 s (s.setPt q) :=
  Move.ptLc (m := s.lc) (.refl _ _) { h with members := fun e he => .inr ((h.members e he).resolve_left id) }

/-! ## The front ends -/

/-- Every setting in its range (R76). -/
def SettingsFit (st : Axes Settings) : Prop :=
  ∀ a : Axis, -32 ≤ (axisGet st a).coarse ∧ (axisGet st a).coarse ≤ 31 ∧ -128 ≤ (axisGet st a).fine ∧ (axisGet st a).fine ≤ 127

/-- What a write into the VFE keeps. -/
structure VfeMove (v w : VFE) : Prop where
  settings : SettingsFit v.settings → SettingsFit w.settings
  faults : v.faults ≤ 65535 → w.faults ≤ 65535
  retunes : v.retunes ≤ 65535 → w.retunes ≤ 65535
  clipped : v.clipped ≤ 65535 → w.clipped ≤ 65535
  bandInhibit : v.bandInhibit ≤ 65535 → w.bandInhibit ≤ 65535

theorem VfeMove.refl (v : VFE) : VfeMove v v := ⟨id, id, id, id, id⟩

theorem VfeMove.trans {v w x : VFE} (h : VfeMove v w) (k : VfeMove w x) : VfeMove v x :=
  ⟨k.settings ∘ h.settings, k.faults ∘ h.faults, k.retunes ∘ h.retunes, k.clipped ∘ h.clipped, k.bandInhibit ∘ h.bandInhibit⟩

theorem Move.vfe {s : State} {w : VFE} (h : VfeMove s.vfe w) : Move 0 s (s.setVfe w) :=
  { Move.refl s with
    settings := h.settings
    counters := fun ⟨hline, hclock, ⟨h1, h2, h3, h4, hfront⟩, hrest⟩ =>
      ⟨hline, hclock, ⟨h.faults h1, h.retunes h2, h.clipped h3, h.bandInhibit h4, hfront⟩, hrest⟩ }

/-- What a write into SCN keeps. -/
structure ScnMove (c d : SCN) : Prop where
  fCount : c.fCount ≤ 65535 → d.fCount ≤ 65535
  absent : c.absent ≤ 65535 → d.absent ≤ 65535
  faults : c.faults ≤ 65535 → d.faults ≤ 65535

theorem ScnMove.refl (c : SCN) : ScnMove c c := ⟨id, id, id⟩

theorem Move.scn {s : State} {d : SCN} (h : ScnMove s.scn d) : Move 0 s (s.setScn d) :=
  { Move.refl s with
    counters := fun ⟨hline, hclock, ⟨h1, h2, h3, h4, hf, habsent, hfaults, htu⟩, hrest⟩ =>
      ⟨hline, hclock, ⟨h1, h2, h3, h4, h.fCount hf, h.absent habsent, h.faults hfaults, htu⟩, hrest⟩ }

/-- What a channel's handling keeps. -/
structure ChannelMove (c d : TempChannel) : Prop where
  faulted : c.faultedReadings ≤ 65535 → d.faultedReadings ≤ 65535
  clamped : c.clampedReadings ≤ 65535 → d.clampedReadings ≤ 65535

theorem ChannelMove.refl (c : TempChannel) : ChannelMove c c := ⟨id, id⟩

theorem Move.tu {s : State} {u : TU} (hs : ChannelMove s.tu.sensor u.sensor) (hp : ChannelMove s.tu.pier u.pier) :
    Move 0 s (s.setTu u) :=
  { Move.refl s with
    counters := fun ⟨hline, hclock, ⟨h1, h2, h3, h4, h5, h6, h7, h8, h9, h10, h11⟩, hrest⟩ =>
      ⟨hline, hclock, ⟨h1, h2, h3, h4, h5, h6, h7, hs.faulted h8, hs.clamped h9, hp.faulted h10, hp.clamped h11⟩, hrest⟩ }

/-! ## The record path -/

/-- The samples of the current second, an instant at most once each (R129). -/
def SecondCounted (re : RE) : Prop :=
  re.taken.Nodup
    ∧ ∀ a : Axis, axisGet re.n a + axisGet re.clipped a + axisGet re.blanked a = re.taken.length

/-- What a write into RE keeps while its second stands. -/
structure ReMove (r q : RE) : Prop where
  isOpen : q.isOpen = r.isOpen
  second : q.second = r.second
  epoch : q.epoch = r.epoch
  samples : SecondCounted r → SecondCounted q
  chainFits : r.chain.length ≤ 12 → q.chain.length ≤ 12
  rangeClamp : r.rangeClamp ≤ 65535 → q.rangeClamp ≤ 65535
  chainOverflow : r.chainOverflow ≤ 65535 → q.chainOverflow ≤ 65535

theorem Move.re {s : State} {q : RE} (h : ReMove s.re q) : Move 0 s (s.setRe q) :=
  { Move.refl s with
    capacity := fun ⟨h1, h2, h3, h4, h5, hchain, h7⟩ => ⟨h1, h2, h3, h4, h5, h.chainFits hchain, h7⟩
    counters := fun ⟨hline, hclock, hfront, hrange, hover, hrest⟩ =>
      ⟨hline, hclock, hfront, h.rangeClamp hrange, h.chainOverflow hover, hrest⟩
    samples := fun ⟨htaken, hsum, hrec⟩ => by
      obtain ⟨htaken, hsum⟩ := h.samples ⟨htaken, hsum⟩
      exact ⟨htaken, hsum, hrec⟩
    distinct := fun ⟨hnodup, hopen⟩ => by
      refine ⟨hnodup, ?_⟩
      rw [State.setRe_re, h.isOpen, h.second, h.epoch]
      exact hopen }

theorem Move.dru {s : State} {d : DRU} (h : s.dru.divideFault ≤ 65535 → d.divideFault ≤ 65535) : Move 0 s (s.setDru d) :=
  { Move.refl s with
    counters := fun ⟨hline, hclock, hfront, h1, h2, hfault, hrest⟩ => ⟨hline, hclock, hfront, h1, h2, h hfault, hrest⟩ }

/-- What a write into MDM keeps. -/
structure MdmMove (m k : MDM) : Prop where
  listFits : m.list.length ≤ 12 → k.list.length ≤ 12
  matched : m.matched ≤ 65535 → k.matched ≤ 65535
  expired : m.expired ≤ 65535 → k.expired ≤ 65535
  displaced : m.displaced ≤ 65535 → k.displaced ≤ 65535
  unmatched : m.unmatched ≤ 65535 → k.unmatched ≤ 65535
  rejected : m.rejected ≤ 65535 → k.rejected ≤ 65535

theorem Move.mdm {s : State} {k : MDM} (h : MdmMove s.mdm k) : Move 0 s (s.setMdm k) :=
  { Move.refl s with
    capacity := fun ⟨h1, h2, h3, h4, h5, h6, hlist⟩ => ⟨h1, h2, h3, h4, h5, h6, h.listFits hlist⟩
    counters := fun ⟨hline, hclock, hfront, h1, h2, h3, hm, he, hd, hu, hr, hrest⟩ =>
      ⟨hline, hclock, hfront, h1, h2, h3, h.matched hm, h.expired he, h.displaced hd, h.unmatched hu, h.rejected hr, hrest⟩ }

theorem Move.bw {s : State} {b : BW} (hx : s.bw.excluded ≤ 65535 → b.excluded ≤ 65535)
    (hr : s.bw.reseeds ≤ 65535 → b.reseeds ≤ 65535) : Move 0 s (s.setBw b) :=
  { Move.refl s with
    counters := fun ⟨hline, hclock, hfront, h1, h2, h3, h4, h5, h6, h7, h8, hexcluded, hreseeds, hrest⟩ =>
      ⟨hline, hclock, hfront, h1, h2, h3, h4, h5, h6, h7, h8, hx hexcluded, hr hreseeds, hrest⟩ }

/-- The Start-Up Loader is written with the station id it holds. -/
theorem Move.sul {s : State} {u : SUL} (hid : u.stationId = s.sul.stationId) (him : s.sul.image.InRange → u.image.InRange)
    (hc : s.sul.clampCount ≤ 65535 → u.clampCount ≤ 65535) : Move 0 s (s.setSul u) :=
  { Move.refl s with
    position := fun ⟨hord, hids, hring, hdisp⟩ => by
      refine ⟨hord, ?_, ?_, ?_⟩
      · rwa [State.setSul_sul, hid]
      · rwa [State.setSul_sul, hid]
      · rwa [State.setSul_sul, hid]
    image := him
    counters := fun ⟨hline, hclock, hfront, h1, h2, h3, h4, h5, h6, h7, h8, h9, h10, h11, h12, hclamp⟩ =>
      ⟨hline, hclock, hfront, h1, h2, h3, h4, h5, h6, h7, h8, h9, h10, h11, h12, hc hclamp⟩ }

/-! ## Counters -/

theorem bump_le {c : Nat} : bump c ≤ 65535 := by
  unfold bump satInc
  split <;> omega

theorem addSat_le {c k : Nat} : addSat c k ≤ 65535 := by
  unfold addSat
  split <;> omega

end Sys2Proof.Machine
end

section
/-! PROOF. The operations of the event list, the minute builder, the watch, the matcher and the axis chains as moves: each keeps every
invariant and adds no record to the second ring. -/

namespace Sys2Proof.Machine

/-! ## Events and the DRU -/

theorem raiseRs_move (k : EventKind) (q : Second) (r : RS) : RsMove r (raiseRs k q r) := by
  unfold raiseRs
  split
  · exact { RsMove.refl r with eventsFit := fun h => by simp; omega, eventsLost := fun _ => bump_le }
  · exact { RsMove.refl r with eventsFit := fun h => by simp; omega }

theorem raiseEvent_move (k : EventKind) (q : Second) (s : State) : Move 0 s (raiseEvent k q s) := by
  unfold raiseEvent
  split
  · exact .rs (raiseRs_move k q s.rs)
  · exact .refl s

theorem raiseOpt_move (k : Option EventKind) (q : Second) (s : State) : Move 0 s (raiseOpt k q s) := by
  cases k with
  | none => exact .refl s
  | some k => exact raiseEvent_move k q s

theorem placeDru_divideFault (r : Request) (d : DRU) : (placeDru r d).divideFault = d.divideFault := by
  unfold placeDru
  split <;> rfl

theorem place_move (c : Client) (op : Operation) (s : State) : Move 0 s (place c op s) :=
  .dru fun h => (placeDru_divideFault ..).trans_le h

/-! ## The minute builder -/

theorem enterMinute_move (b : MinuteBody) (r : RS) : RsMove r (enterMinute b r) :=
  { RsMove.refl r with
    minutes := fun h => isChain_drop_concat_next (by decide) h rfl
    minutesFit := fun h => by
      unfold enterMinute
      dsimp only
      split <;> simp <;> omega
    buildFits := fun h => by simp [enterMinute]; omega }

theorem setBuild_move (r : RS) (b : Option MinuteBuild) : RsMove r { r with build := b } := { RsMove.refl r with }

theorem placeMinute_move (d : MinuteDivision) (s : State) : Move 0 s (placeMinute d s) := place_move ..

theorem testHeads_move (n : Nat) (s : State) : Move 0 s (testHeads n s) := by
  induction n generalizing s with
  | zero => exact .refl s
  | succ n ih =>
    unfold testHeads
    dsimp only
    split
    · exact .refl s
    · split
      · exact .refl s
      · split
        · split
          · exact (Move.rs (enterMinute_move _ _)).trans (ih _)
          · exact (Move.rs (setBuild_move _ _)).trans (placeMinute_move ..)
        · exact .refl s

theorem testHead_move (s : State) : Move 0 s (testHead s) := testHeads_move ..

theorem startMinuteRs_move (m : Minute) (r : RS) : RsMove r (startMinuteRs m r) := by
  unfold startMinuteRs
  split
  · exact { RsMove.refl r with buildFits := fun h => by simp; omega, minuteLost := fun _ => bump_le }
  · exact { RsMove.refl r with buildFits := fun h => by simp; omega }

theorem takeMinuteKey_move (key : Minute) (s : State) : Move 0 s (takeMinuteKey key s) := by
  unfold takeMinuteKey
  split
  · exact .rs { RsMove.refl s.rs with }
  · split
    · exact .refl s
    next m _ _ =>
      refine (Move.rs ?_).trans (testHead_move _)
      exact { startMinuteRs_move m s.rs with }

theorem deliverMinute_move (v : Option Int) (s : State) : Move 0 s (deliverMinute v s) := by
  unfold deliverMinute
  split
  · refine (Move.rs ?_).trans (testHead_move _)
    exact { RsMove.refl s.rs with }
  · split
    · exact .refl s
    · split
      · exact .refl s
      · dsimp only
        split
        · exact (Move.rs (enterMinute_move _ _)).trans (testHead_move _)
        · exact (Move.rs (setBuild_move _ _)).trans (placeMinute_move ..)

/-! ## The watch -/

theorem moveStation_counters (im : Image) (n : Nat) (active passes : Bool) (b : BW) :
    (moveStation im n active passes b).1.excluded = b.excluded ∧ (moveStation im n active passes b).1.reseeds = b.reseeds := by
  unfold moveStation
  repeat' split
  all_goals exact ⟨rfl, rfl⟩

theorem watchRecord_move (fl : RecordFlags) (v : Axes (Option Int)) (q : Second) (s : State) :
    Move 0 s (watchRecord fl v q s) := by
  unfold watchRecord
  dsimp only
  split
  · exact .bw (fun _ => bump_le) id
  · split
    · refine (Move.bw ?_ ?_).trans (raiseOpt_move ..)
      · exact fun h => (moveStation_counters ..).1.trans_le h
      · exact fun h => (moveStation_counters ..).2.trans_le h
    · exact .bw id id

theorem makeReseed_move (s : State) : Move 0 s (makeReseed s) :=
  (Move.bw (b := reseedBw s.bw) id fun _ => bump_le).trans (raiseEvent_move ..)

theorem markBw_move (s : State) : Move 0 s (markBw s) := by
  unfold markBw
  split
  · dsimp only
    split
    · exact (Move.bw id id).trans (makeReseed_move _)
    · exact .bw id id
  · exact .refl s

theorem moveDeltaF_counters (limit df : Int) (b : BW) :
    (moveDeltaF limit df b).1.excluded = b.excluded ∧ (moveDeltaF limit df b).1.reseeds = b.reseeds := by
  unfold moveDeltaF
  dsimp only
  repeat' split
  all_goals exact ⟨rfl, rfl⟩

theorem watchDeltaF_move (d : Option Int) (q : Second) (s : State) : Move 0 s (watchDeltaF d q s) := by
  cases d with
  | none => exact .refl s
  | some d =>
    refine (Move.bw ?_ ?_).trans (raiseOpt_move ..)
    · exact fun h => (moveDeltaF_counters ..).1.trans_le h
    · exact fun h => (moveDeltaF_counters ..).2.trans_le h

/-! ## Writes into held records -/

theorem writeRecord_move (q : Sequence) {f : SecondRecord → SecondRecord} (hf : ∀ r, Rewritten r (f r)) (r : RS) :
    RsMove r (writeRecord q f r) :=
  { RsMove.refl r with
    seconds := sameRecords_map (fun r => by
      split
      · exact hf r
      · exact .refl r) _ }

theorem finalRecord_rewritten (mag f df : Option Int) (reason : DeltaFReason) (r : SecondRecord) :
    Rewritten r (finalRecord mag f df reason r) :=
  ⟨rfl, rfl, rfl, fun _ => rfl, fun _ => rfl⟩

theorem finalize_move (q : Sequence) (n : Second) (mag f df : Option Int) (reason : DeltaFReason) (s : State) :
    Move 0 s (finalize q n mag f df reason s) :=
  (Move.rs (writeRecord_move q (finalRecord_rewritten mag f df reason) _)).trans ((watchDeltaF_move ..).trans (testHead_move _))

theorem writeOwnF_move (f : FValue) (r : RS) : RsMove r (writeOwnF f r) :=
  { RsMove.refl r with
    seconds := sameRecords_map (fun r => by
      split
      · exact ⟨rfl, rfl, rfl, fun _ => rfl, id⟩
      · exact .refl r) _ }

theorem applyPendingF_move (ep : Epoch) (q : Second) (r : RS) : RsMove r (applyPendingF ep q r) := by
  unfold applyPendingF
  split
  · exact .refl r
  · split
    · exact { writeOwnF_move _ r with }
    · split
      · exact { RsMove.refl r with }
      · exact .refl r

theorem storeOwnF_move (f : FValue) (r : RS) : RsMove r (storeOwnF f r) := by
  unfold storeOwnF
  split
  · exact writeOwnF_move f r
  · split
    · exact { RsMove.refl r with }
    · split
      · exact { RsMove.refl r with }
      · exact .refl r

/-! ## The matcher -/

theorem finalizeAbsent_move (reason : DeltaFReason) (e : PendingEntry) (s : State) : Move 0 s (finalizeAbsent reason e s) :=
  finalize_move ..

theorem finalizeAll_move (reason : DeltaFReason) (es : List PendingEntry) (s : State) : Move 0 s (finalizeAll reason es s) :=
  Move.foldl (fun _ _ => finalizeAbsent_move ..) es s

theorem MdmMove.refl (m : MDM) : MdmMove m m := ⟨id, id, id, id, id, id⟩

theorem MdmMove.ofFilter (m : MDM) (p : PendingEntry → Bool) : MdmMove m { m with list := m.list.filter p } :=
  { MdmMove.refl m with listFits := fun h => (List.length_filter_le ..).trans h }

theorem placeRoot_move (s : State) : Move 0 s (placeRoot s) := by
  unfold placeRoot
  split
  · exact .refl s
  · split
    · exact .refl s
    · refine (Move.mdm ?_).trans (place_move ..)
      exact { MdmMove.refl s.mdm with }

theorem resolve_move (e : PendingEntry) (mag f : Int) (s : State) : Move 0 s (resolve e mag f s) := by
  refine (Move.mdm ?_).trans (finalize_move ..)
  exact { MdmMove.ofFilter s.mdm _ with matched := fun _ => bump_le }

theorem displaceOld_move (q : Sequence) (s : State) : Move 0 s (displaceOld q s) := by
  refine (Move.mdm ?_).trans (finalizeAll_move ..)
  exact { MdmMove.ofFilter s.mdm _ with displaced := fun _ => addSat_le }

theorem displaceOldest_move (s : State) : Move 0 s (displaceOldest s) := by
  unfold displaceOldest
  split
  · split
    · exact .refl s
    next hlist =>
      refine (Move.mdm ?_).trans (finalizeAbsent_move ..)
      exact { MdmMove.refl s.mdm with
        listFits := fun h => by rw [hlist] at h; exact Nat.le_of_succ_le h
        displaced := fun _ => bump_le }
  · exact .refl s

theorem displaceOldest_length {s : State} (h : s.mdm.list.length ≤ 12) : (displaceOldest s).mdm.list.length ≤ 11 := by
  unfold displaceOldest
  split
  · split
    next hlist => simp [hlist]
    next hlist =>
      rw [hlist] at h
      simpa [finalizeAbsent] using Nat.le_of_succ_le_succ h
  · omega

theorem takeHeld_list (e : PendingEntry) (m : MDM) : (takeHeld e m).2.list = m.list := by
  unfold takeHeld
  repeat' split
  all_goals rfl

theorem takeHeld_move (e : PendingEntry) (m : MDM) : MdmMove m (takeHeld e m).2 := by
  unfold takeHeld
  repeat' split
  all_goals exact { MdmMove.refl m with }

/-- MDM is written after other operations, with its list measured against the one before them. -/
theorem Move.thenMdm {s t : State} {k : MDM} (h : Move 0 s t) (hlist : s.mdm.list.length ≤ 12 → k.list.length ≤ 12)
    (hk : MdmMove t.mdm { k with list := [] }) : Move 0 s (t.setMdm k) :=
  { h.trans (.mdm hk) with
    capacity := fun hs => by
      obtain ⟨h1, h2, h3, h4, h5, h6, _⟩ := h.capacity hs
      obtain ⟨_, _, _, _, _, _, hs⟩ := hs
      exact ⟨h1, h2, h3, h4, h5, h6, hlist hs⟩ }

theorem addEntry_move (q : Sequence) (ep : Epoch) (n : Second) (x y z : Int) (s : State) :
    Move 0 s (addEntry q ep n x y z s) := by
  refine Move.trans (n := 0) (m := 0) (Move.thenMdm (displaceOldest_move s) ?list ?counters) (placeRoot_move _)
  case list =>
    intro h
    simpa [takeHeld_list] using Nat.lt_succ_of_le (displaceOldest_length h)
  case counters => exact { takeHeld_move _ _ with listFits := fun _ => Nat.zero_le _ }

theorem matchRecord_move (q : Sequence) (ep : Epoch) (n : Second) (v : Axes (Option Int)) (s : State) :
    Move 0 s (matchRecord q ep n v s) := by
  unfold matchRecord
  split
  · exact addEntry_move ..
  · exact finalize_move ..

theorem mapEntries_move (f : PendingEntry → PendingEntry) (s : State) :
    Move 0 s (s.setMdm { s.mdm with list := s.mdm.list.map f }) :=
  .mdm { MdmMove.refl s.mdm with listFits := fun h => (List.length_map f).trans_le h }

theorem deliverRoot_move (v : Int) (s : State) : Move 0 s (deliverRoot v s) := by
  have hroot : Move 0 s (s.setMdm { s.mdm with root := none }) := .mdm { MdmMove.refl s.mdm with }
  unfold deliverRoot
  dsimp only
  split
  · exact hroot.trans (placeRoot_move _)
  · split
    · exact hroot.trans ((mapEntries_move ..).trans ((resolve_move ..).trans (placeRoot_move _)))
    · exact hroot.trans ((mapEntries_move ..).trans (placeRoot_move _))

theorem reevaluateSource_move (s : State) : Move 0 s (reevaluateSource s) := by
  unfold reevaluateSource
  split
  · dsimp only
    split
    · exact .refl s
    · exact .mdm { MdmMove.refl s.mdm with }
  · exact .refl s

theorem resolveAll_move (f : Int) (es : List PendingEntry) (s : State) : Move 0 s (resolveAll f es s) :=
  Move.foldl (fun s e => by
    split
    · exact resolve_move ..
    · exact .refl s) es s

theorem matchF_move (f : Int) (n : Second) (s : State) : Move 0 s (matchF f n s) := by
  unfold matchF
  dsimp only
  split
  · split
    · exact .mdm { MdmMove.refl s.mdm with }
    · exact .mdm { MdmMove.refl s.mdm with unmatched := fun _ => bump_le }
  · exact (mapEntries_move ..).trans (resolveAll_move ..)

theorem takeF_move (f : Int) (n : Second) (s : State) : Move 0 s (takeF f n s) := by
  unfold takeF
  split
  · exact .mdm { MdmMove.refl s.mdm with rejected := fun _ => bump_le }
  · refine (Move.mdm ?_).trans (matchF_move ..)
    exact { MdmMove.refl s.mdm with }

theorem takeOwnF_move (f : Int) (n : Second) (s : State) : Move 0 s (takeOwnF f n s) := by
  unfold takeOwnF
  split
  · exact takeF_move ..
  · exact .refl s

theorem takePeerF_move (id : StationId) (f : Int) (n : Second) (s : State) : Move 0 s (takePeerF id f n s) := by
  unfold takePeerF
  split
  · exact takeF_move ..
  · exact .refl s

theorem expireEntries_move (s : State) : Move 0 s (expireEntries s) := by
  refine (Move.mdm ?_).trans (finalizeAll_move ..)
  exact { MdmMove.refl s.mdm with
    listFits := fun h => (List.length_filter_le ..).trans ((List.length_map _).trans_le h)
    expired := fun _ => addSat_le }

theorem markMdm_move (s : State) : Move 0 s (markMdm s) := by
  refine (reevaluateSource_move s).trans ((Move.mdm ?_).trans (expireEntries_move _))
  exact { MdmMove.refl _ with }

end Sys2Proof.Machine
end

section
/-! PROOF. The operations of the front ends, the Reduction Engine and the axis chains as moves. Only leaving an OPEN second lets a record
join the second ring, and the second that then opens is OPEN only where the ring holds no record of it (R128). -/

namespace Sys2Proof.Machine

/-! ## The start sequence and the retune -/

theorem loopOff_move (s : State) : Move 0 s (loopOff s) := by
  refine (Move.vfe ?_).trans (Move.pins _ _)
  exact { VfeMove.refl s.vfe with }

theorem enterLoopStart_move (s : State) : Move 0 s (enterLoopStart s) := .vfe { VfeMove.refl s.vfe with }

theorem settingsFit_zero : SettingsFit Settings.zero := by
  intro a
  cases a <;> decide

theorem enterDriveStart_move (s : State) : Move 0 s (enterDriveStart s) := by
  have hdrive := fun v (h : VfeMove (loopOff s).vfe v) => (loopOff_move s).trans (.vfe h)
  unfold enterDriveStart
  dsimp only
  split
  · refine (hdrive _ ?_).trans (enterLoopStart_move _)
    exact { VfeMove.refl (loopOff s).vfe with settings := fun _ => settingsFit_zero }
  · refine hdrive _ ?_
    exact { VfeMove.refl (loopOff s).vfe with settings := fun _ => settingsFit_zero }

theorem enterRunning_move (s : State) : Move 0 s (enterRunning s) := .vfe { VfeMove.refl s.vfe with }

theorem enterFaulted_move (c : FaultCause) (s : State) : Move 0 s (enterFaulted c s) := by
  refine (loopOff_move s).trans (Move.trans (n := 0) (m := 0) (Move.vfe ?_) (raiseEvent_move ..))
  exact { VfeMove.refl (loopOff s).vfe with faults := fun _ => bump_le }

theorem markVfe_move (s : State) : Move 0 s (markVfe s) := by
  unfold markVfe
  split
  · dsimp only
    split
    · refine Move.trans (n := 0) (m := 0) (.vfe ?_) (Move.trans (n := 0) (m := 0) (.vfe ?_) (enterDriveStart_move _))
      · exact { VfeMove.refl s.vfe with }
      · exact { VfeMove.refl _ with }
    · exact .vfe { VfeMove.refl s.vfe with }
  · exact .refl s

theorem clampInt_between {lo hi : Int} (h : lo ≤ hi) (v : Int) : lo ≤ clampInt lo hi v ∧ clampInt lo hi v ≤ hi := by
  rw [clampInt_eq_max_min h]
  omega

/-- R91: computed settings are within their ranges when the coarse setting kept is. -/
theorem retunedSettings_fit (im : Image) (a : Axis) {st : Settings} (rho : Int) (hlo : -32 ≤ st.coarse) (hhi : st.coarse ≤ 31) :
    -32 ≤ (retunedSettings im a st rho).coarse ∧ (retunedSettings im a st rho).coarse ≤ 31
      ∧ -128 ≤ (retunedSettings im a st rho).fine ∧ (retunedSettings im a st rho).fine ≤ 127 := by
  unfold retunedSettings
  dsimp only
  split
  next h => exact ⟨hlo, hhi, h.1, h.2⟩
  next => exact ⟨(clampInt_between (by decide) _).1, (clampInt_between (by decide) _).2,
      (clampInt_between (by decide) _).1, (clampInt_between (by decide) _).2⟩

@[simp] theorem axisGet_axesOf {α : Type} (f : Axis → α) (a : Axis) : axisGet (axesOf f) a = f a := by
  cases a <;> rfl

theorem settingsAfter_fit (im : Image) (v : VFE) (r : ResidualReport) (h : SettingsFit v.settings) :
    SettingsFit (axesOf (settingsAfter im v r)) := by
  intro a
  rw [axisGet_axesOf]
  unfold settingsAfter
  split
  · exact retunedSettings_fit im a _ (h a).1 (h a).2.1
  · exact h a

theorem ReMove.refl (r : RE) : ReMove r r := ⟨rfl, rfl, rfl, id, id, id, id⟩

theorem settingsNotice_move (st : Axes Settings) (r : RE) : ReMove r (settingsNotice st r) := by
  unfold settingsNotice
  split <;> exact { ReMove.refl r with }

theorem performRetune_move (im : Image) {v : VFE} (r : ResidualReport) {s : State} (hv : VfeMove s.vfe v) :
    Move 0 s (performRetune im v r s) := by
  refine Move.trans (n := 0) (m := 0) (.vfe ?_) (.re (settingsNotice_move ..))
  exact { hv with settings := fun h => settingsAfter_fit im v r (hv.settings h) }

theorem Move.ite {n : Nat} {s t u : State} {p : Prop} [Decidable p] (ht : Move n s t) (hu : Move n s u) :
    Move n s (if p then t else u) := by
  split
  · exact ht
  · exact hu

theorem evaluateReport_move (r : ResidualReport) (s : State) : Move 0 s (evaluateReport r s) := by
  unfold evaluateReport
  dsimp only
  split
  · exact .vfe { VfeMove.refl s.vfe with }
  · have hv : ∀ (b c : Axes Nat) (p : Bool), VfeMove s.vfe { s.vfe with
        bandRun := b, clipRun := c, bandInhibit := if p then bump s.vfe.bandInhibit else s.vfe.bandInhibit } := by
      intro b c p
      refine { VfeMove.refl s.vfe with bandInhibit := fun h => ?_ }
      cases p
      · exact h
      · exact bump_le
    exact .ite (performRetune_move _ _ (hv ..)) (.vfe (hv ..))
  · exact .refl s

/-! ## The chain list -/

theorem dueReports_length (cs : List ChainRecord) : (dueReports cs).1.length = cs.length := by
  induction cs with
  | nil => rfl
  | cons c cs ih =>
    unfold dueReports
    repeat' split
    all_goals simp [ih]

theorem setChain_move (s : State) {cs : List ChainRecord} (h : cs.length ≤ s.re.chain.length) :
    Move 0 s (s.setRe { s.re with chain := cs }) :=
  .re { ReMove.refl s.re with chainFits := h.trans }

theorem giveReports_move (s : State) : Move 0 s (giveReports s) :=
  (setChain_move s (dueReports_length _).le).trans (Move.foldl (fun _ _ => evaluateReport_move ..) _ _)

theorem chainsEndedNotice_move (c : ChainRecord) (s : State) : Move 0 s (chainsEndedNotice c s) := by
  refine Move.trans (n := 0) (m := 0) (.re ?_) ((matchRecord_move ..).trans (watchRecord_move ..))
  exact { ReMove.refl s.re with }

theorem endChains_move (s : State) : Move 0 s (endChains s) :=
  (setChain_move s (List.length_filter_le ..)).trans (Move.foldl (fun _ _ => chainsEndedNotice_move ..) _ _)

theorem startAxisList_length (a : Axis) (cs : List ChainRecord) : (startAxisList a cs).1.length = cs.length := by
  induction cs with
  | nil => rfl
  | cons c cs ih =>
    unfold startAxisList
    repeat' split
    all_goals simp [ih]

theorem startAxis_move (a : Axis) (s : State) : Move 0 s (startAxis a s) := by
  have hchain : Move 0 s (s.setRe { s.re with chain := (startAxisList a s.re.chain).1 }) :=
    setChain_move s (startAxisList_length ..).le
  unfold startAxis
  dsimp only
  split
  · exact hchain.trans (place_move ..)
  · exact hchain

theorem settleChains_move (s : State) : Move 0 s (settleChains s) :=
  (giveReports_move s).trans (endChains_move _)

theorem refusedNotice_move (c : Option ChainRecord) (s : State) : Move 0 s (refusedNotice c s) := by
  cases c with
  | none => exact .refl s
  | some c => exact (evaluateReport_move ..).trans (chainsEndedNotice_move ..)

theorem updateActive_length (a : Axis) (f : ChainRecord → ChainRecord) (cs : List ChainRecord) :
    (updateActive a f cs).length = cs.length := by
  induction cs with
  | nil => rfl
  | cons c cs ih =>
    unfold updateActive
    split <;> simp [ih]

theorem nextDivision_move (a : Axis) (st : ChainStep) (op : Operation) (s : State) : Move 0 s (nextDivision a st op s) :=
  (setChain_move s (updateActive_length ..).le).trans (place_move ..)

theorem axisGet_axisSet {α : Type} (v : Axes α) (a b : Axis) (w : α) :
    axisGet (axisSet v a w) b = if b = a then w else axisGet v b := by
  cases a <;> cases b <;> rfl

theorem setAxisValue_rewritten (a : Axis) (v : Option Int) (fl : SecondRecord → RecordFlags) (r : SecondRecord) :
    Rewritten r { r with axes := axisSet r.axes a { axisGet r.axes a with value := v }, flags := fl r } where
  sequence := rfl
  epoch := rfl
  second := rfl
  counts b := by
    dsimp only
    rw [axisGet_axisSet]
    split
    next h => rw [h]
    next => rfl
  final := id

theorem endWithValue_move (a : Axis) (q : Sequence) (v : Int) (s : State) : Move 0 s (endWithValue a q v s) := by
  refine Move.trans (n := 0) (m := 0) (.re ?_) (Move.trans (n := 0) (m := 0) (.rs ?_) (startAxis_move ..))
  · refine { ReMove.refl s.re with chainFits := (updateActive_length ..).trans_le, rangeClamp := fun h => ?_ }
    dsimp only
    split
    · exact bump_le
    · exact h
  · exact writeRecord_move q (setAxisValue_rewritten a _ _) _

theorem endWithout_move (a : Axis) (q : Sequence) (s : State) : Move 0 s (endWithout a q s) := by
  refine Move.trans (n := 0) (m := 0) (.re ?_) (Move.trans (n := 0) (m := 0) (.rs ?_) (startAxis_move ..))
  · exact { ReMove.refl s.re with chainFits := (updateActive_length ..).trans_le }
  · exact writeRecord_move q (setAxisValue_rewritten a _ _) _

theorem deliverAxis_move (a : Axis) (v : Option Int) (s : State) : Move 0 s (deliverAxis a v s) := by
  unfold deliverAxis
  split
  · exact .refl s
  · split
    · exact .refl s
    · exact .refl s
    · exact (endWithout_move ..).trans (settleChains_move _)
    · dsimp only
      split
      · exact (setChain_move s (updateActive_length ..).le).trans (m := 0) ((endWithValue_move ..).trans (settleChains_move _))
      · exact (setChain_move s (updateActive_length ..).le).trans (m := 0) ((nextDivision_move ..).trans (settleChains_move _))
    · split
      · exact .refl s
      · exact nextDivision_move ..
    · exact (endWithValue_move ..).trans (settleChains_move _)

/-! ## A second closes and another opens -/

theorem taken_length_le {k : List Instant} (h : k.Nodup) : k.length ≤ 128 := by
  have hsub : k.map BitVec.toNat ⊆ List.range 128 := fun n hn => by
    obtain ⟨i, -, rfl⟩ := List.mem_map.mp hn
    exact List.mem_range.mpr i.isLt
  have hnodup : (k.map BitVec.toNat).Nodup := h.map fun _ _ => BitVec.eq_of_toNat_eq
  simpa using (List.subperm_of_subset hnodup hsub).length_le

theorem SecondCounted.n_le {re : RE} (h : SecondCounted re) (a : Axis) : axisGet re.n a ≤ 128 := by
  have hle := taken_length_le h.1
  have hsum := h.2 a
  omega

theorem enterRecord_core {r : SecondRecord} {s : State} (hseq : r.sequence = nextOf s.rs.seconds)
    (hn : SamplesCounted s → ∀ a, (axisGet r.axes a).n ≤ 128) : Core 1 s (enterRecord r s) := by
  have happend : Core 1 s (s.setRs (appendRecord r s.rs)) :=
    { (Move.refl s).toCore with
      capacity := fun ⟨h1, hsec, hrest⟩ => ⟨h1, pushRecord_length_le r hsec, hrest⟩
      samples := fun hs => by
        have hnew := hn hs
        obtain ⟨htaken, hsum, hrec⟩ := hs
        refine ⟨htaken, hsum, fun u hu => ?_⟩
        rcases List.mem_append.mp hu with hu | hu
        · split at hu
          · exact hrec u (List.mem_of_mem_drop hu)
          · exact hrec u hu
        · rw [List.mem_singleton.mp hu]
          exact hnew
      adds := .next r hseq (.same (.refl _)) }
  exact happend.andThen
    ((displaceOld_move ..).trans ((Move.rs (applyPendingF_move ..)).trans (takeMinuteKey_move ..))).toCore

theorem enterRecord_same (r : SecondRecord) (s : State) :
    SameRecords (pushRecord r s.rs.seconds) (enterRecord r s).rs.seconds := by
  have hlater : Move 0 (s.setRs (appendRecord r s.rs)) (enterRecord r s) :=
    (displaceOld_move ..).trans ((Move.rs (applyPendingF_move ..)).trans (takeMinuteKey_move ..))
  exact hlater.adds.sameRecords

theorem recordKeys_push (r : SecondRecord) (xs : List SecondRecord) :
    recordKeys (pushRecord r xs) <:+ recordKeys xs ++ [(r.epoch, r.second)] := by
  unfold pushRecord recordKeys
  split
  · rw [List.map_append, List.map_drop]
    exact List.suffix_append_inj_of_length_eq (by rfl) |>.mpr ⟨List.drop_suffix .., rfl⟩
  · simp

/-- The record that joins is of a second the ring does not hold. -/
theorem nodup_push {r : SecondRecord} {xs : List SecondRecord} (h : (recordKeys xs).Nodup)
    (hr : (r.epoch, r.second) ∉ recordKeys xs) : (recordKeys (pushRecord r xs)).Nodup :=
  List.Nodup.sublist (recordKeys_push r xs).sublist (List.nodup_append_comm.mp (by simpa using ⟨hr, h⟩))

/-- What `leaveSecond` does to an OPEN second: its record, whatever its flags, joins the ring. -/
theorem closeSecond_eq (s : State) : ∃ (r : SecondRecord) (re : RE),
    (closeSecond s).1 = enterRecord r (s.setRe re) ∧ ReMove s.re re ∧ r.sequence = nextOf s.rs.seconds
      ∧ r.epoch = s.re.epoch ∧ r.second = s.re.second ∧ ∀ a, (axisGet r.axes a).n = axisGet re.n a := by
  unfold closeSecond
  dsimp only
  split
  · refine ⟨_, _, rfl, ?_, rfl, rfl, rfl, fun a => congrArg AxisField.n (axisGet_axesOf _ a)⟩
    exact { ReMove.refl s.re with chainOverflow := fun _ => bump_le }
  next hroom =>
    refine ⟨_, _, rfl, ?_, rfl, rfl, rfl, fun a => congrArg AxisField.n (axisGet_axesOf _ a)⟩
    exact { ReMove.refl s.re with chainFits := fun _ => by simp; omega }

theorem leaveSecond_core (s : State) : Core 1 s (leaveSecond s).1 := by
  unfold leaveSecond
  split
  · obtain ⟨r, re, heq, hre, hseq, -, -, hn⟩ := closeSecond_eq s
    rw [heq]
    refine (Move.re hre).toCore.before (enterRecord_core hseq fun hs a => ?_)
    obtain ⟨htaken, hsum, -⟩ := hs
    rw [hn]
    exact SecondCounted.n_le ⟨htaken, hsum⟩ a
  · exact (Move.refl s).mono (Nat.zero_le 1) |>.toCore

/-- The ring is free of repeats once the second has been left, whether it stands OPEN in RE or not. -/
theorem leaveSecond_nodup {s : State} (h : RecordsDistinct s) : (recordKeys (leaveSecond s).1.rs.seconds).Nodup := by
  obtain ⟨hnodup, hopen⟩ := h
  unfold leaveSecond
  split
  next hisOpen =>
    obtain ⟨r, re, heq, -, -, hepoch, hsecond, -⟩ := closeSecond_eq s
    rw [heq, (enterRecord_same ..).keys]
    refine nodup_push hnodup ?_
    rw [hepoch, hsecond]
    exact hopen hisOpen
  next => exact hnodup

/-- R128: a second opens OPEN only where the ring holds no record of it. -/
theorem openSecond_distinct {s : State} (q : Second) (ep : Epoch) (fl : StickyFlags) (h : (recordKeys s.rs.seconds).Nodup) :
    RecordsDistinct (openSecond q ep fl s) := by
  refine ⟨h, fun hopen => ?_⟩
  have hfree : ringHolds ep q s.rs = false := by simpa [openSecond] using hopen
  intro hmem
  rw [(ringHolds_iff ep q s.rs).mpr hmem] at hfree
  cases hfree

theorem secondCounted_fresh {re : RE} (ht : re.taken = []) (hn : re.n = ⟨0, 0, 0⟩) (hc : re.clipped = ⟨0, 0, 0⟩)
    (hb : re.blanked = ⟨0, 0, 0⟩) : SecondCounted re := by
  refine ⟨by simp [ht], fun a => ?_⟩
  rw [hn, hc, hb, ht]
  cases a <;> rfl

theorem openSecond_core (q : Second) (ep : Epoch) (fl : StickyFlags) (s : State) : Core 0 s (openSecond q ep fl s) :=
  { (Move.refl s).toCore with
    samples := fun ⟨_, _, hrec⟩ => by
      obtain ⟨htaken, hsum⟩ := secondCounted_fresh (re := (openSecond q ep fl s).re) rfl rfl rfl rfl
      exact ⟨htaken, hsum, hrec⟩ }

theorem leaveAndOpen_move (q : Second) (ep : Epoch) (fl : StickyFlags) (s : State) :
    Move 1 s (openSecond q ep fl (leaveSecond s).1) where
  toCore := (leaveSecond_core s).andThen (openSecond_core ..)
  distinct h := openSecond_distinct q ep fl (leaveSecond_nodup h)

theorem changeSecond_move (q : Second) (ep : Epoch) (fl : StickyFlags) (s : State) : Move 1 s (changeSecond q ep fl s) :=
  (leaveAndOpen_move ..).andThen
    ((refusedNotice_move ..).trans ((Move.foldl (fun _ _ => startAxis_move ..) _ _).trans (settleChains_move _)))

theorem Move.skip (s : State) : Move 1 s s := (Move.refl s).mono (Nat.zero_le 1)

theorem markAccumulation_move (q : Second) (ep : Epoch) (s : State) : Move 1 s (markAccumulation q ep s) := by
  unfold markAccumulation
  split
  · exact changeSecond_move ..
  · exact .skip s

theorem markRe_move (q : Second) (ep : Epoch) (s : State) : Move 1 s (markRe q ep s) := by
  refine (markAccumulation_move q ep s).andThen (.re ?_)
  exact { ReMove.refl _ with }

/-! ## Samples -/

/-- What one axis's part does to the counts of the current second: one of them goes up by one on that axis. -/
theorem takePart_counts (a : Axis) (p : Part) (re : RE) :
    (takePart a p re).taken = re.taken ∧ (takePart a p re).isOpen = re.isOpen ∧ (takePart a p re).second = re.second
      ∧ (takePart a p re).epoch = re.epoch ∧ (takePart a p re).chain = re.chain
      ∧ (takePart a p re).rangeClamp = re.rangeClamp ∧ (takePart a p re).chainOverflow = re.chainOverflow
      ∧ ∀ b, axisGet (takePart a p re).n b + axisGet (takePart a p re).clipped b + axisGet (takePart a p re).blanked b
          = axisGet re.n b + axisGet re.clipped b + axisGet re.blanked b + if b = a then 1 else 0 := by
  cases p <;> refine ⟨rfl, rfl, rfl, rfl, rfl, rfl, rfl, fun b => ?_⟩ <;> simp only [takePart, axisGet_axisSet] <;>
    split <;> simp_all <;> omega

theorem takeParts_move (k : Instant) (ps : Axes Part) (re : RE) : ReMove re (takeParts k ps re) := by
  unfold takeParts
  split
  · exact .refl re
  next hnew =>
    dsimp only
    obtain ⟨htx, hox, hsx, hex, hcx, hrx, hvx, hnx⟩ := takePart_counts .x ps.x { re with taken := re.taken ++ [k] }
    obtain ⟨hty, hoy, hsy, hey, hcy, hry, hvy, hny⟩ := takePart_counts .y ps.y (takePart .x ps.x { re with taken := re.taken ++ [k] })
    obtain ⟨htz, hoz, hsz, hez, hcz, hrz, hvz, hnz⟩ :=
      takePart_counts .z ps.z (takePart .y ps.y (takePart .x ps.x { re with taken := re.taken ++ [k] }))
    refine ⟨by rw [hoz, hoy, hox], by rw [hsz, hsy, hsx], by rw [hez, hey, hex], ?samples, by rw [hcz, hcy, hcx]; exact id,
      by rw [hrz, hry, hrx]; exact id, by rw [hvz, hvy, hvx]; exact id⟩
    rintro ⟨hnodup, hsum⟩
    refine ⟨?_, fun a => ?_⟩
    · rw [htz, hty, htx]
      have : k ∉ re.taken := by simpa using hnew
      simpa [List.nodup_append] using ⟨hnodup, fun x hx hk => this (hk ▸ hx)⟩
    · rw [hnz, hny, hnx, htz, hty, htx]
      have := hsum a
      cases a <;> simp <;> omega

theorem takeSample_move (n : InstantNotice) (ps : Axes Part) (s : State) : Move 1 s (takeSample n ps s) := by
  unfold takeSample
  dsimp only
  split
  · exact (markAccumulation_move ..).andThen (.re (takeParts_move ..))
  · exact markAccumulation_move ..

theorem stepNotice_move (q : Second) (s : State) : Move 1 s (stepNotice q s) := by
  have hstep : Move 0 s (s.setRe (setStep s.re)) := .re { ReMove.refl s.re with }
  unfold stepNotice
  dsimp only
  split
  · exact hstep.before (changeSecond_move ..)
  · exact hstep.mono (Nat.zero_le 1)

theorem relabelNotice_move (q : Second) (ep : Epoch) (s : State) : Move 1 s (relabelNotice q ep s) := by
  refine Move.before (.re ?_) (changeSecond_move ..)
  exact { ReMove.refl s.re with }

theorem noteClip_move (a : Axis) (r : BitVec 24) (v : VFE) : VfeMove v (noteClip a r v) := by
  unfold noteClip
  split
  · exact { VfeMove.refl v with clipped := fun _ => bump_le }
  · exact .refl v

theorem settleStep_move (v : VFE) : VfeMove v (settleStep v) := by
  unfold settleStep
  split
  · exact { VfeMove.refl v with retunes := fun _ => bump_le }
  · exact { VfeMove.refl v with }

theorem vfeInstant_move (n : InstantNotice) (r : Axes (BitVec 24)) (s : State) : Move 1 s (vfeInstant n r s) := by
  unfold vfeInstant
  split
  · exact Move.before (.vfe (((noteClip_move ..).trans (noteClip_move ..)).trans (noteClip_move ..))) (takeSample_move ..)
  · dsimp only
    split
    next hretuning =>
      have hsettle : Move 1 s ((takeSample n ⟨.blank, .blank, .blank⟩ s).setVfe
          (settleStep (takeSample n ⟨.blank, .blank, .blank⟩ s).vfe)) :=
        (takeSample_move ..).andThen (.vfe (settleStep_move _))
      split
      · exact hsettle.andThen (raiseEvent_move ..)
      · exact hsettle
    next => exact takeSample_move ..
  · exact .skip s

end Sys2Proof.Machine
end

section
/-! PROOF. The operations of the scalar and temperature front ends, of the Timebase, the Line Controller, the Peer Table and the Discipline
Unit as moves. -/

namespace Sys2Proof.Machine

/-! ## The scalar front end -/

theorem endCycle_move (r : ScnOutcome) (s : State) : Move 0 s (endCycle r s) :=
  .scn { ScnMove.refl s.scn with absent := fun _ => bump_le }

theorem polarizeFaults_move (s : State) : Move 0 s (polarizeFaults s) := by
  refine Move.trans (n := 0) (m := 0) (.scn ?_) (raiseEvent_move ..)
  exact { ScnMove.refl s.scn with absent := fun _ => bump_le, faults := fun _ => bump_le }

theorem enterPolarize_move (s : State) : Move 0 s (enterPolarize s) := by
  have hpolarize : Move 0 s (s.setScn (polarizeScn s.sul.image s.scn)) := .scn { ScnMove.refl s.scn with }
  exact .ite (hpolarize.trans (polarizeFaults_move _)) hpolarize

theorem markScn_move (q : Second) (s : State) : Move 0 s (markScn q s) := by
  unfold markScn
  split
  · split
    · exact enterPolarize_move s
    · exact enterPolarize_move s
    · exact .refl s
  · exact .refl s

theorem enterGate_move (s : State) : Move 0 s (enterGate s) := by
  have hgate : Move 0 s (s.setScn { s.scn with state := .gate, timer := some (s.sul.image.gateTime * 100000) }) :=
    .scn { ScnMove.refl s.scn with }
  exact .ite hgate (hgate.trans (endCycle_move ..))

theorem crossing_move (now : Stamp) (c : SCN) : ScnMove c (crossing now c) := by
  unfold crossing
  split <;> exact { ScnMove.refl c with }

theorem closeGate_move (s : State) : Move 0 s (closeGate s) := by
  refine .ite (endCycle_move ..) (.ite (endCycle_move ..) (Move.trans (n := 0) (m := 0) (.scn ?_) (place_move ..)))
  exact { ScnMove.refl s.scn with }

theorem deliverScalar_move (v : Option Int) (s : State) : Move 0 s (deliverScalar v s) := by
  unfold deliverScalar
  split
  · refine Move.trans (n := 0) (m := 0) (.scn ?_) ((takeOwnF_move ..).trans (Move.rs (storeOwnF_move ..)))
    exact { ScnMove.refl s.scn with fCount := fun _ => bump_le }
  · exact .scn { ScnMove.refl s.scn with }
  · exact .refl s

theorem abortCycle_move (s : State) : Move 0 s (abortCycle s) := by
  unfold abortCycle
  split
  · exact endCycle_move ..
  · exact endCycle_move ..
  · exact endCycle_move ..
  · exact .refl s

/-! ## The temperature front end -/

theorem faultedReading_move (c : TempChannel) : ChannelMove c (faultedReading c).1 := by
  unfold faultedReading
  dsimp only
  split <;> exact { ChannelMove.refl c with faulted := fun _ => bump_le }

theorem moveWatch_move (q : Nat) (hot cool v : Int) (c : TempChannel) : ChannelMove c (moveWatch q hot cool v c).1 := by
  unfold moveWatch
  repeat' split
  all_goals exact { ChannelMove.refl c with }

theorem goodReading_move (t : TempValue) (q : Second) (ep : Epoch) (c : TempChannel) : ChannelMove c (goodReading t q ep c) := by
  refine { ChannelMove.refl c with clamped := fun h => ?_ }
  unfold goodReading
  dsimp only
  split
  · exact h
  · exact bump_le

theorem channelAfter_move (im : Image) (ch : Channel) (code : BitVec 16) (q : Second) (ep : Epoch) (c : TempChannel) :
    ChannelMove c (channelAfter im ch code q ep c).1 := by
  unfold channelAfter
  split
  · exact { faultedReading_move { c with code := some code } with }
  · have hgood := goodReading_move (convertCode (channelGet im.slope ch) (channelGet im.intercept ch) code) q ep
      { c with code := some code }
    have hwatch := moveWatch_move (queueDepth (channelGet im.queueCode ch)) (channelGet im.hot ch) (channelGet im.cool ch)
      (convertCode (channelGet im.slope ch) (channelGet im.intercept ch) code).value
      (goodReading (convertCode (channelGet im.slope ch) (channelGet im.intercept ch) code) q ep { c with code := some code })
    exact ⟨hwatch.faulted ∘ hgood.faulted, hwatch.clamped ∘ hgood.clamped⟩

theorem handleCode_move (ch : Channel) (code : BitVec 16) (q : Second) (ep : Epoch) (s : State) :
    Move 0 s (handleCode ch code q ep s) := by
  have hafter := channelAfter_move s.sul.image ch code q ep (getChannel ch s.tu)
  refine Move.trans (n := 0) (m := 0) ?_ (raiseOpt_move ..)
  cases ch with
  | sensor => exact .tu hafter (.refl _)
  | pier => exact .tu (.refl _) hafter

theorem completeAcquisition_move (a b : BitVec 16) (s : State) : Move 0 s (completeAcquisition a b s) := by
  have hwait : Move 0 s (s.setTu { s.tu with state := .wait, timer := none, bias := false }) := .tu (.refl _) (.refl _)
  exact .ite (hwait.trans ((handleCode_move ..).trans (handleCode_move ..)))
    (hwait.trans ((handleCode_move ..).trans (handleCode_move ..)))

theorem markTu_move (q : Second) (s : State) : Move 0 s (markTu q s) :=
  .ite (.refl s) (.ite (.tu { ChannelMove.refl _ with } { ChannelMove.refl _ with })
    (.tu { ChannelMove.refl _ with } { ChannelMove.refl _ with }))

/-! ## The Timebase -/

/-- A rounded quotient of a value within a bound lies within the rounded quotient of the bound. -/
theorem roundDiv_natAbs (a : Int) (d : Nat) :
    (roundDiv a d).natAbs = if d ≤ 2 * (a.natAbs % d) then a.natAbs / d + 1 else a.natAbs / d := by
  unfold roundDiv
  generalize a.natAbs / d = q
  generalize a.natAbs % d = r
  dsimp only
  split <;> split <;> omega

theorem fixRate_range {t : TB} (htrim : t.trim.natAbs ≤ 50000) (hslew : ∀ x ∈ t.slew, x.natAbs ≤ 250000)
    (hrem : t.remainder.natAbs ≤ 50) : (fixRate t).rate.natAbs ≤ 300000 ∧ (fixRate t).remainder.natAbs ≤ 50 := by
  have hrate : (t.trim + t.slew.getD 0).natAbs ≤ 300000 := by
    cases hs : t.slew with
    | none => simp; omega
    | some x =>
      have := hslew x hs
      simp only [Option.getD_some]
      omega
  refine ⟨hrate, ?_⟩
  change (t.trim + t.slew.getD 0 + t.remainder - 100 * correctionCount (t.trim + t.slew.getD 0 + t.remainder)).natAbs ≤ 50
  generalize htotal : t.trim + t.slew.getD 0 + t.remainder = total
  have hle : total.natAbs ≤ 300050 := by omega
  unfold correctionCount
  rw [clampInt_eq_max_min (by decide)]
  unfold roundDiv
  dsimp only
  split <;> split <;> omega

theorem markTb_move (t : TB) : TbMove t (markTb t) :=
  { TbMove.refl t with
    clock := fun ⟨_, htrim, hslew, _, hrem⟩ => by
      obtain ⟨hrate, hremainder⟩ := fixRate_range htrim hslew hrem
      exact ⟨(by decide : 0 < 10000000), htrim, by simp [markTb, fixRate], hrate, hremainder⟩ }

theorem countTb_frame (t : TB) : (countTb t).trim = t.trim ∧ (countTb t).slew = t.slew ∧ (countTb t).rate = t.rate
    ∧ (countTb t).remainder = t.remainder ∧ (countTb t).extraEdge = t.extraEdge ∧ (countTb t).labelReject = t.labelReject := by
  unfold countTb
  dsimp only
  repeat' split
  all_goals exact ⟨rfl, rfl, rfl, rfl, rfl, rfl⟩

theorem countTb_move {t : TB} (h : (countTb t).tick < 10000000) : TbMove t (countTb t) := by
  obtain ⟨htrim, hslew, hrate, hrem, hextra, hreject⟩ := countTb_frame t
  exact ⟨fun ⟨_, h1, h2, h3, h4⟩ => ⟨h, htrim ▸ h1, hslew ▸ h2, hrate ▸ h3, hrem ▸ h4⟩, hextra.trans_le, hreject.trans_le⟩

theorem instantPassed_tick {before after : Nat} {k : Instant} (h : instantPassed before after = some k) : after < 10000000 := by
  unfold instantPassed at h
  dsimp only at h
  split at h
  · omega
  · cases h

theorem tbMark_move (s : State) : Move 0 s (tbMark s) :=
  (Move.tb (markTb_move s.tb)).trans ((Move.notices ..).trans (Move.instants ..))

theorem stepTb_tick {theta : Int} {t : TB} (htheta : theta.natAbs < 1000000000) (ht : t.tick < 10000000) :
    (stepTb theta t).tick < 10000000 := by
  have hticks : (ticksOf theta).natAbs ≤ 10000000 := by
    unfold ticksOf
    rw [roundDiv_natAbs]
    split <;> omega
  unfold stepTb
  dsimp only
  split
  · dsimp only
    omega
  · split
    · dsimp only
      omega
    · dsimp only
      omega

theorem relabelTb_tick (theta : Int) (t : TB) : (relabelTb theta t).tick < 10000000 := by
  have hmod : Int.fmod ((t.tick : Int) + ticksOf theta) 10000000 < 10000000 := Int.fmod_lt_of_pos _ (by decide)
  have hnonneg : 0 ≤ Int.fmod ((t.tick : Int) + ticksOf theta) 10000000 := Int.fmod_nonneg_of_pos _ (by decide)
  change (Int.fmod ((t.tick : Int) + ticksOf theta) 10000000).toNat < 10000000
  omega

theorem stepTb_frame (theta : Int) (t : TB) : (stepTb theta t).trim = t.trim ∧ (stepTb theta t).rate = t.rate
    ∧ (stepTb theta t).remainder = t.remainder ∧ (stepTb theta t).extraEdge = t.extraEdge
    ∧ (stepTb theta t).labelReject = t.labelReject := by
  unfold stepTb
  dsimp only
  repeat' split
  all_goals exact ⟨rfl, rfl, rfl, rfl, rfl⟩

/-- R36, R37: a move leaves the tick count in range; only a step of less than a second is ordered. -/
theorem movedTb_move {isRelabel : Bool} {theta : Int} (t : TB) (h : isRelabel = false → theta.natAbs < 1000000000) :
    TbMove t (movedTb isRelabel theta t) := by
  have hslew : ∀ x ∈ some (0 : Int), x.natAbs ≤ 250000 := fun x hx => by
    obtain rfl := Option.mem_some_iff.mp hx
    decide
  cases isRelabel with
  | true => exact { TbMove.refl t with clock := fun ⟨_, htrim, _, hrate, hrem⟩ => ⟨relabelTb_tick .., htrim, hslew, hrate, hrem⟩ }
  | false =>
    obtain ⟨htrim, hrate, hrem, hextra, hreject⟩ := stepTb_frame theta t
    exact ⟨fun ⟨htick, h1, _, h3, h4⟩ => ⟨stepTb_tick (h rfl) htick, htrim ▸ h1, hslew, hrate ▸ h3, hrem ▸ h4⟩,
      hextra.trans_le, hreject.trans_le⟩

/-! ## The time pulse -/

/-- A write into TB that stands aside of the clock. -/
structure PulseWrite (t u : TB) : Prop where
  tick : u.tick = t.tick
  trim : u.trim = t.trim
  slew : u.slew = t.slew
  rate : u.rate = t.rate
  remainder : u.remainder = t.remainder
  extraEdge : t.extraEdge ≤ 65535 → u.extraEdge ≤ 65535
  labelReject : t.labelReject ≤ 65535 → u.labelReject ≤ 65535

theorem PulseWrite.refl (t : TB) : PulseWrite t t := ⟨rfl, rfl, rfl, rfl, rfl, id, id⟩

theorem PulseWrite.trans {t u v : TB} (h : PulseWrite t u) (k : PulseWrite u v) : PulseWrite t v :=
  ⟨k.tick.trans h.tick, k.trim.trans h.trim, k.slew.trans h.slew, k.rate.trans h.rate, k.remainder.trans h.remainder,
    k.extraEdge ∘ h.extraEdge, k.labelReject ∘ h.labelReject⟩

theorem PulseWrite.move {t u : TB} (h : PulseWrite t u) : TbMove t u :=
  ⟨fun ⟨h1, h2, h3, h4, h5⟩ => ⟨h.tick ▸ h1, h.trim ▸ h2, h.slew ▸ h3, h.rate ▸ h4, h.remainder ▸ h5⟩, h.extraEdge, h.labelReject⟩

theorem cutLabel_write (t : TB) : PulseWrite t (cutLabel t) := by
  unfold cutLabel
  split
  · exact { PulseWrite.refl t with }
  · exact .refl t

theorem evaluateLabel_write (t : TB) : PulseWrite t (evaluateLabel t) := by
  unfold evaluateLabel
  split
  · exact .refl t
  · split
    · exact { PulseWrite.refl t with }
    · exact { PulseWrite.refl t with labelReject := fun _ => bump_le }

theorem acceptEdge_write (t : TB) : PulseWrite t (acceptEdge t) := by
  have h := (cutLabel_write { t with edge := some ⟨clockOf t, 0⟩, edgeWindow := some 9000000 }).trans (evaluateLabel_write _)
  exact { h with }

theorem extendLabel_write (os : List RxOctet) (t : TB) : PulseWrite t (extendLabel os t) := by
  unfold extendLabel
  split <;> exact { PulseWrite.refl t with }

theorem labelSymbol_write (t : TB) (l : Level) : PulseWrite t (labelSymbol t l) := by
  unfold labelSymbol
  dsimp only
  split
  · exact { extendLabel_write _ { t with labelPhase := (receiveSymbol l t.labelPhase).1 } with }
  · split
    · exact { extendLabel_write _ { t with labelPhase := (receiveSymbol l t.labelPhase).1 } with }
    · exact { PulseWrite.refl t with }

theorem labelLevels_write (ls : List Level) (t : TB) : PulseWrite t (labelLevels ls t) := by
  unfold labelLevels
  induction ls generalizing t with
  | nil => exact .refl t
  | cons l ls ih => exact (labelSymbol_write t l).trans (ih _)

theorem endLabelGap_write (t : TB) : PulseWrite t (endLabelGap t) := by
  unfold endLabelGap
  split
  · exact .refl t
  · exact { evaluateLabel_write t with }

theorem tickTb_write (t : TB) : PulseWrite t (tickTb t) := by
  unfold tickTb tickLabel
  dsimp only
  split <;> exact { PulseWrite.refl t with }

/-! ## The Line Controller -/

theorem contend_move (s : State) : Move 0 s (contend s) := by
  unfold contend
  split
  · refine (Move.lc ?_).trans (Move.draws ..)
    exact { LcMove.refl _ s.lc with }
  · exact .refl s

/-- A write into the slots that leaves the ring, the dispatcher and the counters. -/
theorem LcMove.ofSlots {own : StationId} {l m : LC} (hring : m.ring = l.ring) (hdisp : m.dispatcher = l.dispatcher)
    (hslots : isSending l.slotA = false ∨ isSending l.slotB = false → isSending m.slotA = false ∨ isSending m.slotB = false)
    (hcounters : LcCounters l → LcCounters m) : LcMove own l m where
  ringFits h := hring ▸ h
  sources h := by
    unfold SourcesForeign
    rwa [hring, hdisp]
  slots := hslots
  counters := hcounters

theorem setSlot_frame (n : SlotName) (v : Option Slot) (l : LC) :
    (setSlot n v l).ring = l.ring ∧ (setSlot n v l).dispatcher = l.dispatcher ∧ (LcCounters l → LcCounters (setSlot n v l)) := by
  cases n <;> exact ⟨rfl, rfl, id⟩

/-- A slot that sends nothing new. -/
theorem setSlot_move {own : StationId} {n : SlotName} {v : Option Slot} {l : LC}
    (h : isSending v = true → isSending (getSlot n l) = true) : LcMove own l (setSlot n v l) := by
  obtain ⟨hring, hdisp, hcount⟩ := setSlot_frame n v l
  refine .ofSlots hring hdisp ?_ hcount
  cases n with
  | a =>
    refine Or.imp_left fun ha => ?_
    rw [← Bool.not_eq_true]
    exact fun hv => by simp [getSlot, ha] at h; simp [setSlot, h] at hv
  | b =>
    refine Or.imp_right fun hb => ?_
    rw [← Bool.not_eq_true]
    exact fun hv => by simp [getSlot, hb] at h; simp [setSlot, h] at hv

theorem sendingSlot_none {l : LC} (h : sendingSlot l = none) : isSending l.slotA = false ∧ isSending l.slotB = false := by
  unfold sendingSlot at h
  split at h
  · cases h
  · split at h
    · cases h
    · simp_all

theorem promoteLc_move (own : StationId) (l : LC) : LcMove own l (promoteLc l) := by
  unfold promoteLc
  split
  next n rest hnone horder =>
    obtain ⟨ha, hb⟩ := sendingSlot_none hnone
    split
    next v _ =>
      dsimp only
      obtain ⟨hring, hdisp, hcount⟩ := setSlot_frame n (some { v with sending := true, expiry := none }) l
      refine .ofSlots hring hdisp (fun _ => ?_) hcount
      cases n with
      | a => exact .inr hb
      | b => exact .inl ha
    next => exact .refl own l
  next => exact .refl own l

theorem promote_move (s : State) : Move 0 s (promote s) :=
  (Move.lc (promoteLc_move ..)).trans (contend_move _)

theorem readyLc_move (own : StationId) (n : SlotName) (f : Frame) (e : Option Nat) (l : LC) : LcMove own l (readyLc n f e l) :=
  (setSlot_move (by simp [isSending])).trans { LcMove.refl own _ with }

theorem freeLc_move (own : StationId) (n : SlotName) (l : LC) : LcMove own l (freeLc n l) :=
  (setSlot_move (by simp [isSending])).trans { LcMove.refl own (setSlot n none l) with }

theorem freeSlot_move (n : SlotName) (s : State) : Move 0 s (freeSlot n s) := by
  have hfree : Move 0 s (s.setLc (freeLc n s.lc)) := .lc (freeLc_move ..)
  refine .ite (hfree.trans (Move.rs ?_)) hfree
  exact { RsMove.refl s.rs with }

theorem abandonSlot_move (n : SlotName) (s : State) : Move 0 s (abandonSlot n s) := by
  refine (freeSlot_move n s).trans (Move.lc ?_)
  exact { LcMove.refl _ _ with
    counters := fun ⟨h1, h2, h3, h4, h5, _⟩ => ⟨h1, h2, h3, h4, h5, bump_le⟩ }

theorem beginAttempt_move {n : SlotName} {v : Slot} {s : State} (hv : getSlot n s.lc = some v) :
    Move 0 s (beginAttempt n v s) := by
  unfold beginAttempt
  dsimp only
  split
  next a _ =>
    refine Move.trans (n := 0) (m := 0) (Move.lc ?_) (Move.rs ?_)
    · have hslot := setSlot_move (own := s.sul.stationId) (n := n) (l := s.lc)
        (v := some { v with frame := .announce (stampedAnnouncement (clockOf s.tb) s.rs.events a) })
        (fun h => by rw [hv]; exact h)
      cases n <;> exact { hslot with }
    · exact { RsMove.refl s.rs with }
  next => exact .lc { LcMove.refl _ s.lc with }

theorem placeAnnouncement_move (a : Announcement) (s : State) : Move 0 s (placeAnnouncement a s) := by
  have hstale : LcMove s.sul.stationId s.lc { s.lc with staleAnnouncement := bump s.lc.staleAnnouncement } :=
    { LcMove.refl _ s.lc with counters := fun ⟨h1, h2, h3, h4, _, h6⟩ => ⟨h1, h2, h3, h4, bump_le, h6⟩ }
  have hover : ∀ n, LcMove s.sul.stationId s.lc (overwriteLc n a s.lc) := by
    intro n
    unfold overwriteLc
    split
    next v hv =>
      refine hstale.trans (setSlot_move fun h => ?_)
      cases n with
      | a => exact (congrArg isSending hv).trans h
      | b => exact (congrArg isSending hv).trans h
    next => exact .refl _ _
  refine .ite (.lc (hover .a)) (.ite (.lc (hover .b)) ?_)
  split
  · exact (Move.lc (readyLc_move ..)).trans (promote_move _)
  · exact .lc hstale

theorem announceNow_move (s : State) : Move 0 s (announceNow s) := by
  have hmark : Move 0 s (s.setLc { s.lc with announced := s.tb.second :: s.lc.announced }) := .lc { LcMove.refl _ s.lc with }
  refine .ite (hmark.trans (Move.trans (n := 0) (m := 0) (Move.lc ?_) (placeAnnouncement_move ..))) hmark
  exact { LcMove.refl _ _ with }

theorem announceWhenDue_move (s : State) : Move 0 s (announceWhenDue s) :=
  .ite (announceNow_move s) (.refl s)

theorem preMoveLc_move (own : StationId) (l : LC) : LcMove own l (preMoveLc l) where
  ringFits h := (List.length_map _).trans_le h
  sources := by
    rintro ⟨hring, hdisp⟩
    refine ⟨fun e he => ?_, fun e he => ?_⟩
    · obtain ⟨d, hd, rfl⟩ := List.mem_map.mp he
      exact hring d hd
    · obtain ⟨d, hd, rfl⟩ := Option.map_eq_some_iff.mp he
      exact hdisp d hd
  slots := id
  counters := id

/-! ## Clock moves, samples and selection -/

theorem movedDu_move (isRelabel : Bool) (d : DU) : DuMove d (movedDu isRelabel d) := by
  have hzero : (0 : Int).natAbs ≤ 999999 := by decide
  cases isRelabel with
  | true => exact { DuMove.refl d with filter := fun _ => hzero, relabels := fun _ => bump_le }
  | false => exact { DuMove.refl d with filter := fun _ => hzero, steps := fun _ => bump_le }

theorem moveNotice_move (isRelabel : Bool) (s : State) : Move 1 s (moveNotice isRelabel s) :=
  .ite (relabelNotice_move ..) (stepNotice_move ..)

theorem clockMovePt_move (ids : StationId → Prop) (p : PT) : PtMove ids p (clockMovePt p) where
  ordered h := by
    unfold EntriesOrdered clockMovePt
    rw [List.map_map]
    exact h
  members e he := by
    obtain ⟨d, hd, rfl⟩ := List.mem_map.mp he
    exact .inr ⟨d, hd, rfl⟩
  reject := id
  missed h e he := by
    obtain ⟨d, hd, rfl⟩ := List.mem_map.mp he
    exact h d hd

theorem moveClock_move {isRelabel : Bool} {theta : Int} (s : State) (h : isRelabel = false → theta.natAbs < 1000000000) :
    Move 1 s (moveClock isRelabel theta s) := by
  have hclock := Move.tb (movedTb_move s.tb h)
  have hpeers : Move 0 s _ := hclock.trans (.pt (clockMovePt_move _ s.pt))
  have hline : Move 0 s _ := hpeers.trans (Move.lc (m := preMoveLc (if isRelabel then newEpochLc s.lc else s.lc)) (by
    cases isRelabel
    · exact preMoveLc_move _ _
    · exact { preMoveLc_move _ s.lc with }))
  refine Move.andThen (Move.before hline (.ite ?_ ?_)) ((abortCycle_move _).trans ((raiseEvent_move ..).trans (announceWhenDue_move _)))
  · exact (moveNotice_move ..).andThen (.du (movedDu_move ..))
  · exact Move.before (.du (movedDu_move ..)) (moveNotice_move ..)

theorem filterSample_move (b : Nat) {theta : Int} (s : State) (h : theta.natAbs ≤ 999999) :
    Move 0 s (filterSample b theta s) := by
  obtain ⟨hlo, hhi⟩ := filterSample_f_between b theta s
  have htrim := filterSample_trim b theta s
  have hf : s.du.f.natAbs ≤ 999999 → (filterSample b theta s).du.f.natAbs ≤ 999999 := by omega
  have hslew : s.du.f.natAbs ≤ 999999 → ∀ x ∈ (filterSample b theta s).tb.slew, x.natAbs ≤ 250000 := by
    intro hs x hx
    obtain rfl := Option.mem_some_iff.mp hx
    have := hf hs
    rw [filterSample_f] at this
    rw [roundDiv_natAbs]
    split <;> omega
  exact { Move.refl s with
    clock := fun ⟨htick, _, _, hrate, hrem, hs⟩ => ⟨htick, by omega, hslew hs, hrate, hrem, hf hs⟩ }

theorem countLock_move (theta : Int) (pt : PT) (d : DU) : DuMove d (countLock theta pt d) := by
  rw [countLock_frame]
  exact { DuMove.refl d with }

theorem sampleAcquire_move (theta : Int) (s : State) : Move 1 s (sampleAcquire theta s) := by
  unfold sampleAcquire
  split
  · exact moveClock_move s (fun h => by cases h)
  · split
    · exact moveClock_move s (fun _ => by omega)
    · exact ((filterSample_move 1 s (by omega)).trans (.du (countLock_move ..))).mono (Nat.zero_le 1)

theorem sampleLocked_move (theta : Int) (s : State) : Move 1 s (sampleLocked theta s) := by
  unfold sampleLocked
  split
  · exact moveClock_move s (fun h => by cases h)
  · split
    · have hcount : Move 0 s (s.setDu { s.du with outliers := bump s.du.outliers, outlierRun := s.du.outlierRun + 1 }) :=
        .du { DuMove.refl s.du with outliers := fun _ => bump_le }
      exact .ite (hcount.before (moveClock_move _ fun _ => by omega)) (hcount.mono (Nat.zero_le 1))
    · refine ((filterSample_move 3 s (by omega)).trans (Move.du ?_)).mono (Nat.zero_le 1)
      exact { DuMove.refl _ with }

theorem duSample_move (r : Reference) (theta : Int) (s : State) : Move 1 s (duSample r theta s) := by
  unfold duSample
  split
  · split
    · exact sampleAcquire_move ..
    · exact sampleLocked_move ..
    · exact .skip s
    · exact .skip s
  · exact .skip s

theorem slewZero_move (t : TB) : TbMove t { t with slew := some 0 } :=
  { TbMove.refl t with
    clock := fun ⟨htick, htrim, _, hrate, hrem⟩ => ⟨htick, htrim, fun x hx => by
      obtain rfl := Option.mem_some_iff.mp hx
      decide, hrate, hrem⟩ }

theorem loseDu_move (pt : PT) (d : DU) : DuMove d (loseDu pt d) := by
  unfold loseDu
  dsimp only
  split <;> exact { DuMove.refl d with filter := fun _ => (by decide : (0 : Int).natAbs ≤ 999999) }

theorem loseReference_move (s : State) : Move 0 s (loseReference s) :=
  (Move.du (loseDu_move ..)).trans (Move.tb (slewZero_move s.tb))

theorem selectSource_move (r : Reference) (q : Second) (s : State) : Move 0 s (selectSource r q s) := by
  have hselect : Move 0 s (s.setDu (selectDu r s.du)) :=
    .du { DuMove.refl s.du with filter := fun _ => (by decide : (0 : Int).natAbs ≤ 999999) }
  have hslew : Move 0 s ((s.setDu (selectDu r s.du)).setTb { s.tb with slew := some 0 }) :=
    hselect.trans (Move.tb (slewZero_move s.tb))
  exact hslew.trans (raiseEvent_move ..)

theorem evaluateSelection_move (q : Second) (s : State) : Move 0 s (evaluateSelection q s) := by
  have hstands : Move 0 s (if referenceStands s then s else loseReference s) := .ite (.refl s) (loseReference_move s)
  unfold evaluateSelection
  dsimp only
  split
  · exact hstands.trans (selectSource_move ..)
  · exact hstands

theorem ageHoldover_move (limit : Nat) (d : DU) : DuMove d (ageHoldover limit d) := by
  unfold ageHoldover
  repeat' split
  all_goals exact { DuMove.refl d with }

theorem fixAdvertisement_move (own : StationId) (pt : PT) (d : DU) : DuMove d (fixAdvertisement own pt d) := by
  unfold fixAdvertisement
  repeat' split
  all_goals exact { DuMove.refl d with }

theorem markDu_move (q : Second) (s : State) : Move 0 s (markDu q s) := by
  refine (Move.du (ageHoldover_move ..)).trans ((evaluateSelection_move q _).trans (Move.du ?_))
  exact { fixAdvertisement_move _ _ _ with }

end Sys2Proof.Machine
end

section
/-! PROOF. Announcements, answers, the restart and the notices as moves, every command as a move, and from these the statements on what
every step keeps: O54, O55, O56, O58 and O59. -/

namespace Sys2Proof.Machine

/-! ## Announcements -/

theorem putEntry_mem {e x : PeerEntry} {es : List PeerEntry} (h : x ∈ putEntry e es) : x = e ∨ x ∈ es := by
  induction es with
  | nil => simpa [putEntry] using h
  | cons y ys ih =>
    unfold putEntry at h
    split at h
    · rcases List.mem_cons.mp h with rfl | h
      · exact .inl rfl
      · exact .inr (List.mem_cons_of_mem _ h)
    · split at h
      · rcases List.mem_cons.mp h with rfl | h
        · exact .inl rfl
        · exact .inr h
      · rcases List.mem_cons.mp h with rfl | h
        · exact .inr List.mem_cons_self
        · exact (ih h).imp_right (List.mem_cons_of_mem _)

/-- An entry put at its place keeps the table in ascending order of id (R41). -/
theorem putEntry_ordered (e : PeerEntry) {es : List PeerEntry} (h : (es.map (fun e => e.id.toNat)).Pairwise (· < ·)) :
    ((putEntry e es).map (fun e => e.id.toNat)).Pairwise (· < ·) := by
  induction es with
  | nil => simp [putEntry]
  | cons x xs ih =>
    rw [List.map_cons, List.pairwise_cons] at h
    obtain ⟨hx, hxs⟩ := h
    unfold putEntry
    split
    next heq =>
      rw [List.map_cons, List.pairwise_cons, heq]
      exact ⟨hx, hxs⟩
    next hne =>
      split
      next hlt =>
        rw [List.map_cons, List.pairwise_cons, List.map_cons, List.pairwise_cons]
        refine ⟨fun n hn => ?_, hx, hxs⟩
        rcases List.mem_cons.mp hn with rfl | hn
        · exact hlt
        · exact hlt.trans (hx n hn)
      next hge =>
        rw [List.map_cons, List.pairwise_cons]
        refine ⟨fun n hn => ?_, ih hxs⟩
        obtain ⟨y, hy, rfl⟩ := List.mem_map.mp hn
        rcases putEntry_mem hy with rfl | hy
        · exact lt_of_le_of_ne (Nat.not_lt.mp hge) fun hid => hne (BitVec.eq_of_toNat_eq hid.symm)
        · exact hx _ (List.mem_map_of_mem hy)

theorem putEntry_move {ids : StationId → Prop} {e : PeerEntry} {p : PT} (hid : ids e.id ∨ ∃ d ∈ p.entries, d.id = e.id)
    (hmissed : (∀ d ∈ p.entries, d.missed ≤ 65535) → e.missed ≤ 65535) :
    PtMove ids p { p with entries := putEntry e p.entries } where
  ordered := putEntry_ordered e
  members x hx := by
    rcases putEntry_mem hx with rfl | hx
    · exact hid
    · exact .inr ⟨x, hx, rfl⟩
  reject := id
  missed h x hx := by
    rcases putEntry_mem hx with rfl | hx
    · exact hmissed h
    · exact h x hx

@[simp] theorem updateOffset_id (theta : Option Int) (e : PeerEntry) : (updateOffset theta e).id = e.id := by
  unfold updateOffset
  repeat' split
  all_goals rfl

@[simp] theorem updateOffset_missed (theta : Option Int) (e : PeerEntry) : (updateOffset theta e).missed = e.missed := by
  unfold updateOffset
  repeat' split
  all_goals rfl

@[simp] theorem settledEntry_id (theta : Option Int) (e : PeerEntry) : (settledEntry theta e).id = e.id := by
  simp [settledEntry]

@[simp] theorem settledEntry_missed (theta : Option Int) (e : PeerEntry) : (settledEntry theta e).missed = e.missed := by
  simp [settledEntry]

@[simp] theorem accountSequence_id (q : BitVec 8) (e : PeerEntry) : (accountSequence q e).id = e.id := by
  unfold accountSequence
  dsimp only
  repeat' split
  all_goals rfl

theorem accountSequence_missed {q : BitVec 8} {e : PeerEntry} (h : e.missed ≤ 65535) : (accountSequence q e).missed ≤ 65535 := by
  unfold accountSequence
  dsimp only
  repeat' split
  · exact addSat_le
  · exact h
  · exact addSat_le
  · exact h
  · exact addSat_le

@[simp] theorem refreshedEntry_id (h : Heard) (arrival : Stamp) (e : PeerEntry) : (refreshedEntry h arrival e).id = e.id := by
  simp [refreshedEntry]

theorem refreshedEntry_missed {h : Heard} {arrival : Stamp} {e : PeerEntry} (he : e.missed ≤ 65535) :
    (refreshedEntry h arrival e).missed ≤ 65535 :=
  accountSequence_missed he

theorem findEntry_some {id : StationId} {es : List PeerEntry} {e : PeerEntry} (h : findEntry id es = some e) : e ∈ es ∧ e.id = id :=
  ⟨List.mem_of_find?_eq_some h, by simpa using List.find?_some h⟩

theorem handleAnnouncement_move (lineDelay : Int) (r : RingEntry) (p : PT) :
    PtMove (fun id => id = r.source) p (handleAnnouncement lineDelay r p).pt := by
  unfold handleAnnouncement
  split
  · dsimp only
    split
    · exact putEntry_move (.inl (by simp [createdEntry])) fun _ => by simp [createdEntry]
    next old hold =>
      obtain ⟨hmem, hid⟩ := findEntry_some hold
      refine putEntry_move (.inl (by simp [hid])) fun h => ?_
      rw [settledEntry_missed]
      exact refreshedEntry_missed (h old hmem)
  · exact ⟨id, fun e he => .inr ⟨e, he, rfl⟩, fun _ => bump_le, id⟩

theorem ageEntry_id (e : PeerEntry) : (ageEntry e).id = e.id := rfl

theorem markPt_move (ids : StationId → Prop) (p : PT) : PtMove ids p (markPt p) where
  ordered h := by
    have hsub : ((markPt p).entries.map (fun e => e.id.toNat)).Sublist (p.entries.map (fun e => e.id.toNat)) := by
      have hmap : (p.entries.map ageEntry).map (fun e => e.id.toNat) = p.entries.map (fun e => e.id.toNat) := by
        rw [List.map_map]
        rfl
      rw [← hmap]
      exact List.filter_sublist.map _
    exact h.sublist hsub
  members e he := by
    obtain ⟨d, hd, rfl⟩ := List.mem_map.mp (List.mem_of_mem_filter he)
    exact .inr ⟨d, hd, rfl⟩
  reject := id
  missed h e he := by
    obtain ⟨d, hd, rfl⟩ := List.mem_map.mp (List.mem_of_mem_filter he)
    exact h d hd

theorem offerOffset_move (id : StationId) (theta : Option Int) (s : State) : Move 1 s (offerOffset id theta s) := by
  cases theta with
  | none => exact .skip s
  | some theta => exact duSample_move ..

theorem offerF_move (id : StationId) (f : Option (Second × Int)) (s : State) : Move 0 s (offerF id f s) := by
  cases f with
  | none => exact .refl s
  | some f => exact takePeerF_move ..

theorem finishAnnouncement_move (s : State) : Move 1 s (finishAnnouncement s) := by
  unfold finishAnnouncement
  split
  next e he =>
    have hfree : LcMove s.sul.stationId s.lc { s.lc with dispatcher := none } :=
      { LcMove.refl s.sul.stationId s.lc with sources := fun ⟨hring, _⟩ => ⟨hring, fun e he => by cases he⟩ }
    have hpt := handleAnnouncement_move s.sul.image.lineDelay e s.pt
    have hhandled : Move 0 s _ := .ptLc hfree { hpt with
      members := fun d hd => (hpt.members d hd).imp_left fun hid => ⟨e, he, hid⟩ }
    exact .ite (hhandled.before ((offerOffset_move ..).andThen (offerF_move ..)))
      (hhandled.before ((offerF_move ..).before (offerOffset_move ..)))
  next => exact .skip s

/-! ## Answers -/

theorem placeAnswer_move (n : SlotName) (q : HeldQuery) (c : Composition) (s : State) : Move 0 s (placeAnswer n q c s) := by
  have hholder : LcMove s.sul.stationId s.lc { s.lc with holder := none } := { LcMove.refl _ s.lc with }
  refine (Move.draws s (drawsAfter c.body s.draws)).trans (Move.trans (n := 0) (m := 0) (Move.lc ?_) (promote_move _))
  exact hholder.trans (readyLc_move ..)

theorem composeWhen_move (asks : List Octet → Bool) (reply : List Octet → State → Composition) {effect : State → State}
    (h : ∀ s, Move 0 s (effect s)) (s : State) : Move 0 s (composeWhen asks reply effect s) := by
  unfold composeWhen
  split
  · exact .ite ((h s).trans (placeAnswer_move ..)) (.refl s)
  · exact .refl s

theorem clearLatched_move (s : State) : Move 0 s (clearLatched s) := by
  refine Move.trans (n := 0) (m := 0) (Move.lc ?_) (Move.trans (n := 0) (m := 0) (Move.du ?_) (Move.sul rfl id id))
  · exact { LcMove.refl _ s.lc with }
  · exact { DuMove.refl s.du with }

theorem recenterEffect_move (s : State) : Move 0 s (recenterEffect s) := by
  refine .vfe ?_
  unfold recenterVfe
  split
  · exact { VfeMove.refl s.vfe with }
  · exact .refl s.vfe

theorem reseedEffect_move (s : State) : Move 0 s (reseedEffect s) :=
  .ite (makeReseed_move s) (.refl s)

/-! ## The start-up record (R189) -/

theorem clampInt_toNat_between {lo hi : Nat} (h : lo ≤ hi) (v : Int) :
    lo ≤ (clampInt lo hi v).toNat ∧ (clampInt lo hi v).toNat ≤ hi := by
  have := clampInt_between (lo := lo) (hi := hi) (by omega) v
  omega

theorem clampAxes_between {lo hi : Int} (h : lo ≤ hi) (v : Axes Int) (a : Axis) :
    lo ≤ axisGet (clampAxes lo hi v).value a ∧ axisGet (clampAxes lo hi v).value a ≤ hi := by
  cases a <;> exact clampInt_between h _

theorem clampChannels_between {lo hi : Int} (h : lo ≤ hi) (v : Channels Int) (c : Channel) :
    lo ≤ channelGet (clampChannels lo hi v).value c ∧ channelGet (clampChannels lo hi v).value c ≤ hi := by
  cases c <;> exact clampInt_between h _

/-- R98: the period in use holds the stages. -/
theorem correctPeriod_holds {im : Image} (hp : 2 ≤ im.cyclePeriod ∧ im.cyclePeriod ≤ 60) (hpol : im.polarizeTime ≤ 30)
    (hgate : im.gateTime ≤ 100) : (2 ≤ (correctPeriod im).value ∧ (correctPeriod im).value ≤ 60)
      ∧ im.polarizeTime * 10 + 2 + im.gateTime + 8 ≤ (correctPeriod im).value * 100 := by
  unfold correctPeriod stagesTime ceilDiv
  split
  · dsimp only
    omega
  · dsimp only
    omega

/-- R121: the cool threshold in use is below the hot one. -/
theorem correctCool_holds {hot cool : Int} (hh : -3900 ≤ hot ∧ hot ≤ 8500) (hc : -4000 ≤ cool ∧ cool ≤ 8400) :
    -4000 ≤ (correctCool hot cool).value ∧ (correctCool hot cool).value ≤ 8400 ∧ (correctCool hot cool).value < hot := by
  unfold correctCool
  split
  · dsimp only
    omega
  · dsimp only
    omega

theorem correctFast_holds {im : Image} (hw : 1 ≤ im.watchThreshold) (hf : 1 ≤ im.fastBound) :
    1 ≤ (correctFast im).value ∧ (correctFast im).value ≤ im.watchThreshold := by
  unfold correctFast
  split
  · dsimp only
    omega
  · dsimp only
    omega

theorem correctRelease_holds {im : Image} (hw : 1 ≤ im.watchThreshold ∧ im.watchThreshold ≤ 10000000)
    (hr : 1 ≤ im.releaseThreshold ∧ im.releaseThreshold ≤ 10000000) :
    (1 ≤ (correctRelease im).value ∧ (correctRelease im).value ≤ 10000000)
      ∧ (im.watchThreshold = 1 → (correctRelease im).value = 1)
      ∧ (1 < im.watchThreshold → (correctRelease im).value < im.watchThreshold) := by
  unfold correctRelease
  split
  · dsimp only
    split <;> omega
  · dsimp only
    omega

theorem clampedImage_corrected (r : RawFields) : (correctedImage (clampedImage r)).InRange := by
  have hperiod := correctPeriod_holds (im := clampedImage r) (clampInt_toNat_between (by decide) _)
    (clampInt_toNat_between (lo := 5) (by decide) _).2 (clampInt_toNat_between (lo := 20) (by decide) _).2
  have hwatch : 1 ≤ (clampedImage r).watchThreshold ∧ (clampedImage r).watchThreshold ≤ 10000000 := clampInt_between (by decide) _
  have hfast := correctFast_holds (im := clampedImage r) hwatch.1 (clampInt_between (by decide) _).1
  have hrelease := correctRelease_holds (im := clampedImage r) hwatch (clampInt_between (by decide) _)
  refine ⟨clampInt_between (by decide) _, (clampInt_toNat_between (lo := 0) (by decide) _).2, clampAxes_between (by decide) _,
    clampAxes_between (by decide) _, clampAxes_between (by decide) _, clampInt_between (by decide) _, hperiod.1,
    clampInt_toNat_between (by decide) _, clampInt_toNat_between (by decide) _, hperiod.2, clampInt_toNat_between (by decide) _,
    clampChannels_between (by decide) _, clampChannels_between (by decide) _, clampChannels_between (by decide) _, ?cool, ?queue,
    clampInt_toNat_between (by decide) _, clampInt_between (by decide) _, clampAxes_between (by decide) _,
    clampAxes_between (by decide) _, clampInt_toNat_between (by decide) _, clampInt_toNat_between (by decide) _, hfast, hwatch.2,
    hrelease.1, hrelease.2.1, hrelease.2.2, clampInt_toNat_between (by decide) _, clampInt_toNat_between (by decide) _,
    clampInt_toNat_between (by decide) _, clampInt_between (by decide) _⟩
  case cool =>
    intro c
    cases c <;> exact correctCool_holds (clampInt_between (by decide) _) (clampInt_between (by decide) _)
  case queue =>
    intro c
    cases c <;> exact (clampInt_toNat_between (lo := 0) (hi := 3) (by decide) _).2

theorem default_inRange : Image.default.InRange := by
  unfold Image.InRange
  refine ⟨by decide, by decide, ?_, ?_, ?_, by decide, by decide, by decide, by decide, by decide, by decide, ?_, ?_, ?_, ?_, ?_,
    by decide, by decide, ?_, ?_, by decide, by decide, by decide, by decide, by decide, by decide, by decide, by decide, by decide,
    by decide, by decide⟩ <;> intro c <;> cases c <;> decide

theorem readRecord_inRange (id : StationId) (memory : Option MemoryRecord) : (readRecord id memory).image.InRange := by
  unfold readRecord
  split
  · exact default_inRange
  · split
    · exact clampedImage_corrected _
    · exact default_inRange

@[simp] theorem readRecord_stationId (id : StationId) (memory : Option MemoryRecord) : (readRecord id memory).stationId = id := by
  unfold readRecord
  split
  · rfl
  · split <;> rfl

theorem readRecord_clampCount (id : StationId) (memory : Option MemoryRecord) : (readRecord id memory).clampCount ≤ 65535 := by
  unfold readRecord
  split
  · exact Nat.zero_le _
  · split
    · exact addSat_le
    · exact Nat.zero_le _

/-! ## The restart -/

theorem finishEntry_move (r : RS) (e : PendingEntry) : RsMove r (finishEntry r e) :=
  writeRecord_move _ (finalRecord_rewritten e.magnitude none none .restart) r

theorem RsMove.trans {r q p : RS} (h : RsMove r q) (k : RsMove q p) : RsMove r p :=
  ⟨h.seconds.trans k.seconds, k.minutes ∘ h.minutes, k.minutesFit ∘ h.minutesFit, k.eventsFit ∘ h.eventsFit,
    k.buildFits ∘ h.buildFits, k.eventsLost ∘ h.eventsLost, k.minuteLost ∘ h.minuteLost⟩

theorem RsMove.foldl {α : Type} {f : RS → α → RS} (h : ∀ r a, RsMove r (f r a)) (l : List α) (r : RS) : RsMove r (l.foldl f r) := by
  induction l generalizing r with
  | nil => exact .refl r
  | cons a l ih => exact (h r a).trans (ih (f r a))

theorem finishEntries_move (s : State) : Move 0 s (finishEntries s) := by
  refine (Move.rs (RsMove.foldl finishEntry_move ..)).trans (Move.mdm ?_)
  exact { MdmMove.refl s.mdm with listFits := fun _ => Nat.zero_le _ }

theorem finishChain_move (r : RS) (c : ChainRecord) : RsMove r (finishChain r c) := by
  apply writeRecord_move
  intro r
  refine ⟨rfl, rfl, rfl, fun a => ?_, fun _ => rfl⟩
  dsimp only
  rw [axisGet_axesOf]
  split <;> rfl

theorem finishChains_move (s : State) : Move 0 s (finishChains s) := by
  refine (Move.rs (RsMove.foldl finishChain_move ..)).trans (Move.re ?_)
  exact { ReMove.refl s.re with chainFits := fun _ => Nat.zero_le _ }

theorem restartBuildList_length {r : RS} (h : r.buildList.length ≤ 16) : (restartBuildList r).length ≤ 16 := by
  unfold restartBuildList
  split
  · exact h
  · dsimp only
    split
    · simp
      omega
    · split
      next heq =>
        simp only [heq, List.length_cons] at h
        simp
        omega
      next => simp; omega

theorem restartRs_move (r : RS) : RsMove r (restartRs r) :=
  { RsMove.refl r with
    eventsFit := fun _ => Nat.zero_le _
    buildFits := restartBuildList_length
    eventsLost := fun _ => Nat.zero_le _
    minuteLost := fun _ => Nat.zero_le _ }

theorem restartTb_move (enabled : Bool) (t : TB) : TbMove t (restartTb enabled t) where
  clock := fun ⟨htick, htrim, _, hrate, hrem⟩ => ⟨htick, htrim, by simp [restartTb], hrate, hrem⟩
  extraEdge _ := Nat.zero_le _
  labelReject _ := Nat.zero_le _

theorem restartDu_move (own : StationId) (d : DU) : DuMove d (restartDu own d) := by
  have h := fixAdvertisement_move own PT.reset { DU.reset own with
    state := if d.state = .locked then .holdover else .freeRoot
    boundAtEntry := if d.state = .locked then some d.errorBound else none
    heldClass := if d.state = .locked then some d.cls else none }
  exact ⟨fun _ => h.filter (by decide : (0 : Int).natAbs ≤ 999999), fun _ => h.steps (Nat.zero_le _),
    fun _ => h.relabels (Nat.zero_le _), fun _ => h.outliers (Nat.zero_le _)⟩

theorem ptReset_move (ids : StationId → Prop) (p : PT) : PtMove ids p PT.reset where
  ordered _ := .nil
  members e he := by cases he
  reject _ := Nat.zero_le _
  missed _ e he := by cases he

theorem startScn_move (im : Image) (c : SCN) : ScnMove c (startScn im) :=
  ⟨fun _ => Nat.zero_le _, fun _ => Nat.zero_le _, fun _ => Nat.zero_le _⟩

theorem startMdm_move (u : SUL) (m : MDM) : MdmMove m (startMdm u) :=
  ⟨fun _ => Nat.zero_le _, fun _ => Nat.zero_le _, fun _ => Nat.zero_le _, fun _ => Nat.zero_le _, fun _ => Nat.zero_le _,
    fun _ => Nat.zero_le _⟩

theorem vfeReset_move (v : VFE) : VfeMove v VFE.reset :=
  ⟨fun _ => settingsFit_zero, fun _ => Nat.zero_le _, fun _ => Nat.zero_le _, fun _ => Nat.zero_le _, fun _ => Nat.zero_le _⟩

theorem startVfe_move (s : State) : Move 0 s (startVfe s) :=
  have hreset : Move 0 s (s.setVfe VFE.reset) := .vfe (vfeReset_move s.vfe)
  .ite (hreset.trans (enterDriveStart_move _)) (hreset.trans (loopOff_move _))

theorem restartLc_move (own : StationId) (l : LC) : LcMove own l (restartLc l) where
  ringFits _ := Nat.zero_le _
  sources _ := ⟨by simp [restartLc, LC.reset], by simp [restartLc, LC.reset]⟩
  slots _ := .inl rfl
  counters _ := ⟨Nat.zero_le _, Nat.zero_le _, Nat.zero_le _, Nat.zero_le _, Nat.zero_le _, Nat.zero_le _⟩

/-- RE restarts with no sample taken and no chain; the second it opens is OPEN only where the ring holds no record of it. -/
theorem restartRe_core (t : TB) (s : State) : Core 0 s (s.setRe (restartRe t s.rs)) :=
  { (Move.refl s).toCore with
    capacity := fun ⟨h1, h2, h3, h4, h5, _, h7⟩ => ⟨h1, h2, h3, h4, h5, Nat.zero_le _, h7⟩
    counters := fun ⟨hline, hclock, hfront, _, _, hrest⟩ => ⟨hline, hclock, hfront, Nat.zero_le _, Nat.zero_le _, hrest⟩
    samples := fun ⟨_, _, hrec⟩ => by
      obtain ⟨htaken, hsum⟩ := secondCounted_fresh (re := restartRe t s.rs) rfl rfl rfl rfl
      exact ⟨htaken, hsum, hrec⟩ }

theorem closeAtRestart_core (s : State) : Core 1 s (closeAtRestart s) := by
  unfold closeAtRestart
  split
  · refine enterRecord_core rfl fun ⟨htaken, hsum, _⟩ a => ?_
    have hn : (axisGet (restartRecord s).axes a).n = axisGet s.re.n a := congrArg AxisField.n (axisGet_axesOf _ a)
    rw [hn]
    exact SecondCounted.n_le ⟨htaken, hsum⟩ a
  · exact (Move.skip s).toCore

theorem closeAtRestart_nodup {s : State} (h : RecordsDistinct s) : (recordKeys (closeAtRestart s).rs.seconds).Nodup := by
  obtain ⟨hnodup, hopen⟩ := h
  unfold closeAtRestart
  split
  next hisOpen =>
    rw [(enterRecord_same ..).keys]
    exact nodup_push hnodup (hopen hisOpen)
  next => exact hnodup

/-- What the restart does up to RE's own part: the records in hand are finished, and the memory, TB, the DRU and RS restart. -/
def restartStores (memory : Option MemoryRecord) (s : State) : State :=
  let s := finishChains s
  let s := (s.setPins { s.pins with memory := memory }).setSul (readRecord s.sul.stationId memory)
  let s := s.setTb (restartTb s.sul.image.timePulse s.tb)
  let s := s.setDru DRU.reset
  s.setRs (restartRs s.rs)

/-- What the restart does from RE's own part on. -/
def restartBlocks (s : State) : State :=
  let s := s.setDu (restartDu s.sul.stationId s.du)
  let s := s.setPt PT.reset
  let s := s.setScn (startScn s.sul.image)
  let s := s.setTu (startTu s.sul.image)
  let s := s.setMdm (startMdm s.sul)
  let s := s.setBw BW.reset
  let s := startVfe s
  let s := s.setLc (restartLc s.lc)
  testHead s

theorem restartNode_eq (memory : Option MemoryRecord) (s : State) :
    restartNode memory s = restartBlocks
      ((restartStores memory (closeAtRestart (finishEntries s))).setRe
        (restartRe (restartStores memory (closeAtRestart (finishEntries s))).tb
          (restartStores memory (closeAtRestart (finishEntries s))).rs)) := rfl

theorem restartStores_move (memory : Option MemoryRecord) (s : State) : Move 0 s (restartStores memory s) := by
  refine (finishChains_move s).trans ((Move.pins ..).trans (Move.trans (n := 0) (m := 0) (Move.sul ?_ ?_ ?_)
    ((Move.tb (restartTb_move ..)).trans (Move.trans (n := 0) (m := 0) (Move.dru fun _ => Nat.zero_le _) (Move.rs (restartRs_move _))))))
  · exact readRecord_stationId ..
  · exact fun _ => readRecord_inRange ..
  · exact fun _ => readRecord_clampCount ..

theorem restartBlocks_move (s : State) : Move 0 s (restartBlocks s) :=
  (Move.du (restartDu_move ..)).trans ((Move.pt (ptReset_move ..)).trans ((Move.scn (startScn_move ..)).trans
    ((Move.tu ⟨fun _ => Nat.zero_le _, fun _ => Nat.zero_le _⟩ ⟨fun _ => Nat.zero_le _, fun _ => Nat.zero_le _⟩).trans
      ((Move.mdm (startMdm_move ..)).trans ((Move.bw (b := BW.reset) (fun _ => Nat.zero_le _) (fun _ => Nat.zero_le _)).trans
        ((startVfe_move _).trans ((Move.lc (restartLc_move ..)).trans (testHead_move _))))))))

theorem restartNode_move (memory : Option MemoryRecord) (s : State) : Move 1 s (restartNode memory s) := by
  rw [restartNode_eq]
  have hstores : Core 1 s (restartStores memory (closeAtRestart (finishEntries s))) :=
    ((finishEntries_move s).toCore.before (closeAtRestart_core _)).andThen (restartStores_move ..).toCore
  refine Move.andThen ?_ (restartBlocks_move _)
  refine { hstores.andThen (restartRe_core ..) with distinct := fun h => ⟨?_, fun hopen => ?_⟩ }
  · have hkeys := (restartStores_move memory (closeAtRestart (finishEntries s))).adds.sameRecords.keys
    have hnodup := closeAtRestart_nodup ((finishEntries_move s).distinct h)
    rw [← hkeys] at hnodup
    exact hnodup
  · intro hmem
    have hheld := (ringHolds_iff _ _ _).mpr hmem
    have hfree : ringHolds (restartStores memory (closeAtRestart (finishEntries s))).tb.epoch
        (restartStores memory (closeAtRestart (finishEntries s))).tb.second
        (restartStores memory (closeAtRestart (finishEntries s))).rs = false := by simpa [restartRe] using hopen
    exact Bool.false_ne_true (hfree.symm.trans hheld)

theorem afterLeaving_move (memory : Option MemoryRecord) (b : Bool) (s : State) : Move 1 s (afterLeaving memory b s) :=
  .ite (restartNode_move ..) ((promote_move s).mono (Nat.zero_le 1))

theorem abandonFrame_move (memory : Option MemoryRecord) (n : SlotName) (s : State) : Move 1 s (abandonFrame memory n s) :=
  (abandonSlot_move n s).before (afterLeaving_move ..)

/-! ## Notices -/

theorem takeMark_move (b : MarkBlock) (q : Second) (ep : Epoch) (s : State) : Move 1 s (takeMark b q ep s) := by
  cases b with
  | re => exact markRe_move ..
  | vfe => exact (markVfe_move s).mono (Nat.zero_le 1)
  | pt => exact (Move.pt (markPt_move _ s.pt)).mono (Nat.zero_le 1)
  | du => exact (markDu_move ..).mono (Nat.zero_le 1)
  | scn => exact (markScn_move ..).mono (Nat.zero_le 1)
  | tu => exact (markTu_move ..).mono (Nat.zero_le 1)
  | mdm => exact (markMdm_move s).mono (Nat.zero_le 1)
  | bw => exact (markBw_move s).mono (Nat.zero_le 1)

theorem takeNotice_move (b : MarkBlock) (s : State) : Move 1 s (takeNotice b s) := by
  unfold takeNotice
  split
  · exact (Move.notices ..).before (takeMark_move ..)
  · exact .skip s

theorem takeNotices_move (bs : List MarkBlock) (s : State) : Move bs.length s (takeNotices bs s) := by
  induction bs generalizing s with
  | nil => exact .refl s
  | cons b bs ih =>
    rw [List.length_cons, Nat.add_comm]
    exact (takeNotice_move b s).trans (ih _)

theorem takeOwnMark_move (b : MarkBlock) (s : State) : Move 1 s (takeOwnMark b s) := by
  unfold takeOwnMark
  split
  · exact takeNotice_move ..
  · exact takeMark_move ..

theorem emitInstant_move (k : Instant) (r : Axes (BitVec 24)) (s : State) : Move 1 s (emitInstant k r s) := by
  have hpins : Move 0 s (s.setPins { s.pins with residual := r }) := .pins ..
  unfold emitInstant
  dsimp only
  split
  · exact hpins.before ((Move.instants ..).before (vfeInstant_move ..))
  · split
    next hpassed => exact hpins.before ((Move.tb (countTb_move (instantPassed_tick hpassed))).before (vfeInstant_move ..))
    next => exact hpins.mono (Nat.zero_le 1)

/-! ## The line -/

theorem judgeFrame_source {os : List RxOctet} {k : FrameKind} {source dest : Octet} {body : List Octet}
    (h : judgeFrame os = some (k, source, dest, body)) : source ≠ 0 ∧ source.toNat ≤ 15 := by
  unfold judgeFrame at h
  dsimp only at h
  repeat' split at h
  all_goals simp_all

/-- An octet of 1..15 that is not the node's own id names another station (R13, R14). -/
theorem setWidth_foreign {source : Octet} {own : StationId} (hne : source ≠ 0) (hle : source.toNat ≤ 15)
    (hown : source ≠ own.setWidth 8) : source.setWidth 4 ≠ (0 : StationId) ∧ source.setWidth 4 ≠ own := by
  refine ⟨fun h => hne ?_, fun h => hown ?_⟩
  · have := congrArg BitVec.toNat h
    apply BitVec.eq_of_toNat_eq
    simp at this ⊢
    omega
  · have := congrArg BitVec.toNat h
    apply BitVec.eq_of_toNat_eq
    simp at this ⊢
    omega

theorem activityStart_move (s : State) : Move 0 s (activityStart s) := by
  refine .ite (.lc ?_) (.refl s)
  unfold lineBusy
  split <;> exact { LcMove.refl _ s.lc with }

theorem ite_bump_le {p : Prop} [Decidable p] {c : Nat} (h : c ≤ 65535) : (if p then bump c else c) ≤ 65535 := by
  split
  · exact bump_le
  · exact h

theorem lineIdleLc_move (own : StationId) (l : LC) : LcMove own l (lineIdleLc l) := by
  exact { LcMove.refl own l with counters := fun ⟨h1, hrest⟩ => ⟨ite_bump_le h1, hrest⟩ }

theorem lineGoesIdle_move (s : State) : Move 0 s (lineGoesIdle s) :=
  .ite (.refl s) ((Move.lc (lineIdleLc_move ..)).trans (contend_move _))

theorem lineGoesStuck_move (s : State) : Move 0 s (lineGoesStuck s) := by
  refine .ite (.lc ?_) (.refl s)
  exact { LcMove.refl _ s.lc with }

theorem latchDuplicate_move (memory : Option MemoryRecord) (s : State) : Move 1 s (latchDuplicate memory s) := by
  have hlatch : Move 0 s (s.setLc { s.lc with duplicateId := true }) := .lc { LcMove.refl _ s.lc with }
  have habandon : ∀ (p : State → Bool) (n : SlotName) (t : State), Move 0 t (if p t then abandonSlot n t else t) :=
    fun _ n t => .ite (abandonSlot_move n t) (.refl t)
  have hfreed := (hlatch.trans (habandon (fun t => t.lc.slotA.isSome) .a _)).trans (habandon (fun t => t.lc.slotB.isSome) .b _)
  unfold latchDuplicate
  split
  · exact .skip s
  · exact .ite (hfreed.before (restartNode_move ..)) (hfreed.mono (Nat.zero_le 1))

theorem judgeRun_move (r : RxRun) (os : List RxOctet) (memory : Option MemoryRecord) (s : State) :
    Move 1 s (judgeRun r os memory s) := by
  have hjudged : Move 0 s (s.setLc (markJudged s.lc)) := .lc { LcMove.refl _ s.lc with }
  unfold judgeRun
  dsimp only
  split
  · refine (hjudged.trans (m := 0) (.lc ?_)).mono (Nat.zero_le 1)
    exact { LcMove.refl _ _ with counters := fun ⟨_, h2, h3, h4, h5, h6⟩ => ⟨bump_le, h2, h3, h4, h5, h6⟩ }
  next k source dest body hjudge =>
    obtain ⟨hne, hle⟩ := judgeFrame_source hjudge
    split
    · exact hjudged.before (latchDuplicate_move ..)
    next hown =>
      split
      · exact hjudged.mono (Nat.zero_le 1)
      · refine (hjudged.trans (m := 0) (.lc ?_)).mono (Nat.zero_le 1)
        unfold enterRing
        split
        · exact { LcMove.refl _ _ with counters := fun ⟨h1, _, h3, h4, h5, h6⟩ => ⟨h1, bump_le, h3, h4, h5, h6⟩ }
        next hroom =>
          refine { LcMove.refl s.sul.stationId _ with
            ringFits := fun _ => (List.length_append ..).trans_le (Nat.not_le.mp hroom), sources := fun ⟨hring, hdisp⟩ => ⟨fun e he => ?_, hdisp⟩ }
          rcases List.mem_append.mp he with he | he
          · exact hring e he
          · rw [List.mem_singleton.mp he]
            exact setWidth_foreign hne hle hown

theorem receives_move (levels : List Level) (memory : Option MemoryRecord) (s : State) : Move 1 s (receives levels memory s) := by
  unfold receives
  split
  · exact .ite (.skip s) (judgeRun_move ..)
  · exact .skip s

theorem dispatches_move (s : State) : Move 0 s (dispatches s) := by
  unfold dispatches
  split
  next e rest hdisp hring =>
    have hrest : LcMove s.sul.stationId s.lc { s.lc with ring := rest } :=
      { LcMove.refl s.sul.stationId s.lc with
        ringFits := fun h => by rw [hring] at h; exact Nat.le_of_succ_le h
        sources := fun ⟨h, hd⟩ => ⟨fun x hx => h x (hring ▸ List.mem_cons_of_mem _ hx), hd⟩ }
    refine .lc ?_
    unfold dispatchEntry
    split
    · exact { hrest with
        sources := fun h => ⟨(hrest.sources h).1, fun x hx => by
          obtain rfl := Option.some.inj hx
          exact h.1 e (hring ▸ List.mem_cons_self)⟩ }
    · split
      · exact { hrest with counters := fun ⟨_, h2, h3, h4, h5, h6⟩ => ⟨bump_le, h2, h3, h4, h5, h6⟩ }
      · split
        · unfold offerQuery
          split
          · exact { hrest with }
          · exact { hrest with counters := fun ⟨h1, h2, _, h4, h5, h6⟩ => ⟨h1, h2, bump_le, h4, h5, h6⟩ }
        · exact hrest
    · exact hrest
  next => exact .refl s

theorem spreadEnds_move (s : State) : Move 0 s (spreadEnds s) := by
  unfold spreadEnds
  split
  · split
    next hv => exact .ite (beginAttempt_move hv) (.refl s)
    next => exact .refl s
  · exact .refl s

theorem collides_move (readBack : List Level) (s : State) : Move 0 s (collides readBack s) := by
  unfold collides
  split
  · refine .ite (Move.trans (n := 0) (m := 0) (.lc ?_) (.rs ?_)) (.refl s)
    · exact { LcMove.refl _ s.lc with }
    · exact { RsMove.refl s.rs with }
  · exact .refl s

theorem jamEnds_move (memory : Option MemoryRecord) (s : State) : Move 1 s (jamEnds memory s) := by
  unfold jamEnds
  split
  next _ _ n _ _ =>
    split
    next v hv =>
      have hslot : Move 0 s (s.setLc (setSlot n (some { v with attempts := v.attempts + 1 }) { s.lc with driverActive := 0 })) := by
        have h := setSlot_move (own := s.sul.stationId) (n := n) (l := s.lc) (v := some { v with attempts := v.attempts + 1 })
          (fun h => by rw [hv]; exact h)
        refine .lc ?_
        cases n <;> exact { h with }
      refine .ite (hslot.before (abandonFrame_move ..)) ((hslot.trans (m := 0) (Move.trans (n := 0) (m := 0) (.lc ?_) (.draws ..))).mono (Nat.zero_le 1))
      exact { LcMove.refl _ _ with }
    next => exact .skip s
  next => exact .skip s

theorem backoffEnds_move (s : State) : Move 0 s (backoffEnds s) := by
  unfold backoffEnds
  split
  · refine Move.trans (n := 0) (m := 0) (.lc ?_) (contend_move _)
    exact { LcMove.refl _ s.lc with }
  · exact .refl s

theorem entriesSent_move (f : Frame) (s : State) : Move 0 s (entriesSent f s) := by
  cases f with
  | announce _ => exact .rs { RsMove.refl s.rs with eventsFit := fun h => by simp [removeCarried]; omega }
  | answer _ => exact .refl s

theorem frameGone_move (memory : Option MemoryRecord) (s : State) : Move 1 s (frameGone memory s) := by
  unfold frameGone
  split
  · split
    · exact ((entriesSent_move ..).trans (freeSlot_move ..)).before (afterLeaving_move ..)
    · exact .skip s
  · exact .skip s

theorem jabberCuts_move (memory : Option MemoryRecord) (s : State) : Move 1 s (jabberCuts memory s) := by
  unfold jabberCuts
  split
  · refine Move.before (.lc ?_) (abandonFrame_move ..)
    exact { LcMove.refl _ s.lc with }
  · exact .skip s

theorem answerExpires_move (n : SlotName) (memory : Option MemoryRecord) (s : State) : Move 1 s (answerExpires n memory s) := by
  unfold answerExpires
  split
  · refine ((freeSlot_move n s).trans (m := 0) (.lc ?_)).before (afterLeaving_move ..)
    exact { LcMove.refl _ _ with counters := fun ⟨h1, h2, h3, _, h5, h6⟩ => ⟨h1, h2, h3, bump_le, h5, h6⟩ }
  · exact .skip s

/-! ## Every command -/

theorem whenOn_move {n : Nat} {f : State → State} {s : State} (h : Move n s (f s)) : Move n s (whenOn s f) := by
  unfold whenOn
  split
  · exact h
  · exact (Move.refl s).mono (Nat.zero_le n)

/-- A command whose own effect is a move that adds no record. -/
theorem next_quiet {f : State → State} {s t : State} (h : Move 0 s (f s))
    (ht : (.next (whenOn s f) : Host.Outcome State Fault Refusal) = .next t) : Move 1 s t := by
  obtain rfl := Host.Outcome.next.inj ht
  exact (whenOn_move h).mono (Nat.zero_le 1)

theorem next_move {f : State → State} {s t : State} (h : Move 1 s (f s))
    (ht : (.next (whenOn s f) : Host.Outcome State Fault Refusal) = .next t) : Move 1 s t := by
  obtain rfl := Host.Outcome.next.inj ht
  exact whenOn_move h

/-- A command that sets pins whether or not RESET is held. -/
theorem next_pins {f : State → State} {v : Pins} {s t : State} (h : Move 0 (s.setPins v) (f (s.setPins v)))
    (ht : (.next (whenOn (s.setPins v) f) : Host.Outcome State Fault Refusal) = .next t) : Move 1 s t := by
  obtain rfl := Host.Outcome.next.inj ht
  exact ((Move.pins s v).trans (whenOn_move h)).mono (Nat.zero_le 1)

/-- A command in which a block takes the mark that ends its count (log 6). -/
theorem next_ownMark {p : State → Bool} {b : MarkBlock} {s t : State}
    (ht : (.next (whenOn s (fun s => if p s then takeOwnMark b s else s)) : Host.Outcome State Fault Refusal) = .next t) :
    Move 1 s t :=
  next_move (.ite (takeOwnMark_move ..) (.skip s)) ht

/-- A command that writes TB aside of the clock. -/
theorem next_pulse {f : State → State} {u : TB} {s t : State} (hu : PulseWrite s.tb u) (hf : f s = s.setTb u)
    (ht : (.next (whenOn s f) : Host.Outcome State Fault Refusal) = .next t) : Move 1 s t :=
  next_quiet (hf ▸ .tb hu.move) ht

theorem marksSecond_move (now : List MarkBlock) (s : State) : Move now.length s (marksSecond now s) :=
  .ite ((tbMark_move s).before (takeNotices_move ..)) ((Move.refl s).mono (Nat.zero_le _))

theorem driveLoses_move (s : State) : Move 0 s (driveLoses s) := by
  unfold driveLoses
  cases s.vfe.state with
  | loopStart | running | retuning => exact enterFaulted_move ..
  | off | driveStart | faulted => exact .refl s

theorem loopLoses_move (s : State) : Move 0 s (loopLoses s) := by
  unfold loopLoses
  cases s.vfe.state with
  | running | retuning => exact enterFaulted_move ..
  | off | driveStart | loopStart | faulted => exact .refl s

theorem loopAppears_move (s : State) : Move 0 s (loopAppears s) := by
  unfold loopAppears
  refine .ite ((Move.pins s { s.pins with loopGood := true }).trans (m := 0) ?_) (.refl s)
  dsimp only
  split
  · exact enterRunning_move _
  · exact .refl _

theorem pulseEdgeComes_move (s : State) : Move 1 s (pulseEdgeComes s) := by
  unfold pulseEdgeComes
  refine .ite ?_ (.skip s)
  split
  · refine (Move.tb (PulseWrite.move ?_)).mono (Nat.zero_le 1)
    exact { PulseWrite.refl s.tb with extraEdge := fun _ => bump_le }
  · refine Move.before (.tb (acceptEdge_write s.tb).move) ?_
    unfold offerPulse
    dsimp only
    split
    · exact duSample_move ..
    · exact .skip _

theorem divideEnds_move (s : State) : Move 0 s (divideEnds s) := by
  have hfault : ∀ n, s.dru.divideFault ≤ 65535 → (countFault n (beginNext s.dru)).divideFault ≤ 65535 := by
    intro n h
    have hnext : (beginNext s.dru).divideFault = s.dru.divideFault := by
      unfold beginNext
      split <;> rfl
    unfold countFault
    split
    · exact bump_le
    · exact hnext.trans_le h
  unfold divideEnds
  split
  next c dividend divisor _ _ =>
    refine Move.trans (n := 0) (m := 0) (.dru (hfault divisor)) ?_
    cases c with
    | axis a => exact deliverAxis_move ..
    | magnitude => exact .refl _
    | scalar => exact deliverScalar_move ..
    | minute => exact deliverMinute_move ..
  next => exact .refl s

theorem rootEnds_move (s : State) : Move 0 s (rootEnds s) := by
  unfold rootEnds
  split
  · refine Move.trans (n := 0) (m := 0) (.dru fun h => ?_) (deliverRoot_move ..)
    unfold beginNext
    split <;> exact h
  · exact .refl s

/-- Every command but POWER_ON, RESET_ASSERTED and SECOND_MARK is a move that adds at most one record. -/
theorem exec_move {c : Instr} {s t : State} (hpower : ∀ straps memory, c ≠ .powerOn straps memory) (hreset : c ≠ .resetAsserted)
    (hmark : ∀ now, c ≠ .secondMark now) (h : exec c s = .next t) : Move 1 s t := by
  cases c with
  | powerOn straps memory => exact absurd rfl (hpower straps memory)
  | resetAsserted => exact absurd rfl hreset
  | secondMark now => exact absurd rfl (hmark now)
  | lineActivityStart => exact next_quiet (activityStart_move s) h
  | lineIdle => exact next_quiet (lineGoesIdle_move s) h
  | lineStuck => exact next_quiet (lineGoesStuck_move s) h
  | spreadEnd => exact next_quiet (spreadEnds_move s) h
  | collision readBack => exact next_quiet (collides_move ..) h
  | jamEnd memory => exact next_move (jamEnds_move ..) h
  | backoffEnd => exact next_quiet (backoffEnds_move s) h
  | frameSent memory => exact next_move (frameGone_move ..) h
  | jabberCut memory => exact next_move (jabberCuts_move ..) h
  | jabberSilenceEnd =>
    have hend : Move 0 s (s.setLc { s.lc with silence := none }) := .lc { LcMove.refl _ s.lc with }
    exact next_quiet (hend.trans (contend_move _)) h
  | joinListenEnd =>
    have hend : Move 0 s (s.setLc { s.lc with joinListen := none }) := .lc { LcMove.refl _ s.lc with }
    exact next_quiet (hend.trans (contend_move _)) h
  | frameReceived levels memory => exact next_move (receives_move ..) h
  | dispatch => exact next_quiet (dispatches_move s) h
  | queryExpiry =>
    refine next_quiet (f := queryExpires) ?_ h
    unfold queryExpires
    split
    · exact .lc { LcMove.refl _ s.lc with counters := fun ⟨h1, h2, h3, _, h5, h6⟩ => ⟨h1, h2, h3, bump_le, h5, h6⟩ }
    · exact .refl s
  | announcePoint => exact next_quiet (announceWhenDue_move s) h
  | answerExpiry slot memory => exact next_move (answerExpires_move ..) h
  | readSeconds => exact next_quiet (composeWhen_move _ _ (fun s => .refl s) s) h
  | readMinutes => exact next_quiet (composeWhen_move _ _ (fun s => .refl s) s) h
  | status => exact next_quiet (composeWhen_move _ _ clearLatched_move s) h
  | peers => exact next_quiet (composeWhen_move _ _ (fun s => .refl s) s) h
  | recenter => exact next_quiet (composeWhen_move _ _ recenterEffect_move s) h
  | reseed => exact next_quiet (composeWhen_move _ _ reseedEffect_move s) h
  | restart => exact next_quiet (composeWhen_move _ _ (fun s => .refl s) s) h
  | unknownRequest => exact next_quiet (composeWhen_move _ _ (fun s => .refl s) s) h
  | announceHandled => exact next_move (finishAnnouncement_move s) h
  | entryStale => exact next_ownMark (p := fun s => staleNext s.pt) h
  | entryRemoved => exact next_ownMark (p := fun s => removedNext s.pt) h
  | holdoverExpiry => exact next_ownMark (p := fun s => holdoverNext s.sul.image.holdoverLimit s.du) h
  | holdoffEnd => exact next_ownMark (p := fun s => holdoffNext s.vfe) h
  | pendingExpiry => exact next_ownMark (p := fun s => expiryNext s.mdm) h
  | heldFLapse => exact next_ownMark (p := fun s => lapseNext s.mdm) h
  | disturbedTimeExceeded => exact next_ownMark (p := fun s => disturbedNext s.sul.image.maxDisturbed s.bw) h
  | secondMarkOutputEnd =>
    refine next_pulse ?_ rfl h
    exact { PulseWrite.refl s.tb with }
  | sampleInstant k residual => exact next_move (emitInstant_move ..) h
  | settleComplete k residual => exact next_move (.ite (emitInstant_move ..) (.skip s)) h
  | pulseEdge => exact next_move (pulseEdgeComes_move s) h
  | edgeWindowEnd =>
    refine next_pulse ?_ rfl h
    exact { PulseWrite.refl s.tb with }
  | labelGapEnd => exact next_pulse (endLabelGap_write s.tb) rfl h
  | edgeAgeLimit =>
    refine next_pulse ?_ rfl h
    exact { PulseWrite.refl s.tb with }
  | labelAgeLimit =>
    refine next_pulse ?_ rfl h
    exact { PulseWrite.refl s.tb with }
  | labelOctetReceived levels => exact next_quiet (.ite (.tb (labelLevels_write levels s.tb).move) (.refl s)) h
  | driveGoodAppears =>
    refine next_pins (f := driveAppears) ?_ h
    unfold driveAppears
    split
    · exact enterLoopStart_move _
    · exact .refl _
  | driveStartTimeout =>
    refine next_quiet (f := driveTimesOut) ?_ h
    unfold driveTimesOut
    split
    · exact enterFaulted_move ..
    · exact .refl s
  | loopGoodAppears => exact next_quiet (loopAppears_move s) h
  | loopStartTimeout =>
    refine next_quiet (f := loopTimesOut) ?_ h
    unfold loopTimesOut
    split
    · exact enterFaulted_move ..
    · exact .refl s
  | driveGoodLost => exact next_pins (driveLoses_move _) h
  | loopGoodLost driveLostToo =>
    cases driveLostToo with
    | false => exact next_pins (loopLoses_move _) h
    | true => exact (Move.pins s { s.pins with loopGood := false }).before (next_pins (driveLoses_move _) h)
  | polarizeExpiry =>
    refine next_quiet (f := polarizeEnds) ?_ h
    unfold polarizeEnds
    split
    · exact .scn { ScnMove.refl s.scn with }
    · exact .refl s
  | polarizeCurrentFault present =>
    refine next_pins (f := polarizeIndication present) ?_ h
    unfold polarizeIndication
    split
    · exact polarizeFaults_move _
    · exact .refl _
  | deadExpiry =>
    refine next_quiet (f := deadEnds) ?_ h
    unfold deadEnds
    split
    · exact enterGate_move s
    · exact .refl s
  | risingCrossing =>
    refine next_quiet (f := crossingComes) ?_ h
    unfold crossingComes
    split
    · exact .scn (crossing_move ..)
    · exact .refl s
  | signalDetectLost absent =>
    refine next_pins (f := signalIndication absent) ?_ h
    unfold signalIndication
    split
    · exact endCycle_move ..
    · exact .refl _
  | gateExpiry =>
    refine next_quiet (f := gateEnds) ?_ h
    unfold gateEnds
    split
    · exact closeGate_move s
    · exact .refl s
  | tuSettleExpiry =>
    refine next_quiet (f := tuSettleEnds) ?_ h
    unfold tuSettleEnds
    split
    · exact .tu (.refl _) (.refl _)
    · exact .refl s
  | conversionComplete sensorCode pierCode =>
    refine next_quiet (f := conversionEnds sensorCode pierCode) ?_ h
    unfold conversionEnds
    split
    · exact (Move.pins ..).trans (completeAcquisition_move ..)
    · exact .refl s
  | divideComplete => exact next_quiet (divideEnds_move s) h
  | rootComplete => exact next_quiet (rootEnds_move s) h

/-! ## The idle node -/

theorem tickTimers_move (s : State) : Move 0 s (tickTimers s) := by
  have hlc : Move 0 s (s.setLc (tickLc s.lc)) := by
    refine .lc { LcMove.refl _ s.lc with slots := Or.imp (fun h => ?_) (fun h => ?_) }
    · cases hs : s.lc.slotA <;> simp_all [tickLc, tickSlot, isSending]
    · cases hs : s.lc.slotB <;> simp_all [tickLc, tickSlot, isSending]
  have hvfe : VfeMove s.vfe { s.vfe with timer := tickDown s.vfe.timer } := { VfeMove.refl s.vfe with }
  have hscn : ScnMove s.scn { s.scn with timer := tickDown s.scn.timer } := { ScnMove.refl s.scn with }
  have htb : Move 0 s ((s.setLc (tickLc s.lc)).setTb (tickTb s.tb)) :=
    hlc.trans (Move.tb (s := s.setLc (tickLc s.lc)) (tickTb_write s.tb).move)
  have hvector : Move 0 s (((s.setLc (tickLc s.lc)).setTb (tickTb s.tb)).setVfe { s.vfe with timer := tickDown s.vfe.timer }) :=
    htb.trans (Move.vfe (s := (s.setLc (tickLc s.lc)).setTb (tickTb s.tb)) hvfe)
  have hscalar := hvector.trans (m := 0) (.scn hscn)
  have hthermal := hscalar.trans (m := 0) (.tu (u := { s.tu with timer := tickDown s.tu.timer }) (.refl _) (.refl _))
  exact hthermal.trans (m := 0) (.dru (d := tickDru s.dru) id)

theorem countPeriod_move (s : State) : Move 0 s (countPeriod s) := by
  unfold countPeriod
  split
  · exact tbMark_move s
  next hmark =>
    have hcount : (countTb s.tb).tick < 10000000 := by simpa [countIsMark] using hmark
    dsimp only
    split
    · exact (Move.tb (countTb_move hcount)).trans ((Move.instants ..).trans (Move.pending ..))
    · exact .tb (countTb_move hcount)

theorem idleStep_move (s : State) : Move 1 s (idleStep s) := by
  refine whenOn_move ?_
  unfold idleOn
  split
  · exact takeNotice_move ..
  · split
    · exact (Move.pending ..).mono (Nat.zero_le 1)
    · split
      · exact ((tickTimers_move s).trans (countPeriod_move _)).mono (Nat.zero_le 1)
      · exact (Move.pending ..).mono (Nat.zero_le 1)

/-! ## A step -/

/-- What a step can do: POWER_ON, RESET_ASSERTED, or a move, which lets at most one record join the ring unless it is SECOND_MARK. -/
theorem step_cases {s t : State} (h : step s = .next t) :
    (∃ straps memory rest, t = powerUp straps memory (s.setPending rest)) ∨ (∃ rest, t = heldReset (s.setPending rest))
      ∨ Move 1 s t ∨ ∃ now rest, t = whenOn (s.setPending rest) (marksSecond now) := by
  unfold step at h
  split at h
  next c rest _ =>
    by_cases hpower : ∃ straps memory, c = .powerOn straps memory
    · obtain ⟨straps, memory, rfl⟩ := hpower
      exact .inl ⟨straps, memory, rest, (Host.Outcome.next.inj h).symm⟩
    by_cases hreset : c = .resetAsserted
    · subst hreset
      exact .inr (.inl ⟨rest, (Host.Outcome.next.inj h).symm⟩)
    by_cases hmark : ∃ now, c = .secondMark now
    · obtain ⟨now, rfl⟩ := hmark
      exact .inr (.inr (.inr ⟨now, rest, (Host.Outcome.next.inj h).symm⟩))
    refine .inr (.inr (.inl ((Move.pending s rest).before (exec_move ?_ hreset ?_ h))))
    · exact fun straps memory hc => hpower ⟨straps, memory, hc⟩
    · exact fun now hc => hmark ⟨now, hc⟩
  next =>
    obtain rfl := Host.Outcome.next.inj h
    exact .inr (.inr (.inl (idleStep_move s)))

/-- After POWER_ON and RESET_ASSERTED the node meets every invariant: its stores are empty and its counters 0. -/
structure Fresh (t : State) : Prop where
  capacity : WithinCapacity t
  position : PeersInPosition t
  clock : ClockInRange t
  slots : OneSlotSends t
  settings : SettingsInRange t
  counters : CountersFit t
  image : t.sul.image.InRange
  minutes : ConsecutiveMinutes t
  samples : SamplesCounted t
  seconds : t.rs.seconds = []

theorem Fresh.distinct {t : State} (h : Fresh t) : RecordsDistinct t := by
  simp [RecordsDistinct, h.seconds]

theorem samplesCounted_reset {t : State} (hre : t.re = RE.reset) (hrs : t.rs = RS.reset) : SamplesCounted t := by
  obtain ⟨htaken, hsum⟩ := secondCounted_fresh (re := t.re) (by rw [hre]; rfl) (by rw [hre]; rfl) (by rw [hre]; rfl) (by rw [hre]; rfl)
  exact ⟨htaken, hsum, by simp [hrs, RS.reset]⟩

theorem Fresh.move {s t : State} (h : Fresh s) (k : Move 0 s t) : Fresh t where
  capacity := k.capacity h.capacity
  position := k.position h.position
  clock := k.clock h.clock
  slots := k.slots h.slots
  settings := k.settings h.settings
  counters := k.counters h.counters
  image := k.image h.image
  minutes := k.minutes h.minutes
  samples := k.samples h.samples
  seconds := List.eq_nil_of_length_eq_zero (by rw [k.adds.sameRecords.length, h.seconds]; rfl)

/-- A node whose blocks stand at their reset values, whichever roles and sources its image gives them. -/
theorem fresh_of_reset {t : State} {own : StationId} {scn : ScnState} {tu : TuState} {source : Source} (hlc : t.lc = LC.reset)
    (htb : t.tb = TB.reset) (hpt : t.pt = PT.reset) (hdu : t.du = DU.reset own) (hvfe : t.vfe = VFE.reset)
    (hscn : t.scn = { SCN.reset with state := scn }) (htu : t.tu = { TU.reset with state := tu }) (hre : t.re = RE.reset)
    (hdru : t.dru = DRU.reset) (hmdm : t.mdm = { MDM.reset with source := source }) (hbw : t.bw = BW.reset)
    (hrs : t.rs = RS.reset) (himage : t.sul.image.InRange) (hclamp : t.sul.clampCount ≤ 65535) : Fresh t where
  capacity := by simp [WithinCapacity, hlc, hrs, hre, hmdm, LC.reset, RS.reset, RE.reset, MDM.reset]
  position := by simp [PeersInPosition, PeersOrdered, hpt, hlc, PT.reset, LC.reset]
  clock := by simp [ClockInRange, htb, hdu, TB.reset, DU.reset]
  slots := by simp [OneSlotSends, hlc, LC.reset, isSending]
  settings := by
    unfold SettingsInRange
    rw [hvfe]
    exact settingsFit_zero
  counters := by
    refine ⟨?_, ?_, ?_, ?_⟩
    · simp [LineCountersFit, hlc, LC.reset]
    · simp [ClockCountersFit, htb, hpt, hdu, TB.reset, PT.reset, DU.reset]
    · simp [FrontCountersFit, hvfe, hscn, htu, VFE.reset, SCN.reset, TU.reset, TempChannel.reset]
    · simp [RecordCountersFit, hre, hdru, hmdm, hbw, hrs, hclamp, RE.reset, DRU.reset, MDM.reset, BW.reset, RS.reset]
  image := himage
  minutes := by simp [ConsecutiveMinutes, hrs, RS.reset]
  samples := by
    obtain ⟨htaken, hsum⟩ := secondCounted_fresh (re := t.re) (by rw [hre]; rfl) (by rw [hre]; rfl) (by rw [hre]; rfl) (by rw [hre]; rfl)
    exact ⟨htaken, hsum, by simp [hrs, RS.reset]⟩
  seconds := by rw [hrs]; rfl

theorem reset_fresh : Fresh State.reset :=
  fresh_of_reset rfl rfl rfl rfl rfl rfl rfl rfl rfl rfl rfl rfl default_inRange (Nat.zero_le _)

theorem heldReset_fresh (s : State) : Fresh (heldReset s) :=
  fresh_of_reset rfl rfl rfl rfl rfl rfl rfl rfl rfl rfl rfl rfl default_inRange (Nat.zero_le _)

theorem powerUp_fresh (straps : StationId) (memory : Option MemoryRecord) (s : State) : Fresh (powerUp straps memory s) := by
  refine Fresh.move ?_ (startVfe_move _)
  exact fresh_of_reset rfl rfl rfl rfl rfl rfl rfl rfl rfl rfl rfl rfl (readRecord_inRange ..) (readRecord_clampCount ..)

/-- A step leaves a fresh node or is a move. -/
theorem step_move {s t : State} (h : step s = .next t) : Fresh t ∨ ∃ n, Move n s t := by
  rcases step_cases h with ⟨straps, memory, rest, rfl⟩ | ⟨rest, rfl⟩ | hmove | ⟨now, rest, rfl⟩
  · exact .inl (powerUp_fresh ..)
  · exact .inl (heldReset_fresh _)
  · exact .inr ⟨1, hmove⟩
  · exact .inr ⟨now.length, (Move.pending s rest).before (whenOn_move (marksSecond_move ..))⟩

/-! ## O54, O55, O56, O58, O59, O60 -/

theorem length_le_card_of_ordered {es : List PeerEntry} {k : List StationId}
    (h : (es.map (fun e => e.id.toNat)).Pairwise (· < ·)) (hk : ∀ e ∈ es, e.id ∈ k) : es.length ≤ k.length := by
  have hnodup : (es.map (fun e => e.id.toNat)).Nodup := h.imp Nat.ne_of_lt
  have hids : (es.map PeerEntry.id).Nodup := by
    refine List.Nodup.of_map BitVec.toNat ?_
    rwa [List.map_map]
  have hsub : es.map PeerEntry.id ⊆ k := by
    intro i hi
    obtain ⟨e, he, rfl⟩ := List.mem_map.mp hi
    exact hk e he
  simpa using (List.subperm_of_subset hids hsub).length_le

/-- R41: entries in position number at most 15, and at most 14 beside an own id. -/
theorem entries_length_le {t : State} (h : PeersInPosition t) :
    t.pt.entries.length ≤ 15 ∧ (t.sul.stationId ≠ 0 → t.pt.entries.length ≤ 14) := by
  obtain ⟨hordered, hids, -⟩ := h
  refine ⟨?_, fun hown => ?_⟩
  · have hle := length_le_card_of_ordered (k := (List.finRange 16).map BitVec.ofFin |>.filter (· ≠ 0)) hordered fun e he => by
      simpa using (hids e he).1
    exact hle.trans (by decide)
  · have hle := length_le_card_of_ordered
      (k := (List.finRange 16).map BitVec.ofFin |>.filter (fun i => i ≠ 0 ∧ i ≠ t.sul.stationId)) hordered fun e he => by
        simpa using hids e he
    refine hle.trans ?_
    have hall : ∀ own : StationId, own ≠ 0 →
        ((List.finRange 16).map BitVec.ofFin |>.filter (fun i : StationId => i ≠ 0 ∧ i ≠ own)).length ≤ 14 := by decide
    exact hall _ hown

/-- Settles O54. -/
theorem stepKeepsCapacities : Obligations.StepKeepsCapacities := by
  unfold Obligations.StepKeepsCapacities
  refine ⟨fun s t hs h => ?_, fun s t hs h => ?_⟩
  · rcases step_move h with hfresh | ⟨n, hmove⟩
    · exact hfresh.capacity
    · exact hmove.capacity hs
  · have hposition : PeersInPosition t := by
      rcases step_move h with hfresh | ⟨n, hmove⟩
      · exact hfresh.position
      · exact hmove.position hs
    exact ⟨hposition, entries_length_le hposition⟩

/-- Settles O55. -/
theorem stepKeepsClockRanges : Obligations.StepKeepsClockRanges := by
  intro s t hs h
  rcases step_move h with hfresh | ⟨n, hmove⟩
  · exact hfresh.clock
  · exact hmove.clock hs

/-- Settles O56: a record joins the ring with the next sequence, and of a second the ring does not hold. -/
theorem stepKeepsRings : Obligations.StepKeepsRings := by
  intro s t ⟨hseconds, hminutes⟩ hdistinct h
  rcases step_move h with hfresh | ⟨n, hmove⟩
  · exact ⟨⟨by simp [hfresh.seconds], hfresh.minutes⟩, hfresh.distinct⟩
  · exact ⟨⟨hmove.adds.consecutive hseconds, hmove.minutes hminutes⟩, hmove.distinct hdistinct⟩

/-- Settles O58. -/
theorem stepKeepsSampleCounts : Obligations.StepKeepsSampleCounts := by
  intro s t hs h
  rcases step_move h with hfresh | ⟨n, hmove⟩
  · exact hfresh.samples
  · exact hmove.samples hs

/-- Settles O59. -/
theorem stepKeepsOrderAndRanges : Obligations.StepKeepsOrderAndRanges := by
  intro s t hordered hslots hsettings hcounters h
  rcases step_move h with hfresh | ⟨n, hmove⟩
  · exact ⟨hfresh.position.1, hfresh.slots, hfresh.settings, hfresh.counters⟩
  · exact ⟨hmove.ordered hordered, hmove.slots hslots, hmove.settings hsettings, hmove.counters hcounters⟩

/-- Settles O60. -/
theorem resetMeetsInvariants : Obligations.ResetMeetsInvariants := by
  have h := reset_fresh
  exact ⟨h.capacity, h.clock, ⟨.nil, .nil⟩, h.distinct, h.samples, h.position.1, h.position, h.image, h.slots, h.settings, h.counters⟩

end Sys2Proof.Machine
end

section
/-! PROOF. A FINAL record stays FINAL (O57). A step that lets one record join gives it a sequence the ring does not hold. SECOND_MARK can
let RE take many notices, and with enough of them the sequences come round; but a record that then joins is FINAL at once, unless an
axis chain before it is in progress, and of those the chain list holds only 12. -/

namespace Sys2Proof.Machine

/-! ## Sequences that a ring does not hold -/

theorem isChain_getElem {l : List Sequence} (h : l.IsChain (fun a b => b = a + 1)) (i : Nat) (hi : i < l.length) :
    l[i] = l[0] + BitVec.ofNat 32 i := by
  induction i with
  | zero => simp
  | succ i ih =>
    have hstep := List.isChain_iff_getElem.mp h i hi
    rw [hstep, ih (by omega), BitVec.add_assoc]
    exact congrArg (l[0] + ·) (BitVec.ofNat_add i 1).symm

/-- In a ring within its capacity no two records share a sequence. -/
theorem eq_of_sequence_eq {xs : List SecondRecord} (h : ConsecutiveRecords xs) (hlen : xs.length ≤ 1024) {i j : Nat}
    (hi : i < xs.length) (hj : j < xs.length) (heq : xs[i].sequence = xs[j].sequence) : i = j := by
  have hseq := fun k hk => isChain_getElem h k ((List.length_map _).symm ▸ hk)
  simp only [List.getElem_map] at hseq
  rw [hseq i hi, hseq j hj, BitVec.add_right_inj] at heq
  have := congrArg BitVec.toNat heq
  simp only [BitVec.toNat_ofNat] at this
  omega

/-- The next sequences of a ring within its capacity, short of a whole round, are new to it. -/
theorem nextOf_add_notMem {xs : List SecondRecord} (h : ConsecutiveRecords xs) (hlen : xs.length ≤ 1024) {n : Nat}
    (hn : n ≤ 4096) : ∀ r ∈ xs, r.sequence ≠ nextOf xs + BitVec.ofNat 32 n := by
  intro r hr heq
  obtain ⟨i, hi, rfl⟩ := List.mem_iff_getElem.mp hr
  have hseq := fun k hk => isChain_getElem h k ((List.length_map _).symm ▸ hk)
  simp only [List.getElem_map] at hseq
  have hnext : nextOf xs = xs[xs.length - 1].sequence + 1 := by
    unfold nextOf
    rw [List.getLast?_eq_getElem?, List.getElem?_eq_getElem (by omega)]
    rfl
  rw [hnext, hseq i hi, hseq (xs.length - 1) (by omega), BitVec.add_assoc, BitVec.add_assoc, BitVec.add_right_inj] at heq
  have hone : (1 : Sequence).toNat = 1 := rfl
  have := congrArg BitVec.toNat heq
  simp only [BitVec.toNat_ofNat, BitVec.toNat_add, hone] at this
  omega

/-! ## Sequences whose records stand FINAL -/

/-- Every record of the sequences `F` is FINAL. -/
def FinalOn (F : Sequence → Prop) (xs : List SecondRecord) : Prop :=
  ∀ u ∈ xs, F u.sequence → u.final = true

/-- The sequences of the FINAL records. -/
def finalSequences (xs : List SecondRecord) (q : Sequence) : Prop :=
  ∃ r ∈ xs, r.final = true ∧ r.sequence = q

theorem finalOn_self {xs : List SecondRecord} (h : ConsecutiveRecords xs) (hlen : xs.length ≤ 1024) :
    FinalOn (finalSequences xs) xs := by
  rintro u hu ⟨r, hr, hfinal, hseq⟩
  obtain ⟨i, hi, rfl⟩ := List.mem_iff_getElem.mp hu
  obtain ⟨j, hj, rfl⟩ := List.mem_iff_getElem.mp hr
  obtain rfl := eq_of_sequence_eq h hlen hj hi hseq
  exact hfinal

theorem FinalOn.same {F : Sequence → Prop} {xs ys : List SecondRecord} (h : FinalOn F xs) (hs : SameRecords xs ys) :
    FinalOn F ys := by
  intro u hu hF
  obtain ⟨r, hr, hru⟩ := hs.mem hu
  exact hru.final (h r hr (hru.sequence ▸ hF))

theorem mem_push {r u : SecondRecord} {xs : List SecondRecord} (h : u ∈ pushRecord r xs) : u ∈ xs ∨ u = r := by
  unfold pushRecord at h
  rcases List.mem_append.mp h with h | h
  · split at h
    · exact .inl (List.mem_of_mem_drop h)
    · exact .inl h
  · exact .inr (List.mem_singleton.mp h)

theorem FinalOn.push {F : Sequence → Prop} {xs : List SecondRecord} {r : SecondRecord} (h : FinalOn F xs)
    (hr : ¬ F r.sequence) : FinalOn F (pushRecord r xs) := by
  intro u hu hF
  rcases mem_push hu with hu | rfl
  · exact h u hu hF
  · exact absurd hF hr

/-- A record that joins may leave its own sequence open until it is finalized. -/
theorem FinalOn.pushExcept {F : Sequence → Prop} {xs : List SecondRecord} (h : FinalOn F xs) (r : SecondRecord) :
    FinalOn (fun q => F q ∧ q ≠ r.sequence) (pushRecord r xs) := by
  rintro u hu ⟨hF, hne⟩
  rcases mem_push hu with hu | rfl
  · exact h u hu hF
  · exact absurd rfl hne

theorem FinalOn.finalize {F : Sequence → Prop} {s : State} {q : Sequence} (h : FinalOn (fun p => F p ∧ p ≠ q) s.rs.seconds)
    (n : Second) (mag f df : Option Int) (reason : DeltaFReason) :
    FinalOn F (finalize q n mag f df reason s).rs.seconds := by
  have hlater : Move 0 (s.setRs (writeRecord q (finalRecord mag f df reason) s.rs)) (Machine.finalize q n mag f df reason s) :=
    (watchDeltaF_move ..).trans (testHead_move _)
  refine FinalOn.same ?_ hlater.adds.sameRecords
  intro u hu hF
  obtain ⟨r, hr, rfl⟩ := List.mem_map.mp hu
  split
  · rfl
  next hne =>
    rw [if_neg hne] at hF
    exact h r hr ⟨hF, hne⟩

theorem FinalOn.kept {s t : State} (h : FinalOn (finalSequences s.rs.seconds) t.rs.seconds) : FinalKept s t :=
  fun r hr hfinal u hu heq => h u hu ⟨r, hr, hfinal, heq.symm⟩

/-- A step that lets at most one record join keeps the FINAL records FINAL. -/
theorem finalKept_of_adds {s t : State} (h : Adds 1 s.rs.seconds t.rs.seconds) (hcap : WithinCapacity s)
    (hseq : SequencesConsecutive s) : FinalKept s t := by
  obtain ⟨-, hlen, -⟩ := hcap
  have hself := finalOn_self hseq.1 hlen
  refine FinalOn.kept ?_
  cases h with
  | same hs => exact hself.same hs
  | next r hr hrest =>
    refine (hself.push ?_).same hrest.sameRecords
    rintro ⟨u, hu, -, hus⟩
    refine nextOf_add_notMem hseq.1 hlen (Nat.zero_le _) u hu ?_
    rw [hus, hr]
    exact (BitVec.add_zero _).symm

/-! ## Where an axis stands in the chain list -/

/-- The steps of one axis along the chain list. -/
def stepsOf (a : Axis) (cs : List ChainRecord) : List ChainStep :=
  cs.map (fun c => axisGet c.steps a)

/-- The first chain an axis has not ended is in progress: the axis moves on only with a result (R138). -/
def InProgressFirst : List ChainStep → Prop
  | [] => False
  | .ended :: l => InProgressFirst l
  | .waiting :: _ => False
  | _ :: _ => True

/-- An axis has ended its chains or is within one. -/
def AtRest : List ChainStep → Prop
  | [] => True
  | .ended :: l => AtRest l
  | .waiting :: _ => False
  | _ :: _ => True

theorem AtRest.inProgress {l : List ChainStep} (h : AtRest l) (hne : ∃ x ∈ l, x ≠ .ended) : InProgressFirst l := by
  induction l with
  | nil => simp at hne
  | cons x l ih =>
    cases x with
    | ended => exact ih h (by simpa using hne)
    | waiting => exact h.elim
    | mean => trivial
    | scale m => trivial
    | offset m sc => trivial

theorem InProgressFirst.append {l : List ChainStep} (h : InProgressFirst l) (m : List ChainStep) : InProgressFirst (l ++ m) := by
  induction l with
  | nil => exact h.elim
  | cons x l ih =>
    cases x with
    | ended => exact ih h
    | waiting => exact h.elim
    | mean => trivial
    | scale m => trivial
    | offset m sc => trivial

/-- An axis within a chain does not move on (R138). -/
theorem startAxisList_inProgress {a : Axis} {cs : List ChainRecord} (h : InProgressFirst (stepsOf a cs)) :
    (startAxisList a cs).1 = cs := by
  induction cs with
  | nil => rfl
  | cons c cs ih =>
    unfold stepsOf at h
    rw [List.map_cons] at h
    unfold startAxisList
    cases hc : axisGet c.steps a with
    | ended =>
      rw [hc] at h
      simp [ih h]
    | waiting =>
      rw [hc] at h
      exact h.elim
    | mean => rfl
    | scale m => rfl
    | offset m sc => rfl

theorem startAxisList_atRest (a : Axis) (cs : List ChainRecord) : AtRest (stepsOf a (startAxisList a cs).1) := by
  induction cs with
  | nil => trivial
  | cons c cs ih =>
    unfold startAxisList
    cases hc : axisGet c.steps a with
    | ended => simpa [stepsOf, hc, AtRest] using ih
    | waiting =>
      dsimp only
      split
      · simpa [stepsOf, axisGet_axisSet, AtRest] using ih
      · simp [stepsOf, axisGet_axisSet, AtRest]
    | mean => simp [stepsOf, hc, AtRest]
    | scale m => simp [stepsOf, hc, AtRest]
    | offset m sc => simp [stepsOf, hc, AtRest]

theorem startAxisList_other {a b : Axis} (hab : a ≠ b) (cs : List ChainRecord) :
    stepsOf a (startAxisList b cs).1 = stepsOf a cs := by
  induction cs with
  | nil => rfl
  | cons c cs ih =>
    unfold stepsOf at *
    unfold startAxisList
    split
    · simp [ih]
    · split
      · simp [ih, axisGet_axisSet, hab]
      · simp [axisGet_axisSet, hab]
    all_goals rfl

theorem startAxisList_keepsRest {a : Axis} {cs : List ChainRecord} (b : Axis) (h : AtRest (stepsOf a cs)) :
    AtRest (stepsOf a (startAxisList b cs).1) := by
  by_cases hab : a = b
  · subst hab
    exact startAxisList_atRest a cs
  · rwa [startAxisList_other hab]

/-- The chain list after the axes have moved on in an order. -/
def startAxesList (l : List Axis) (cs : List ChainRecord) : List ChainRecord :=
  l.foldl (fun cs a => (startAxisList a cs).1) cs

theorem startAxesList_length (l : List Axis) (cs : List ChainRecord) : (startAxesList l cs).length = cs.length := by
  unfold startAxesList
  induction l generalizing cs with
  | nil => rfl
  | cons a l ih => rw [List.foldl_cons, ih, startAxisList_length]

theorem startAxesList_keepsRest {a : Axis} (l : List Axis) {cs : List ChainRecord} (h : AtRest (stepsOf a cs)) :
    AtRest (stepsOf a (startAxesList l cs)) := by
  unfold startAxesList
  induction l generalizing cs with
  | nil => exact h
  | cons b l ih => exact ih (startAxisList_keepsRest b h)

theorem startAxesList_atRest {a : Axis} {l : List Axis} (ha : a ∈ l) (cs : List ChainRecord) :
    AtRest (stepsOf a (startAxesList l cs)) := by
  induction l generalizing cs with
  | nil => cases ha
  | cons b l ih =>
    rcases List.mem_cons.mp ha with rfl | ha
    · exact startAxesList_keepsRest l (startAxisList_atRest a cs)
    · exact ih ha _

theorem startAxesList_inProgress {a : Axis} (l : List Axis) {cs : List ChainRecord} (h : InProgressFirst (stepsOf a cs)) :
    stepsOf a (startAxesList l cs) = stepsOf a cs := by
  unfold startAxesList
  induction l generalizing cs with
  | nil => rfl
  | cons b l ih =>
    have hb : stepsOf a (startAxisList b cs).1 = stepsOf a cs := by
      by_cases hab : a = b
      · subst hab
        rw [startAxisList_inProgress h]
      · exact startAxisList_other hab cs
    rw [List.foldl_cons, ih (hb ▸ h), hb]

theorem mem_axisOrderList (a : Axis) (o : AxisOrder) : a ∈ axisOrderList o := by
  cases a <;> cases o <;> decide

theorem chainsEnded_false {c : ChainRecord} : chainsEnded c = false ↔ ∃ a, axisGet c.steps a ≠ .ended := by
  constructor
  · intro h
    by_contra hall
    push Not at hall
    simp [chainsEnded, allAxes, hall] at h
  · rintro ⟨a, ha⟩
    cases a <;> simp_all [chainsEnded, allAxes]

/-- A chain list in which nothing moves on without a result: each axis rests, and no record has ended all its chains. -/
structure RestChain (cs : List ChainRecord) : Prop where
  rest : ∀ a, AtRest (stepsOf a cs)
  unended : ∀ c ∈ cs, chainsEnded c = false

/-- A record some of whose axes wait on a chain in progress still waits after the axes have moved on. -/
theorem startAxesList_unended {l : List Axis} {cs : List ChainRecord}
    (h : ∀ c ∈ cs, ∃ a, axisGet c.steps a ≠ .ended ∧ InProgressFirst (stepsOf a cs)) :
    ∀ c ∈ startAxesList l cs, chainsEnded c = false := by
  intro c hc
  obtain ⟨i, hi, rfl⟩ := List.mem_iff_getElem.mp hc
  have hi' : i < cs.length := startAxesList_length l cs ▸ hi
  obtain ⟨a, hne, hprogress⟩ := h cs[i] (List.getElem_mem hi')
  refine chainsEnded_false.mpr ⟨a, ?_⟩
  have hsteps := startAxesList_inProgress l hprogress
  have hget : (stepsOf a (startAxesList l cs))[i]'(by simpa [stepsOf] using hi) = (stepsOf a cs)[i]'(by simpa [stepsOf] using hi') := by
    simp only [hsteps]
  simp only [stepsOf, List.getElem_map] at hget
  rwa [hget]

theorem RestChain.unended_append {cs : List ChainRecord} (h : RestChain cs) {tail : List ChainRecord}
    (htail : ∀ c ∈ tail, cs ≠ [] ∧ ∀ a, axisGet c.steps a ≠ .ended) :
    ∀ c ∈ cs ++ tail, ∃ a, axisGet c.steps a ≠ .ended ∧ InProgressFirst (stepsOf a (cs ++ tail)) := by
  have hprogress : ∀ d ∈ cs, ∃ a, axisGet d.steps a ≠ .ended ∧ InProgressFirst (stepsOf a (cs ++ tail)) := by
    intro d hd
    obtain ⟨a, ha⟩ := chainsEnded_false.mp (h.unended d hd)
    refine ⟨a, ha, ?_⟩
    unfold stepsOf
    rw [List.map_append]
    exact ((h.rest a).inProgress ⟨_, List.mem_map_of_mem hd, ha⟩).append _
  intro c hc
  rcases List.mem_append.mp hc with hc | hc
  · exact hprogress c hc
  · obtain ⟨hne, hwaits⟩ := htail c hc
    obtain ⟨d, hd⟩ := List.exists_mem_of_ne_nil cs hne
    obtain ⟨a, -, ha⟩ := hprogress d hd
    exact ⟨a, hwaits a, ha⟩

/-! ## The chain list when the second changes -/

theorem dueReports_steps (cs : List ChainRecord) : (dueReports cs).1.map ChainRecord.steps = cs.map ChainRecord.steps := by
  induction cs with
  | nil => rfl
  | cons c cs ih =>
    unfold dueReports
    repeat' split
    all_goals simp [ih]

theorem filter_unended {cs : List ChainRecord} (h : ∀ c ∈ cs, chainsEnded c = false) :
    ((dueReports cs).1.filter (fun c => !chainsEnded c)).length = cs.length := by
  have hall : ∀ c ∈ (dueReports cs).1, chainsEnded c = false := by
    intro c hc
    have hmem : c.steps ∈ cs.map ChainRecord.steps := dueReports_steps cs ▸ List.mem_map_of_mem hc
    obtain ⟨d, hd, hsteps⟩ := List.mem_map.mp hmem
    rw [← h d hd]
    unfold chainsEnded
    rw [hsteps]
  rw [List.filter_eq_self.mpr (by simpa using hall), dueReports_length]

theorem AtRest.filter {a : Axis} {p : ChainRecord → Bool} {cs : List ChainRecord} (h : AtRest (stepsOf a cs))
    (hp : ∀ c, p c = false → axisGet c.steps a = .ended) : AtRest (stepsOf a (cs.filter p)) := by
  induction cs with
  | nil => trivial
  | cons c cs ih =>
    unfold stepsOf at *
    rw [List.map_cons] at h
    rw [List.filter_cons]
    split
    · rw [List.map_cons]
      cases hc : axisGet c.steps a with
      | ended => exact ih (by rwa [hc] at h)
      | waiting =>
        rw [hc] at h
        exact h.elim
      | mean => trivial
      | scale m => trivial
      | offset m sc => trivial
    next hpc =>
      rw [hp c (by simpa using hpc)] at h
      exact ih h

/-- The chain list after a second has changed: the axes have moved on in turn, and the records that ended have left (R138, R142). -/
def settledList (o : AxisOrder) (cs : List ChainRecord) : List ChainRecord :=
  (dueReports (startAxesList (axisOrderList o) cs)).1.filter (fun c => !chainsEnded c)

theorem settledList_rest (o : AxisOrder) (cs : List ChainRecord) : RestChain (settledList o cs) where
  rest a := by
    refine AtRest.filter ?_ fun c hc => ?_
    · have hsteps : stepsOf a (dueReports (startAxesList (axisOrderList o) cs)).1
          = stepsOf a (startAxesList (axisOrderList o) cs) := by
        have := congrArg (List.map (fun v => axisGet v a)) (dueReports_steps (startAxesList (axisOrderList o) cs))
        simpa [stepsOf, Function.comp_def] using this
      rw [hsteps]
      exact startAxesList_atRest (mem_axisOrderList a o) cs
    · have hended : chainsEnded c = true := by simpa using hc
      cases a <;> simp_all [chainsEnded, allAxes]
  unended c hc := by simpa using (List.mem_filter.mp hc).2

theorem settledList_length {o : AxisOrder} {cs : List ChainRecord}
    (h : ∀ c ∈ cs, ∃ a, axisGet c.steps a ≠ .ended ∧ InProgressFirst (stepsOf a cs)) : (settledList o cs).length = cs.length :=
  (filter_unended (startAxesList_unended h)).trans (startAxesList_length ..)

/-- What leaves RE's chain list and counts as they stand. -/
def SameChains (s t : State) : Prop :=
  t.re.chain = s.re.chain ∧ t.re.n = s.re.n

theorem evaluateReport_chains (r : ResidualReport) (s : State) : SameChains s (evaluateReport r s) := by
  have hretune : ∀ im v, SameChains s (performRetune im v r s) := by
    intro im v
    unfold performRetune settingsNotice
    dsimp only
    split <;> exact ⟨rfl, rfl⟩
  unfold evaluateReport
  dsimp only
  split
  · exact ⟨rfl, rfl⟩
  · generalize ((_ && _ || _ || _) && _ : Bool) = b
    cases b
    · exact ⟨rfl, rfl⟩
    · exact hretune ..
  · exact ⟨rfl, rfl⟩

theorem SameChains.foldl {α : Type} {f : State → α → State} (h : ∀ s a, SameChains s (f s a)) (l : List α) (s : State) :
    SameChains s (l.foldl f s) := by
  induction l generalizing s with
  | nil => exact ⟨rfl, rfl⟩
  | cons a l ih =>
    obtain ⟨hchain, hn⟩ := h s a
    obtain ⟨hchain', hn'⟩ := ih (f s a)
    exact ⟨hchain'.trans hchain, hn'.trans hn⟩

theorem chainsEndedNotice_chains (c : ChainRecord) (s : State) : SameChains s (chainsEndedNotice c s) := by
  simp [SameChains, chainsEndedNotice]

theorem refusedNotice_chains (c : Option ChainRecord) (s : State) : SameChains s (refusedNotice c s) := by
  cases c with
  | none => exact ⟨rfl, rfl⟩
  | some c =>
    obtain ⟨hchain, hn⟩ := evaluateReport_chains (reportOf c) s
    obtain ⟨hchain', hn'⟩ := chainsEndedNotice_chains c (evaluateReport (reportOf c) s)
    exact ⟨hchain'.trans hchain, hn'.trans hn⟩

theorem settleChains_chain (s : State) : (settleChains s).re.chain = (dueReports s.re.chain).1.filter (fun c => !chainsEnded c)
    ∧ (settleChains s).re.n = s.re.n := by
  obtain ⟨hreports, hn⟩ := SameChains.foldl (fun s c => evaluateReport_chains (reportOf c) s) (dueReports s.re.chain).2
    (s.setRe { s.re with chain := (dueReports s.re.chain).1 })
  have hended := SameChains.foldl (fun s c => chainsEndedNotice_chains c s) ((giveReports s).re.chain.filter chainsEnded)
    ((giveReports s).setRe { (giveReports s).re with chain := (giveReports s).re.chain.filter (fun c => !chainsEnded c) })
  obtain ⟨hchain, hn'⟩ := hended
  have hgiven : (giveReports s).re.chain = (dueReports s.re.chain).1 := hreports
  refine ⟨hchain.trans ?_, hn'.trans hn⟩
  rw [State.setRe_re, hgiven]

theorem startAxis_chain (a : Axis) (s : State) : (startAxis a s).re.chain = (startAxisList a s.re.chain).1
    ∧ (startAxis a s).re.n = s.re.n := by
  unfold startAxis
  dsimp only
  split <;> simp

theorem startAxes_chain (l : List Axis) (s : State) :
    (l.foldl (fun s a => startAxis a s) s).re.chain = startAxesList l s.re.chain
      ∧ (l.foldl (fun s a => startAxis a s) s).re.n = s.re.n := by
  unfold startAxesList
  induction l generalizing s with
  | nil => exact ⟨rfl, rfl⟩
  | cons a l ih =>
    obtain ⟨hchain, hn⟩ := startAxis_chain a s
    obtain ⟨hchain', hn'⟩ := ih (startAxis a s)
    rw [hchain] at hchain'
    exact ⟨hchain', hn'.trans hn⟩

theorem changeSecond_chain (q : Second) (ep : Epoch) (fl : StickyFlags) (s : State) :
    (∃ o, (changeSecond q ep fl s).re.chain = settledList o (leaveSecond s).1.re.chain)
      ∧ (changeSecond q ep fl s).re.n = ⟨0, 0, 0⟩ := by
  obtain ⟨hrefused, hn⟩ := refusedNotice_chains (leaveSecond s).2 (openSecond q ep fl (leaveSecond s).1)
  have hstart := startAxes_chain
    (axisOrderList (refusedNotice (leaveSecond s).2 (openSecond q ep fl (leaveSecond s).1)).ties.axisOrder)
    (refusedNotice (leaveSecond s).2 (openSecond q ep fl (leaveSecond s).1))
  have hsettle := settleChains_chain ((axisOrderList (refusedNotice (leaveSecond s).2 (openSecond q ep fl
    (leaveSecond s).1)).ties.axisOrder).foldl (fun s a => startAxis a s)
    (refusedNotice (leaveSecond s).2 (openSecond q ep fl (leaveSecond s).1)))
  rw [hstart.1, hrefused] at hsettle
  exact ⟨⟨_, hsettle.1⟩, hsettle.2.trans (hstart.2.trans hn)⟩

/-! ## A second closes -/

/-- A chain record as it enters the chain list (R138). -/
structure NewChain (c : ChainRecord) : Prop where
  waits : c.steps = ⟨.waiting, .waiting, .waiting⟩
  noValues : c.values = ⟨none, none, none⟩
  unreported : c.reported = false

/-- What `closeSecond` does to the ring and to the chain list, which refuses a thirteenth record (R133). -/
theorem closeSecond_cases (s : State) : ∃ (r : SecondRecord) (re : RE) (back : Option ChainRecord) (c : ChainRecord),
    closeSecond s = (enterRecord r (s.setRe re), back) ∧ r.sequence = nextOf s.rs.seconds ∧ c.sequence = r.sequence
      ∧ c.values = ⟨none, none, none⟩ ∧ c.n = s.re.n
      ∧ (12 ≤ s.re.chain.length ∧ re.chain = s.re.chain ∧ back = some c
        ∨ s.re.chain.length < 12 ∧ re.chain = s.re.chain ++ [c] ∧ back = none ∧ NewChain c) := by
  unfold closeSecond
  dsimp only
  split
  next hfull => exact ⟨_, _, _, _, rfl, rfl, rfl, rfl, rfl, .inl ⟨hfull, rfl, rfl⟩⟩
  next hroom => exact ⟨_, _, _, _, rfl, rfl, rfl, rfl, rfl, .inr ⟨by omega, rfl, rfl, rfl, rfl, rfl⟩⟩

theorem closeSecond_seconds {s : State} {r : SecondRecord} {re : RE} {back : Option ChainRecord}
    (h : closeSecond s = (enterRecord r (s.setRe re), back)) :
    SameRecords (pushRecord r s.rs.seconds) (closeSecond s).1.rs.seconds := by
  rw [h]
  exact enterRecord_same r (s.setRe re)

/-- What follows once the second has been left lets no record join. -/
theorem changeSecond_same (q : Second) (ep : Epoch) (fl : StickyFlags) (s : State) :
    SameRecords (leaveSecond s).1.rs.seconds (changeSecond q ep fl s).rs.seconds := by
  have hlater : Move 0 (openSecond q ep fl (leaveSecond s).1) (changeSecond q ep fl s) :=
    (refusedNotice_move ..).trans ((Move.foldl (fun _ _ => startAxis_move ..) _ _).trans (settleChains_move _))
  exact hlater.adds.sameRecords

/-- A record whose chains end with no value is FINAL at once (R150). -/
theorem FinalOn.endedNotice {F : Sequence → Prop} {c : ChainRecord} {s : State}
    (h : FinalOn (fun q => F q ∧ q ≠ c.sequence) s.rs.seconds) (hv : c.values = ⟨none, none, none⟩) :
    FinalOn F (chainsEndedNotice c s).rs.seconds := by
  unfold chainsEndedNotice
  dsimp only
  refine FinalOn.same ?_ (watchRecord_move ..).adds.sameRecords
  rw [hv]
  exact FinalOn.finalize (s := s.setRe { s.re with summary := newerSummary c s.re.summary }) h c.second none none none .noVector

/-- With the chain list full the record is refused a chain and is FINAL at once (R133). -/
theorem FinalOn.changeSecond_full {F : Sequence → Prop} {s : State} (h : FinalOn F s.rs.seconds) (hopen : s.re.isOpen = true)
    (hfull : 12 ≤ s.re.chain.length) (q : Second) (ep : Epoch) (fl : StickyFlags) :
    FinalOn F (changeSecond q ep fl s).rs.seconds := by
  obtain ⟨r, re, back, c, heq, -, hseq, hvalues, -, hchain⟩ := closeSecond_cases s
  obtain ⟨-, -, rfl⟩ : 12 ≤ s.re.chain.length ∧ re.chain = s.re.chain ∧ back = some c := by
    rcases hchain with hchain | ⟨hroom, -⟩
    · exact hchain
    · omega
  have hleft : leaveSecond s = (enterRecord r (s.setRe re), some c) := by
    rw [leaveSecond, if_pos hopen, heq]
  have hpushed : FinalOn (fun p => F p ∧ p ≠ c.sequence) (leaveSecond s).1.rs.seconds := by
    rw [hseq, hleft]
    exact (h.pushExcept r).same (enterRecord_same r (s.setRe re))
  have hrefused : FinalOn F (refusedNotice (leaveSecond s).2 (openSecond q ep fl (leaveSecond s).1)).rs.seconds := by
    rw [hleft] at hpushed ⊢
    exact FinalOn.endedNotice (hpushed.same (evaluateReport_move (reportOf c) (openSecond q ep fl _)).adds.sameRecords) hvalues
  refine hrefused.same ?_
  have hlater := (Move.foldl (fun s a => startAxis_move a s) (axisOrderList (refusedNotice (leaveSecond s).2
    (openSecond q ep fl (leaveSecond s).1)).ties.axisOrder) (refusedNotice (leaveSecond s).2
      (openSecond q ep fl (leaveSecond s).1))).trans (m := 0) (settleChains_move _)
  exact hlater.adds.sameRecords

/-- A record without samples that enters an empty chain list ends its chains at once (R138). -/
theorem startAxesList_single {c : ChainRecord} (hc : NewChain c) (hn : c.n = ⟨0, 0, 0⟩) (o : AxisOrder) :
    startAxesList (axisOrderList o) [c] = [{ c with steps := ⟨.ended, .ended, .ended⟩ }] := by
  obtain ⟨hwaits, -, -⟩ := hc
  cases o <;> simp [startAxesList, axisOrderList, startAxisList, hwaits, hn, axisGet, axisSet]

theorem dueReports_single {c : ChainRecord} (hc : c.reported = false) :
    (dueReports [{ c with steps := ⟨.ended, .ended, .ended⟩ }]).1
      = [{ c with steps := ⟨.ended, .ended, .ended⟩, reported := true }] := by
  simp [dueReports, hc, firstStepEnded, allAxes, axisGet]

theorem settledList_single {c : ChainRecord} (hc : NewChain c) (hn : c.n = ⟨0, 0, 0⟩) (o : AxisOrder) :
    settledList o [c] = [] := by
  simp [settledList, startAxesList_single hc hn, dueReports_single hc.unreported, chainsEnded, allAxes, axisGet]

theorem FinalOn.settleSingle {F : Sequence → Prop} {c : ChainRecord} {s : State} (hc : NewChain c)
    (hchain : s.re.chain = [{ c with steps := ⟨.ended, .ended, .ended⟩ }])
    (h : FinalOn (fun q => F q ∧ q ≠ c.sequence) s.rs.seconds) : FinalOn F (settleChains s).rs.seconds := by
  have hgiven : (giveReports s).re.chain = [{ c with steps := ⟨.ended, .ended, .ended⟩, reported := true }] := by
    obtain ⟨hreports, -⟩ := SameChains.foldl (fun s c => evaluateReport_chains (reportOf c) s) (dueReports s.re.chain).2
      (s.setRe { s.re with chain := (dueReports s.re.chain).1 })
    have hgiven : (giveReports s).re.chain = (dueReports s.re.chain).1 := hreports
    rw [hgiven, hchain, dueReports_single hc.unreported]
  have hends : chainsEnded { c with steps := ⟨.ended, .ended, .ended⟩, reported := true } = true := by
    simp [chainsEnded, allAxes, axisGet]
  unfold settleChains endChains
  dsimp only
  rw [hgiven, List.filter_singleton, hends]
  exact FinalOn.endedNotice (h.same (giveReports_move s).adds.sameRecords) hc.noValues

/-- With the chain list empty a record without samples is FINAL at once. -/
theorem FinalOn.changeSecond_empty {F : Sequence → Prop} {s : State} (h : FinalOn F s.rs.seconds) (hopen : s.re.isOpen = true)
    (hempty : s.re.chain = []) (hn : s.re.n = ⟨0, 0, 0⟩) (q : Second) (ep : Epoch) (fl : StickyFlags) :
    FinalOn F (changeSecond q ep fl s).rs.seconds := by
  obtain ⟨r, re, back, c, heq, -, hseq, -, hcn, hchain⟩ := closeSecond_cases s
  obtain ⟨hre, rfl, hnew⟩ : re.chain = [c] ∧ back = none ∧ NewChain c := by
    simpa [hempty] using hchain
  have hleft : leaveSecond s = (enterRecord r (s.setRe re), none) := by
    rw [leaveSecond, if_pos hopen, heq]
  have hpushed : FinalOn (fun p => F p ∧ p ≠ c.sequence) (enterRecord r (s.setRe re)).rs.seconds := by
    rw [hseq]
    exact (h.pushExcept r).same (enterRecord_same r (s.setRe re))
  unfold changeSecond
  rw [hleft]
  dsimp only [refusedNotice]
  refine FinalOn.settleSingle hnew ?_ (hpushed.same ?_)
  · rw [(startAxes_chain ..).1]
    have hopened : (openSecond q ep fl (enterRecord r (s.setRe re))).re.chain = [c] := by simp [openSecond, hre]
    rw [hopened, startAxesList_single hnew (hcn.trans hn)]
  · have hlater := Move.foldl (fun s a => startAxis_move a s)
      (axisOrderList (openSecond q ep fl (enterRecord r (s.setRe re))).ties.axisOrder)
      (openSecond q ep fl (enterRecord r (s.setRe re)))
    exact hlater.adds.sameRecords

/-! ## Several marks in one step -/

/-- What the marks RE takes in one step have made of the ring `xs` so far: `n` records have joined. After the first of them the chain
list holds no record that could be written to beyond the twelve it can hold. -/
structure MarksTaken (xs : List SecondRecord) (n : Nat) (s : State) : Prop where
  final : FinalOn (finalSequences xs) s.rs.seconds
  next : nextOf s.rs.seconds = nextOf xs + BitVec.ofNat 32 n
  chains : n = 0 ∨ RestChain s.re.chain ∧ s.re.n = ⟨0, 0, 0⟩
    ∧ (s.re.chain = [] ∨ n ≤ s.re.chain.length ∨ 12 ≤ s.re.chain.length)

theorem MarksTaken.same {xs : List SecondRecord} {n : Nat} {s t : State} (h : MarksTaken xs n s)
    (hs : SameRecords s.rs.seconds t.rs.seconds) (hchain : SameChains s t) : MarksTaken xs n t where
  final := h.final.same hs
  next := hs.nextOf.trans h.next
  chains := by
    rw [hchain.1, hchain.2]
    exact h.chains

theorem nextOf_push (r : SecondRecord) (xs : List SecondRecord) : nextOf (pushRecord r xs) = r.sequence + 1 := by
  simp [nextOf, pushRecord, nextSequence]

/-- The chain list while marks of one step are taken: after the first, the record that joins the ring keeps its place in it. -/
theorem settledList_grows {n : Nat} {s : State} (h : n = 0 ∨ RestChain s.re.chain ∧ s.re.n = ⟨0, 0, 0⟩
      ∧ (s.re.chain = [] ∨ n ≤ s.re.chain.length ∨ 12 ≤ s.re.chain.length)) {c : ChainRecord} {cs : List ChainRecord}
    (hcn : c.n = s.re.n) (hcs : 12 ≤ s.re.chain.length ∧ cs = s.re.chain ∨ cs = s.re.chain ++ [c] ∧ NewChain c) (o : AxisOrder) :
    settledList o cs = [] ∨ n + 1 ≤ (settledList o cs).length ∨ 12 ≤ (settledList o cs).length := by
  rcases h with rfl | ⟨hrests, hzero, hlength⟩
  · rcases List.eq_nil_or_concat (settledList o cs) with hnil | ⟨l, d, hconcat⟩
    · exact .inl hnil
    · exact .inr (.inl (by simp [hconcat]))
  rcases hcs with ⟨hfull, rfl⟩ | ⟨rfl, hnew⟩
  · have hkept : (settledList o s.re.chain).length = s.re.chain.length :=
      settledList_length (by simpa using hrests.unended_append (tail := []) (by simp))
    exact .inr (.inr (hkept ▸ hfull))
  · by_cases hempty : s.re.chain = []
    · left
      rw [hempty]
      exact settledList_single hnew (hcn.trans hzero) o
    · have hwaits : ∀ a, axisGet c.steps a ≠ .ended := fun a => by
        rw [hnew.waits]
        cases a <;> simp [axisGet]
      have hkept : (settledList o (s.re.chain ++ [c])).length = (s.re.chain ++ [c]).length :=
        settledList_length (hrests.unended_append (by simpa using ⟨hempty, hwaits⟩))
      rw [List.length_append, List.length_singleton] at hkept
      have := hlength.resolve_left hempty
      omega

theorem MarksTaken.closeSecond {xs : List SecondRecord} {n : Nat} {s : State} (h : MarksTaken xs n s)
    (hseq : ConsecutiveRecords xs) (hlen : xs.length ≤ 1024) (hopen : s.re.isOpen = true) (q : Second) (ep : Epoch)
    (fl : StickyFlags) : MarksTaken xs (n + 1) (changeSecond q ep fl s) := by
  obtain ⟨⟨o, hsettled⟩, hn⟩ := changeSecond_chain q ep fl s
  obtain ⟨r, re, back, c, heq, hr, -, -, hcn, hchain⟩ := closeSecond_cases s
  have hleft : leaveSecond s = (enterRecord r (s.setRe re), back) := by rw [leaveSecond, if_pos hopen, heq]
  have hsame : SameRecords (pushRecord r s.rs.seconds) (changeSecond q ep fl s).rs.seconds := by
    refine SameRecords.trans ?_ (changeSecond_same q ep fl s)
    rw [hleft]
    exact enterRecord_same r (s.setRe re)
  rw [hleft] at hsettled
  refine ⟨?final, ?next, .inr ⟨hsettled ▸ settledList_rest .., hn, ?chains⟩⟩
  case next =>
    rw [hsame.nextOf, nextOf_push, hr, h.next, BitVec.add_assoc]
    exact congrArg _ (BitVec.ofNat_add n 1).symm
  case chains =>
    rw [hsettled]
    refine settledList_grows h.chains hcn ?_ o
    rw [(enterRecord_frame ..).2.2.2.2.2.2.2.2.2.2.2.2.2.1]
    exact hchain.imp (fun ⟨hfull, hre, _⟩ => ⟨hfull, hre⟩) (fun ⟨_, hre, _, hnew⟩ => ⟨hre, hnew⟩)
  case final =>
    by_cases hfew : n ≤ 4096
    · refine (h.final.push ?_).same hsame
      rintro ⟨u, hu, -, hus⟩
      exact nextOf_add_notMem hseq hlen hfew u hu (hus.trans (hr.trans h.next))
    · obtain ⟨-, hzero, hlength⟩ := h.chains.resolve_left (by omega)
      rcases hlength with hempty | hlength
      · exact h.final.changeSecond_empty hopen hempty hzero q ep fl
      · exact h.final.changeSecond_full hopen (by omega) q ep fl

theorem MarksTaken.changeSecond {xs : List SecondRecord} {n : Nat} {s : State} (h : MarksTaken xs n s)
    (hseq : ConsecutiveRecords xs) (hlen : xs.length ≤ 1024) (q : Second) (ep : Epoch) (fl : StickyFlags) :
    ∃ m, MarksTaken xs m (changeSecond q ep fl s) := by
  by_cases hopen : s.re.isOpen = true
  · exact ⟨n + 1, h.closeSecond hseq hlen hopen q ep fl⟩
  · obtain ⟨⟨o, hsettled⟩, hn⟩ := changeSecond_chain q ep fl s
    have hsame := changeSecond_same q ep fl s
    have hleft : leaveSecond s = (s, none) := by rw [leaveSecond, if_neg hopen]
    rw [hleft] at hsettled hsame
    refine ⟨n, h.final.same hsame, hsame.nextOf.trans h.next, h.chains.imp_right fun ⟨hrests, _, hlength⟩ => ?_⟩
    have hkept : (settledList o s.re.chain).length = s.re.chain.length :=
      settledList_length (by simpa using hrests.unended_append (tail := []) (by simp))
    rw [hsettled, hkept]
    refine ⟨settledList_rest .., hn, hlength.imp_left fun hempty => List.eq_nil_of_length_eq_zero ?_⟩
    rw [hkept, hempty]
    rfl

theorem MarksTaken.takeMark {xs : List SecondRecord} {n : Nat} {s : State} (h : MarksTaken xs n s)
    (hseq : ConsecutiveRecords xs) (hlen : xs.length ≤ 1024) (b : MarkBlock) (q : Second) (ep : Epoch) :
    ∃ m, MarksTaken xs m (takeMark b q ep s) := by
  cases b with
  | re =>
    unfold Machine.takeMark markRe markAccumulation
    dsimp only
    split
    · obtain ⟨m, hm⟩ := h.changeSecond hseq hlen q ep StickyFlags.clear
      exact ⟨m, hm.same (.refl _) ⟨rfl, rfl⟩⟩
    · exact ⟨n, h.same (.refl _) ⟨rfl, rfl⟩⟩
  | vfe => exact ⟨n, h.same (markVfe_move s).adds.sameRecords (by simp [Machine.takeMark, SameChains])⟩
  | pt => exact ⟨n, h.same (.refl _) ⟨rfl, rfl⟩⟩
  | du => exact ⟨n, h.same (markDu_move q s).adds.sameRecords (by simp [Machine.takeMark, SameChains])⟩
  | scn => exact ⟨n, h.same (markScn_move q s).adds.sameRecords (by simp [Machine.takeMark, SameChains])⟩
  | tu => exact ⟨n, h.same (markTu_move q s).adds.sameRecords (by simp [Machine.takeMark, SameChains])⟩
  | mdm => exact ⟨n, h.same (markMdm_move s).adds.sameRecords (by simp [Machine.takeMark, SameChains])⟩
  | bw => exact ⟨n, h.same (markBw_move s).adds.sameRecords (by simp [Machine.takeMark, SameChains])⟩

theorem MarksTaken.takeNotices {xs : List SecondRecord} {n : Nat} {s : State} (h : MarksTaken xs n s)
    (hseq : ConsecutiveRecords xs) (hlen : xs.length ≤ 1024) (bs : List MarkBlock) :
    ∃ m, MarksTaken xs m (takeNotices bs s) := by
  induction bs generalizing n s with
  | nil => exact ⟨n, h⟩
  | cons b bs ih =>
    suffices htaken : ∃ m, MarksTaken xs m (takeNotice b s) by
      obtain ⟨m, hm⟩ := htaken
      exact ih hm
    unfold takeNotice
    split
    · have hdropped : MarksTaken xs n (s.setNotices (dropNotice b s.notices)) := h.same (.refl _) ⟨rfl, rfl⟩
      exact hdropped.takeMark hseq hlen ..
    · exact ⟨n, h⟩

theorem marksSecond_final {s : State} (hseq : ConsecutiveRecords s.rs.seconds) (hlen : s.rs.seconds.length ≤ 1024)
    (now : List MarkBlock) : FinalOn (finalSequences s.rs.seconds) (marksSecond now s).rs.seconds := by
  have hstart : MarksTaken s.rs.seconds 0 s := ⟨finalOn_self hseq hlen, (BitVec.add_zero _).symm, .inl rfl⟩
  unfold marksSecond
  split
  · obtain ⟨n, hn⟩ := (hstart.same (tbMark_move s).adds.sameRecords (by simp [SameChains])).takeNotices hseq hlen now
    exact hn.final
  · exact hstart.final

/-! ## O57 -/

/-- Settles O57. -/
theorem finalStaysFinal : Obligations.FinalStaysFinal := by
  unfold Obligations.FinalStaysFinal
  intro s t hcap hseq h
  rcases step_cases h with ⟨straps, memory, rest, rfl⟩ | ⟨rest, rfl⟩ | hmove | ⟨now, rest, rfl⟩
  · intro r hr hfinal u hu
    rw [(powerUp_fresh ..).seconds] at hu
    cases hu
  · intro r hr hfinal u hu
    rw [(heldReset_fresh _).seconds] at hu
    cases hu
  · exact finalKept_of_adds hmove.adds hcap hseq
  · obtain ⟨-, hlen, -⟩ := hcap
    refine FinalOn.kept (t := whenOn (s.setPending rest) (marksSecond now)) ?_
    cases hp : s.powered with
    | true =>
      rw [whenOn_on (s := s.setPending rest) hp]
      exact marksSecond_final (s := s.setPending rest) hseq.1 hlen now
    | false =>
      rw [whenOn_off (s := s.setPending rest) hp]
      exact finalOn_self hseq.1 hlen

end Sys2Proof.Machine
end

section
/-! PROOF. The step and the start: what an idle period does, POWER_ON, RESET_ASSERTED and the image in use (O1 to O5). -/

namespace Sys2Proof.Machine

/-! ## O1 -/

/-- Settles O1. -/
theorem queueFrontRuns : Obligations.QueueFrontRuns :=
  fun _ _ _ => rfl

/-! ## O2 -/

/-- The timers of a period leave the clock's count. -/
theorem tickTb_count (t : TB) : (tickTb t).tick = t.tick ∧ (tickTb t).second = t.second ∧ (tickTb t).epoch = t.epoch
    ∧ (tickTb t).schedule = t.schedule := by
  unfold tickTb tickLabel
  dsimp only
  split <;> exact ⟨rfl, rfl, rfl, rfl⟩

theorem markTb_tickTb (t : TB) : markTb (tickTb t) = { tickTb t with
    second := t.second + 1
    tick := 0
    rate := (markTb t).rate
    slew := none
    remainder := (markTb t).remainder
    schedule := (markTb t).schedule
    output := some 1000000 } := by
  unfold tickTb tickLabel
  dsimp only
  split <;> rfl

theorem countTb_free {t : TB} (h : t.schedule = none) : countTb t = { t with tick := t.tick + 1 } := by
  simp [countTb, h]

theorem idleStep_off {s : State} (h : s.powered = false) : idleStep s = s :=
  whenOn_off h

/-- With nothing that waits and nothing due, one period passes (log 2). -/
theorem idleStep_period {s : State} (hon : s.powered = true) (hnotices : s.notices = []) (hinstants : s.instants = [])
    (hdue : dueCommands s = []) : idleStep s = countPeriod (tickTimers s) := by
  rw [idleStep, whenOn_on hon]
  unfold idleOn
  rw [hnotices, hinstants, hdue]

theorem step_idle {s : State} (h : s.pending = []) : step s = .next (idleStep s) := by
  unfold step
  rw [h]

theorem tickTimers_free {s : State} (h : s.tb.schedule = none) :
    countTb (tickTimers s).tb = { tickTb s.tb with tick := s.tb.tick + 1 } := by
  obtain ⟨htick, -, -, hschedule⟩ := tickTb_count s.tb
  rw [← htick]
  exact countTb_free (hschedule.trans h)

theorem instantPassed_eq_none {n : Nat} (h : (n + 1) % 78125 ≠ 0) : instantPassed n (n + 1) = none := by
  unfold instantPassed
  refine if_neg ?_
  omega

theorem instantPassed_eq_some {n : Nat} {k : Instant} (h : n + 1 = 78125 * k.toNat) : instantPassed n (n + 1) = some k := by
  have hdiv : (n + 1) / 78125 = k.toNat := by omega
  have hlt := k.isLt
  unfold instantPassed
  dsimp only
  rw [hdiv, if_pos ⟨by omega, hlt⟩, BitVec.ofNat_toNat, BitVec.setWidth_eq]

theorem countPeriod_mark {s : State} (hmark : countIsMark (tickTimers s).tb = true) (hnotices : s.notices = [])
    (hinstants : s.instants = []) : countPeriod (tickTimers s) = { tickTimers s with
      tb := markTb (tickTb s.tb)
      notices := [.re, .vfe, .pt, .du, .scn, .tu, .mdm, .bw].map
        (fun b => ⟨b, (tickTb s.tb).second + 1, (tickTb s.tb).epoch⟩)
      instants := [⟨0, (tickTb s.tb).second + 1, (tickTb s.tb).epoch⟩] } := by
  have htimers : (tickTimers s).notices = [] ∧ (tickTimers s).instants = [] := ⟨hnotices, hinstants⟩
  rw [countPeriod, if_pos hmark]
  unfold tbMark
  dsimp only
  simp only [State.setTb_notices, State.setNotices_instants, State.setTb_instants, htimers.1, htimers.2]
  rfl

/-- Settles O2. -/
theorem periodPasses : Obligations.PeriodPasses := by
  unfold Obligations.PeriodPasses
  refine ⟨fun s hoff hpending => by rw [step_idle hpending, idleStep_off hoff], ?_⟩
  intro s hon hpending hnotices hinstants hdue hfree
  obtain ⟨htick, hsecond, hepoch, -⟩ := tickTb_count s.tb
  have hcount := tickTimers_free hfree
  rw [step_idle hpending, idleStep_period hon hnotices hinstants hdue]
  have hkeep : ∀ n, s.tb.tick + 1 = n → n < 10000000 → countIsMark (tickTimers s).tb = false := by
    intro n hn hlt
    rw [countIsMark, hcount]
    exact decide_eq_false (by simp only; omega)
  refine ⟨fun hlast => ?_, fun hlt hfar => ?_, fun k hk hnext => ?_⟩
  · have hmark : countIsMark (tickTimers s).tb = true := by
      rw [countIsMark, hcount]
      exact decide_eq_true (by simp only; omega)
    rw [countPeriod_mark hmark hnotices hinstants, markTb_tickTb, hsecond, hepoch]
  · have hpassed : instantPassed (tickTimers s).tb.tick (countTb (tickTimers s).tb).tick = none := by
      rw [hcount, (show (tickTimers s).tb.tick = s.tb.tick from htick)]
      exact instantPassed_eq_none hfar
    rw [countPeriod, if_neg (by simp [hkeep _ rfl (by omega)])]
    dsimp only
    rw [hpassed, hcount]
    rfl
  · have hlt := k.isLt
    have hpassed : instantPassed (tickTimers s).tb.tick (countTb (tickTimers s).tb).tick = some k := by
      rw [hcount, (show (tickTimers s).tb.tick = s.tb.tick from htick)]
      exact instantPassed_eq_some hnext
    have htimers : (tickTimers s).instants = [] := hinstants
    rw [countPeriod, if_neg (by simp [hkeep _ rfl (by omega)])]
    dsimp only
    rw [hpassed, hcount, htimers]
    dsimp only
    rw [hsecond, hepoch]
    rfl

/-! ## O3 -/

theorem powerUp_blocks (straps : StationId) (memory : Option MemoryRecord) (s : State) :
    (powerUp straps memory s).sul = readRecord straps memory ∧ (powerUp straps memory s).scn = startScn (readRecord straps memory).image
      ∧ (powerUp straps memory s).tu = startTu (readRecord straps memory).image
      ∧ (powerUp straps memory s).mdm = startMdm (readRecord straps memory) := by
  simp [powerUp]

theorem powerUp_resets (straps : StationId) (memory : Option MemoryRecord) (s : State) :
    (powerUp straps memory s).powered = true ∧ (powerUp straps memory s).lc = LC.reset ∧ (powerUp straps memory s).tb = TB.reset
      ∧ (powerUp straps memory s).pt = PT.reset ∧ (powerUp straps memory s).du = DU.reset straps
      ∧ (powerUp straps memory s).re = RE.reset ∧ (powerUp straps memory s).dru = DRU.reset
      ∧ (powerUp straps memory s).bw = BW.reset ∧ (powerUp straps memory s).rs = RS.reset
      ∧ (powerUp straps memory s).notices = [] ∧ (powerUp straps memory s).instants = [⟨0, 0, 0⟩]
      ∧ (powerUp straps memory s).pending = s.pending := by
  simp [powerUp, State.reset]

theorem startVfe_off {s : State} (h : s.sul.image.vectorRole = false) :
    (startVfe s).vfe = VFE.reset ∧ (startVfe s).pins = { s.pins with loopGood := false } := by
  simp [startVfe, h, loopOff, VFE.reset]

theorem startVfe_on {s : State} (h : s.sul.image.vectorRole = true) :
    (startVfe s).vfe = (if s.pins.driveGood then
          { VFE.reset with state := .loopStart, excitation := true, loop := true, timer := some 20000000 }
        else { VFE.reset with state := .driveStart, excitation := true, timer := some 5000000 })
      ∧ (startVfe s).pins = { s.pins with loopGood := false } := by
  cases hgood : s.pins.driveGood <;> simp [startVfe, h, enterDriveStart, enterLoopStart, loopOff, VFE.reset, hgood]

theorem powerUp_pins (straps : StationId) (memory : Option MemoryRecord) (s : State) :
    (powerUp straps memory s).pins = { s.pins with straps := straps, memory := memory, loopGood := false } := by
  unfold powerUp
  dsimp only
  cases hrole : (readRecord straps memory).image.vectorRole
  · exact (startVfe_off hrole).2
  · exact (startVfe_on hrole).2

theorem powerUp_vfe_off {straps : StationId} {memory : Option MemoryRecord}
    (h : (readRecord straps memory).image.vectorRole = false) (s : State) : (powerUp straps memory s).vfe = VFE.reset :=
  (startVfe_off h).1

theorem powerUp_vfe_on {straps : StationId} {memory : Option MemoryRecord}
    (h : (readRecord straps memory).image.vectorRole = true) (s : State) : (powerUp straps memory s).vfe = if s.pins.driveGood then
        { VFE.reset with state := .loopStart, excitation := true, loop := true, timer := some 20000000 }
      else { VFE.reset with state := .driveStart, excitation := true, timer := some 5000000 } :=
  (startVfe_on h).1

/-- Settles O3. -/
theorem powerOnStartsBlocks : Obligations.PowerOnStartsBlocks := by
  unfold Obligations.PowerOnStartsBlocks
  intro straps memory s
  obtain ⟨hsul, hscn, htu, hmdm⟩ := powerUp_blocks straps memory s
  refine ⟨powerUp straps memory s, rfl, ?_⟩
  rw [hsul, hscn, htu, hmdm, powerUp_pins]
  obtain ⟨hon, hlc, htb, hpt, hdu, hre, hdru, hbw, hrs, hnotices, hinstants, hpending⟩ := powerUp_resets straps memory s
  refine ⟨hon, hlc, htb, hpt, hdu, hre, hdru, hbw, hrs, rfl, readRecord_stationId .., hnotices, hinstants, rfl, rfl,
    fun hoff => powerUp_vfe_off hoff s, fun hon hgood => ?_, fun hon hgood => ?_, fun hscalar => ?_,
    fun hscalar hpeer hown => ?_, fun hscalar hpeer => ?_, rfl, hpending⟩
  · rw [powerUp_vfe_on hon, hgood]
    rfl
  · rw [powerUp_vfe_on hon, hgood]
    rfl
  · simp [startMdm, sourceAtReset, hscalar]
  · have hconfigured : configuredPeer (readRecord straps memory).image straps = (readRecord straps memory).image.scalarPeer :=
      if_neg hown
    simp only [startMdm, sourceAtReset, hscalar, readRecord_stationId, hconfigured, Bool.false_eq_true, if_false, if_neg hpeer]
  · simp [startMdm, sourceAtReset, hscalar, configuredPeer]
    exact fun hown => hpeer.resolve_right hown

/-! ## O4 -/

theorem held_next {s : State} (h : s.powered = false) (f : State → State) :
    ∃ pins, (Host.Outcome.next (whenOn s f) : Host.Outcome State Fault Refusal) = .next { s with pins := pins } :=
  ⟨s.pins, by rw [whenOn_off h]⟩

theorem held_pins {s : State} (h : s.powered = false) (v : Pins) (f : State → State) :
    ∃ pins, (Host.Outcome.next (whenOn (s.setPins v) f) : Host.Outcome State Fault Refusal) = .next { s with pins := pins } :=
  ⟨v, by rw [whenOn_off (s := s.setPins v) h]; rfl⟩

/-- While RESET is held a command changes at most the levels of the input pins (log 7). -/
theorem exec_held {s : State} {c : Instr} (h : s.powered = false) (hpower : ∀ straps memory, c ≠ .powerOn straps memory)
    (hreset : c ≠ .resetAsserted) : ∃ pins, exec c s = .next { s with pins := pins } := by
  cases c with
  | powerOn straps memory => exact absurd rfl (hpower straps memory)
  | resetAsserted => exact absurd rfl hreset
  | driveGoodAppears => exact held_pins h _ driveAppears
  | driveGoodLost => exact held_pins h _ driveLoses
  | loopGoodLost driveLostToo =>
    cases driveLostToo
    · exact held_pins h _ loopLoses
    · obtain ⟨pins, hpins⟩ := held_pins (s := s.setPins { s.pins with loopGood := false }) h
        { s.pins with driveGood := false, loopGood := false } driveLoses
      exact ⟨pins, hpins⟩
  | polarizeCurrentFault present => exact held_pins h _ (polarizeIndication present)
  | signalDetectLost absent => exact held_pins h _ (signalIndication absent)
  | _ => exact held_next h _

/-- Settles O4. -/
theorem resetAssertedTurnsOff : Obligations.ResetAssertedTurnsOff := by
  unfold Obligations.ResetAssertedTurnsOff
  refine ⟨fun s => ⟨heldReset s, ?_⟩, fun c s h hpower hreset => exec_held h hpower hreset⟩
  repeat' constructor

/-! ## O5 -/

theorem powerUp_sul (straps : StationId) (memory : Option MemoryRecord) (s : State) :
    (powerUp straps memory s).sul = readRecord straps memory :=
  (powerUp_blocks straps memory s).1

theorem readRecord_fails {id : StationId} {memory : Option MemoryRecord}
    (h : ∀ m, memory = some m → checkMatches m.octets = false) : readRecord id memory = defaultSul id := by
  unfold readRecord
  split
  · rfl
  next m => rw [h m rfl, if_neg (by decide)]

theorem readRecord_passes {id : StationId} {m : MemoryRecord} (h : checkMatches m.octets = true) :
    readRecord id (some m) = {
      image := correctedImage (clampedImage m.fields)
      stationId := id
      clampCount := addSat (clampHits m.fields) (correctionHits (clampedImage m.fields))
      configDefaults := false
      isDefault := false } := by
  unfold readRecord
  exact if_pos h

theorem checkMatches_iff (os : List Octet) :
    checkMatches os = true ↔ os.length = 192 ∧ crc16 (os.take 190) = word16At os 190 := by
  simp [checkMatches]

theorem clampInt_eq_lim {lim : Int → Int → Int → Int} (h : ∀ lo hi v, lim lo hi v = max lo (min hi v)) {lo hi : Int} (hle : lo ≤ hi)
    (v : Int) : lim lo hi v = clampInt lo hi v := by
  unfold clampInt
  rw [h]
  omega

theorem correctFast_value (im : Image) : (correctFast im).value = min im.fastBound im.watchThreshold := by
  unfold correctFast
  split <;> dsimp only <;> omega

theorem correctRelease_value {im : Image} (hwatch : 1 ≤ im.watchThreshold) (hrelease : 1 ≤ im.releaseThreshold) :
    (correctRelease im).value = max 1 (min im.releaseThreshold (im.watchThreshold - 1)) := by
  unfold correctRelease
  split
  · dsimp only
    split <;> omega
  · dsimp only
    omega

theorem correctCool_value (hot cool : Int) : (correctCool hot cool).value = if hot ≤ cool then hot - 100 else cool := by
  unfold correctCool
  split <;> rfl

/-- The period in use, on the stored values as their ranges clamp them. -/
theorem correctPeriod_clamped (f : RawFields) {polarize gate period stages : Int} (hp : polarize = clampInt 5 30 f.polarizeTime)
    (hg : gate = clampInt 20 100 f.gateTime) (hc : period = clampInt 2 60 f.cyclePeriod)
    (hs : stages = polarize * 10 + 2 + gate + 8) :
    correctPeriod (clampedImage f) = ⟨(if period * 100 < stages then (stages + 99) / 100 else period).toNat,
      if period * 100 < stages then 1 else 0⟩ := by
  have hp0 := (clampInt_between (lo := 5) (hi := 30) (by decide) f.polarizeTime).1
  have hg0 := (clampInt_between (lo := 20) (hi := 100) (by decide) f.gateTime).1
  have hc0 := (clampInt_between (lo := 2) (hi := 60) (by decide) f.cyclePeriod).1
  rw [← hp] at hp0
  rw [← hg] at hg0
  rw [← hc] at hc0
  have hfields : (clampedImage f).polarizeTime = polarize.toNat ∧ (clampedImage f).gateTime = gate.toNat
      ∧ (clampedImage f).cyclePeriod = period.toNat := by
    rw [hp, hg, hc]
    exact ⟨rfl, rfl, rfl⟩
  obtain ⟨hpf, hgf, hcf⟩ := hfields
  unfold correctPeriod stagesTime ceilDiv
  rw [hpf, hgf, hcf]
  by_cases hlt : period * 100 < stages
  · rw [if_pos (by omega), if_pos hlt, if_pos hlt]
    congr 1
    omega
  · rw [if_neg (by omega), if_neg hlt, if_neg hlt]

theorem clampHit_eq (lo hi v : Int) : clampHit lo hi v = if v < lo ∨ hi < v then 1 else 0 := by
  unfold clampHit
  split
  · rw [if_pos (by omega)]
  · split
    · rw [if_pos (by omega)]
    · rw [if_neg (by omega)]

theorem clampHit_le (lo hi v : Int) : clampHit lo hi v ≤ 1 := by
  rw [clampHit_eq]
  split <;> decide

/-- The clamp counts every stored instance beyond its range. -/
theorem length_filter_clamped (l : List (Int × Int × Int)) :
    (l.filter (fun x => decide (x.2.2 < x.1 ∨ x.2.1 < x.2.2))).length = (l.map (fun x => clampHit x.1 x.2.1 x.2.2)).sum := by
  induction l with
  | nil => rfl
  | cons x l ih =>
    rw [List.filter_cons, List.map_cons, List.sum_cons, clampHit_eq, ← ih]
    by_cases hx : x.2.2 < x.1 ∨ x.2.1 < x.2.2
    · rw [if_pos (decide_eq_true hx), if_pos hx, List.length_cons]
      omega
    · rw [if_neg (by simpa using hx), if_neg hx]
      omega

theorem sum_clampHits_le (l : List (Int × Int × Int)) : (l.map (fun x => clampHit x.1 x.2.1 x.2.2)).sum ≤ l.length := by
  induction l with
  | nil => exact Nat.le_refl 0
  | cons x l ih =>
    rw [List.map_cons, List.sum_cons, List.length_cons]
    have := clampHit_le x.1 x.2.1 x.2.2
    omega

/-- The numeric field instances of a record with their ranges (Figure 91). -/
def storedInstances (f : RawFields) : List (Int × Int × Int) := [
  (0, 20000, f.lineDelay), (0, 86400, f.holdoverLimit),
  (1, 65535, f.gain.x), (1, 65535, f.gain.y), (1, 65535, f.gain.z),
  (1, 4000000, f.coarseStep.x), (1, 4000000, f.coarseStep.y), (1, 4000000, f.coarseStep.z),
  (1, 40000, f.fineStep.x), (1, 40000, f.fineStep.y), (1, 40000, f.fineStep.z),
  (1000, 8000000, f.retuneBand), (2, 60, f.cyclePeriod), (5, 30, f.polarizeTime), (20, 100, f.gateTime),
  (0, 15, f.scalarPeer), (1, 60, f.acqPeriod),
  (-65535, 65535, f.slope.sensor), (-65535, 65535, f.slope.pier),
  (-20000, 20000, f.intercept.sensor), (-20000, 20000, f.intercept.pier),
  (-3900, 8500, f.hot.sensor), (-3900, 8500, f.hot.pier),
  (-4000, 8400, f.cool.sensor), (-4000, 8400, f.cool.pier),
  (0, 3, f.queueCode.sensor), (0, 3, f.queueCode.pier),
  (1, 128, f.completeness), (-4000, 8500, f.t0),
  (-100000, 100000, f.ks.x), (-100000, 100000, f.ks.y), (-100000, 100000, f.ks.z),
  (-100000, 100000, f.ko.x), (-100000, 100000, f.ko.y), (-100000, 100000, f.ko.z),
  (0, 15, f.substitutePeer), (1, 15, f.slowBeta), (1, 15, f.fastBeta),
  (1, 10000000, f.fastBound), (1, 10000000, f.watchThreshold), (1, 10000000, f.releaseThreshold),
  (1, 60, f.onsetCount), (1, 3600, f.easeCount), (60, 86400, f.maxDisturbed), (1, 1000000, f.deltaFLimit)]

theorem clampHits_eq (f : RawFields) :
    clampHits f = ((storedInstances f).map (fun x => clampHit x.1 x.2.1 x.2.2)).sum := by
  simp only [storedInstances, List.map_cons, List.map_nil, List.sum_cons, List.sum_nil, clampHits, clampField1, clampNat, clampId,
    clampAxes, clampChannels, Nat.cast_ofNat, Nat.cast_one, Nat.cast_zero]
  omega

theorem clampHits_le (f : RawFields) : clampHits f ≤ 45 := by
  rw [clampHits_eq]
  exact sum_clampHits_le (storedInstances f)

theorem correctCool_count (hot cool : Int) : (correctCool hot cool).count = if hot ≤ cool then 1 else 0 := by
  unfold correctCool
  split <;> rfl

theorem correctFast_count (im : Image) : (correctFast im).count = if im.watchThreshold < im.fastBound then 1 else 0 := by
  unfold correctFast
  split <;> rfl

theorem correctRelease_count (im : Image) :
    (correctRelease im).count = if im.watchThreshold ≤ im.releaseThreshold then 1 else 0 := by
  unfold correctRelease
  split <;> rfl

/-- Fewer instances are stored than the clamp count can hold. -/
theorem addSat_clampHits (f : RawFields) {n : Nat} (hn : n ≤ 5) : addSat (clampHits f) n = clampHits f + n := by
  have := clampHits_le f
  unfold addSat
  split <;> omega

theorem correctionHits_le (im : Image) : correctionHits im ≤ 5 := by
  have hperiod : (correctPeriod im).count ≤ 1 := by
    unfold correctPeriod
    split <;> simp
  rw [correctionHits, correctCool_count, correctCool_count, correctFast_count, correctRelease_count]
  repeat' split
  all_goals omega

theorem enabled_eq (v : Nat) : enabled v = decide (v ≠ 0) := by
  by_cases h : v = 0 <;> simp [enabled, h]

/-- Settles O5. -/
theorem imageInUseInRange : Obligations.ImageInUseInRange := by
  unfold Obligations.ImageInUseInRange
  refine ⟨fun s t hs h => ?_, fun straps memory s t h => ?_, fun straps memory s hfails => ?_, ?_⟩
  · rcases step_move h with hfresh | ⟨n, hmove⟩
    · exact hfresh.image
    · exact hmove.image hs
  · obtain rfl := Host.Outcome.next.inj h
    exact (powerUp_fresh straps memory s).image
  · have hdefault : (powerUp straps memory s).sul = defaultSul straps := by
      rw [powerUp_sul]
      refine readRecord_fails fun m hm => ?_
      rw [← Bool.not_eq_true, checkMatches_iff]
      exact fun ⟨hlength, hcheck⟩ => hfails m hm hlength hcheck
    refine ⟨powerUp straps memory s, rfl, ?_⟩
    rw [hdefault]
    exact ⟨rfl, rfl, rfl, rfl, rfl, rfl, rfl⟩
  · rintro straps m s f lim polarize gate period stages hotS hotP coolS coolP fast watch release hlength hcheck rfl hlim
    simp (disch := decide) only [clampInt_eq_lim hlim]
    intro hpolarize hgate hperiod hstages hhotS hhotP hcoolS hcoolP hfast hwatch hrelease
    have hread : (powerUp straps (some m) s).sul = _ :=
      (powerUp_sul straps (some m) s).trans (readRecord_passes ((checkMatches_iff _).mpr ⟨hlength, hcheck⟩))
    have hcount := correctPeriod_clamped m.fields hpolarize hgate hperiod hstages
    subst hpolarize hgate hhotS hhotP hcoolS hcoolP hfast hwatch hrelease
    refine ⟨powerUp straps (some m) s, rfl, ?_⟩
    rw [hread]
    refine ⟨rfl, rfl, ?image, ?counts⟩
    case image =>
      have hcorrected : (correctRelease (clampedImage m.fields)).value = _ :=
        correctRelease_value (clampInt_between (by decide) _).1 (clampInt_between (by decide) _).1
      dsimp only
      rw [correctedImage, hcount, correctCool_value, correctCool_value, correctFast_value, hcorrected]
      simp only [← enabled_eq]
      rfl
    case counts =>
      rintro stored rfl
      dsimp only
      rw [addSat_clampHits _ (correctionHits_le _), length_filter_clamped, clampHits_eq, correctionHits, hcount, correctCool_count,
        correctCool_count, correctFast_count, correctRelease_count]
      simp only [Nat.add_assoc]
      rfl

end Sys2Proof.Machine
end

section
/-! PROOF. The hut line (O6 to O14). First what each operation of the Line Controller does, once; then the statements. -/

namespace Sys2Proof.Machine

/-! ## Commands of a node that runs -/

theorem next_on {s t : State} {f : State → State} (hon : s.powered = true) (h : f s = t) :
    (Host.Outcome.next (whenOn s f) : Host.Outcome State Fault Refusal) = .next t := by
  rw [whenOn_on hon, h]

theorem State.eq_iff (s t : State) : s = t ↔ s.powered = t.powered ∧ s.pins = t.pins ∧ s.ties = t.ties ∧ s.draws = t.draws
    ∧ s.notices = t.notices ∧ s.instants = t.instants ∧ s.lc = t.lc ∧ s.tb = t.tb ∧ s.pt = t.pt ∧ s.du = t.du ∧ s.vfe = t.vfe
    ∧ s.scn = t.scn ∧ s.tu = t.tu ∧ s.re = t.re ∧ s.dru = t.dru ∧ s.mdm = t.mdm ∧ s.bw = t.bw ∧ s.rs = t.rs ∧ s.sul = t.sul
    ∧ s.pending = t.pending := by
  cases s
  cases t
  simp

/-! ## The contention of the SENDING frame -/

theorem contend_cases (s : State) :
    (s.lc.contention = .waitIdle ∧ mayTransmit s = true ∧ ∃ k ≤ 15, contend s = { s with
        draws := s.draws + 1
        lc := { s.lc with contention := .spread (40 * k) } })
      ∨ (s.lc.contention ≠ .waitIdle ∨ mayTransmit s = false) ∧ contend s = s := by
  by_cases hwait : s.lc.contention = .waitIdle
  · cases hmay : mayTransmit s with
    | true => exact .inl ⟨hwait, rfl, _, spreadDraw_le s.draws, contend_spreads hwait hmay⟩
    | false => exact .inr ⟨.inr rfl, contend_stays (.inr hmay)⟩
  · exact .inr ⟨.inl hwait, contend_stays (.inl hwait)⟩

/-- Contending changes the contention and the count of draws. -/
theorem contend_eq (s : State) : contend s = { s with
    draws := (contend s).draws
    lc := { s.lc with contention := (contend s).lc.contention } } := by
  rcases contend_cases s with ⟨-, -, k, -, heq⟩ | ⟨-, heq⟩ <;> rw [heq]

theorem getSlot_contend (n : SlotName) (s : State) : getSlot n (contend s).lc = getSlot n s.lc := by
  rw [contend_eq]
  cases n <;> rfl

/-! ## A frame leaves its slot and the next takes its turn -/

theorem slots_of_ne {n m : SlotName} (h : m ≠ n) : n = .a ∧ m = .b ∨ n = .b ∧ m = .a := by
  cases n <;> cases m <;> simp_all

theorem isSending_of {v : Option Slot} {w : Slot} (h : v = some w) (hw : w.sending = true) : isSending v = true := by
  rw [h]
  exact hw

theorem other_not_sending {l : LC} {n m : SlotName} (ho : isSending l.slotA = false ∨ isSending l.slotB = false)
    (hn : isSending (getSlot n l) = true) (hne : m ≠ n) : isSending (getSlot m l) = false := by
  cases n <;> cases m <;> simp_all [getSlot]

theorem sendingSlot_left {l : LC} {n m : SlotName} (hne : m ≠ n) (hn : getSlot n l = none)
    (hm : isSending (getSlot m l) = false) : sendingSlot l = none := by
  cases n <;> cases m <;> simp_all [sendingSlot, getSlot, isSending]

theorem promoteLc_cases (l : LC) : promoteLc l = l ∨ ∃ n rest v, sendingSlot l = none ∧ l.readyOrder = n :: rest
    ∧ getSlot n l = some v ∧ promoteLc l = { setSlot n (some { v with sending := true, expiry := none }) l with
      readyOrder := rest
      contention := .waitIdle } := by
  cases hs : sendingSlot l with
  | some n => exact .inl (promoteLc_busy hs)
  | none =>
    cases hr : l.readyOrder with
    | nil => exact .inl (promoteLc_empty hr)
    | cons n rest =>
      cases hv : getSlot n l with
      | none => exact .inl (by simp [promoteLc, hs, hr, hv])
      | some v => exact .inr ⟨n, rest, v, rfl, rfl, hv, promoteLc_turn hs hr hv⟩

/-- What a turn leaves of the Line Controller. -/
theorem promoteLc_eq (l : LC) : promoteLc l = { l with
    slotA := (promoteLc l).slotA
    slotB := (promoteLc l).slotB
    readyOrder := (promoteLc l).readyOrder
    contention := (promoteLc l).contention } := by
  rcases promoteLc_cases l with heq | ⟨n, rest, v, -, -, -, heq⟩
  · rw [heq]
  · rw [heq]
    cases n <;> rfl

theorem promoteLc_getSlot_none {l : LC} {n : SlotName} (h : getSlot n l = none) : getSlot n (promoteLc l) = none := by
  rcases promoteLc_cases l with heq | ⟨k, rest, v, -, -, hv, heq⟩
  · rw [heq, h]
  · have hkn : n ≠ k := fun hnk => by simp [← hnk, h] at hv
    have hkept := (getSlot_setSlot_ne hkn (some { v with sending := true, expiry := none }) l).trans h
    rw [heq]
    cases n <;> exact hkept

theorem promote_eq (s : State) : promote s = { s with
    draws := (promote s).draws
    lc := { promoteLc s.lc with contention := (promote s).lc.contention } } :=
  contend_eq (s.setLc (promoteLc s.lc))

theorem getSlot_promote (n : SlotName) (s : State) : getSlot n (promote s).lc = getSlot n (promoteLc s.lc) :=
  getSlot_contend n (s.setLc (promoteLc s.lc))

theorem freeSlot_sending {s : State} {n : SlotName} (h : isSending (getSlot n s.lc) = true) : freeSlot n s = { s with
    lc := { setSlot n none s.lc with
      readyOrder := s.lc.readyOrder.filter (· != n)
      contention := .none
      driverActive := 0 }
    rs := { s.rs with carried := 0 } } := by
  unfold freeSlot freeLc
  rw [h]
  cases n <;> rfl

/-- The frame of the SENDING slot has left: the slot stays EMPTY, and the other frame has its turn if it is READY. -/
theorem promote_left {s : State} {n m : SlotName} (hne : m ≠ n) (hn : getSlot n s.lc = none)
    (hm : isSending (getSlot m s.lc) = false) :
    getSlot n (promote s).lc = none ∧ (getSlot m s.lc = none → getSlot m (promote s).lc = none)
      ∧ ∀ w, getSlot m s.lc = some w → s.lc.readyOrder = [m] →
          getSlot m (promote s).lc = some { w with sending := true, expiry := none } := by
  simp only [getSlot_promote]
  refine ⟨promoteLc_getSlot_none hn, promoteLc_getSlot_none, fun w hw hready => ?_⟩
  rw [promoteLc_turn (sendingSlot_left hne hn hm) hready hw]
  cases m <;> rfl

/-- A frame that is no restart answer is abandoned while it is SENDING. -/
theorem abandonFrame_sending {memory : Option MemoryRecord} {s : State} {n : SlotName} {v : Slot} (hv : getSlot n s.lc = some v)
    (hs : v.sending = true) (hrestart : holdsRestart (some v) = false) : abandonFrame memory n s = promote { s with
      lc := { setSlot n none s.lc with
        readyOrder := s.lc.readyOrder.filter (· != n)
        contention := .none
        driverActive := 0
        abandoned := bump s.lc.abandoned }
      rs := { s.rs with carried := 0 } } := by
  unfold abandonFrame afterLeaving
  rw [hv, hrestart, if_neg (by decide)]
  unfold abandonSlot
  rw [freeSlot_sending (isSending_of hv hs)]
  cases n <;> rfl

/-! ## O6 -/

/-- An IDLE line that the node did not drive: what R7 asks for beside it. -/
theorem mayTransmit_atIdle {s : State} (h : s.lc.monitor = .idle) : mayTransmit s = true ↔ listenOnly s = false ∧ s.lc.duplicateId = false
    ∧ s.lc.joinListen = none ∧ s.lc.silence = none := by
  rw [mayTransmit_iff]
  exact and_iff_right h

theorem lineIdleLc_unformed {l : LC} {r : RxRun} (hr : l.rx = some r) (hown : r.own = false) (hjudged : r.judged = false) :
    (lineIdleLc l).badFrame = bump l.badFrame := by
  simp [lineIdleLc, hr, hown, hjudged]

theorem lineIdleLc_formed {l : LC} (h : ∀ r, l.rx = some r → r.own = true ∨ r.judged = true) :
    (lineIdleLc l).badFrame = l.badFrame := by
  cases hr : l.rx with
  | none => simp [lineIdleLc, hr]
  | some r => rcases h r hr with h | h <;> simp [lineIdleLc, hr, h]

/-- Settles O6. -/
theorem lineMonitorMoves : Obligations.LineMonitorMoves := by
  unfold Obligations.LineMonitorMoves
  intro s hon
  refine ⟨fun hidle hspread => next_on hon ?_, fun k hidle hspread => next_on hon ?_, fun hbusy hfree => next_on hon ?_,
    fun hbusy hfree => ⟨contend (s.setLc (lineIdleLc s.lc)), next_on hon ?_, ?_⟩⟩
  · unfold activityStart lineBusy
    rw [if_pos hidle]
    split
    next k hk => exact absurd hk (hspread k)
    · rfl
  · unfold activityStart lineBusy
    rw [if_pos hidle, hspread]
    rfl
  · unfold lineGoesStuck
    rw [if_pos ⟨hbusy, hfree⟩]
    rfl
  · unfold lineGoesIdle
    exact if_neg (by simp [hbusy, hfree])
  · have hmay := mayTransmit_atIdle (s := s.setLc (lineIdleLc s.lc)) rfl
    have hcontend := contend_eq (s.setLc (lineIdleLc s.lc))
    refine ⟨?idle, ?rx, ?bad, ?good, ?stays, ?spreads, ?frame⟩
    case idle => rw [hcontend]; rfl
    case rx => rw [hcontend]; rfl
    case bad =>
      intro r hr hown hjudged
      rw [hcontend]
      exact lineIdleLc_unformed hr hown hjudged
    case good =>
      intro h
      rw [hcontend]
      exact lineIdleLc_formed h
    case stays =>
      intro h
      have hstay : contend (s.setLc (lineIdleLc s.lc)) = s.setLc (lineIdleLc s.lc) := by
        refine contend_stays (h.imp_right fun h => ?_)
        rw [← Bool.not_eq_true, hmay]
        rintro ⟨hlisten, hdup, hjoin, hsilence⟩
        rcases h with h | h | h | h
        · exact absurd (h.symm.trans hlisten) (by decide)
        · exact absurd (h.symm.trans hdup) (by decide)
        · exact h hjoin
        · exact h hsilence
      rw [hstay]
      exact ⟨rfl, rfl⟩
    case spreads =>
      intro hwait hlisten hdup hjoin hsilence
      rw [contend_spreads (s := s.setLc (lineIdleLc s.lc)) hwait (hmay.mpr ⟨hlisten, hdup, hjoin, hsilence⟩)]
      exact ⟨_, spreadDraw_le _, rfl⟩
    case frame =>
      rw [hcontend]
      rfl

/-! ## O7 -/

theorem octets16_length (v : BitVec 16) : (octets16 v).length = 2 := rfl

theorem octets32_length (v : BitVec 32) : (octets32 v).length = 4 := rfl

theorem frameOctets_length (kind : FrameKind) (source dest : StationId) (body : List Octet) :
    (frameOctets kind source dest body).length = 8 + body.length := by
  simp only [frameOctets, frameCore, List.length_append, List.length_cons, List.length_nil, octets16_length]
  omega

theorem optPair32_length (v : Option (Second × Int)) : (optPair32 v).length = 8 := by
  cases v <;> rfl

theorem optPair16_length (v : Option (Second × Int)) : (optPair16 v).length = 6 := by
  cases v <;> rfl

theorem eventsOctets_length (es : List Event) : (es.flatMap eventOctets).length = 4 * es.length := by
  induction es with
  | nil => rfl
  | cons e es ih =>
    rw [List.flatMap_cons, List.length_append, ih, List.length_cons]
    have : (eventOctets e).length = 4 := rfl
    omega

/-- R4: the body of an announcement has 58 octets and 4 for each event. -/
theorem announcementBody_length (a : Announcement) : (announcementBody a).length = 58 + 4 * a.events.length := by
  simp only [announcementBody, List.length_append, List.length_cons, List.length_nil, octets32_length, octets16_length, optInt32,
    optPair32_length, optPair16_length, eventsOctets_length]

theorem spreadEnds_attempt {s : State} {n : SlotName} {v : Slot} {k : Nat} (hone : OneSlotSends s) (hspread : s.lc.contention = .spread k)
    (hv : getSlot n s.lc = some v) (hsends : v.sending = true) (hmay : mayTransmit s = true) : spreadEnds s = beginAttempt n v s := by
  unfold spreadEnds
  rw [hspread, sendingSlot_of hone hv hsends]
  dsimp only
  rw [hv]
  exact if_pos hmay

/-- Settles O7. -/
theorem attemptBegins : Obligations.AttemptBegins := by
  unfold Obligations.AttemptBegins
  intro s n v k hon hone hspread hv hsends hmay
  have hbegins := spreadEnds_attempt hone hspread hv hsends hmay
  refine ⟨fun a ha => ⟨_, rfl, next_on hon ?_⟩, fun a ha => next_on hon ?_⟩
  · have hlength : (frameOctets .announce s.sul.stationId 0
        (announcementBody (stampedAnnouncement (clockOf s.tb) s.rs.events a))).length = 66 + 4 * (s.rs.events.take 4).length := by
      rw [frameOctets_length, announcementBody_length]
      have : (stampedAnnouncement (clockOf s.tb) s.rs.events a).events = s.rs.events.take 4 := rfl
      rw [this]
      omega
    rw [hbegins]
    unfold beginAttempt
    rw [ha]
    dsimp only
    rw [hlength]
    cases n <;> rfl
  · have hlength : (answerOctets s.sul.stationId a).length = 11 + a.rest.length := by
      rw [answerOctets, frameOctets_length, List.length_append]
      have : (answerOpening a).length = 3 := rfl
      omega
    rw [hbegins]
    unfold beginAttempt
    rw [ha]
    dsimp only
    rw [hlength]
    rfl

/-! ## O8 -/

theorem readsBackOther_iff (os : List Octet) (readBack : List Level) : readsBackOther os readBack = true ↔
    ∃ (i : Nat) (a b : Level), (frameSymbols os)[i]? = some a ∧ readBack[i]? = some b ∧ a ≠ b := by
  simp only [readsBackOther, List.any_eq_true, bne_iff_ne, List.mem_iff_getElem?, Prod.exists, List.getElem?_zip_eq_some]
  constructor
  · rintro ⟨a, b, ⟨i, ha, hb⟩, hne⟩
    exact ⟨i, a, b, ha, hb, hne⟩
  · rintro ⟨i, a, b, ha, hb, hne⟩
    exact ⟨a, b, ⟨i, ha, hb⟩, hne⟩

theorem jamEnds_afterJam {s : State} {n : SlotName} {v : Slot} {k : Nat} (memory : Option MemoryRecord) (hone : OneSlotSends s)
    (hjam : s.lc.contention = .jam k) (hv : getSlot n s.lc = some v) (hsends : v.sending = true) :
    jamEnds memory s = afterJam memory n v s := by
  unfold jamEnds
  rw [hjam, sendingSlot_of hone hv hsends]
  dsimp only
  rw [hv]

theorem mayTransmit_waiting (s : State) : mayTransmit (s.setLc { s.lc with contention := .waitIdle }) = mayTransmit s := rfl

/-- Settles O8. -/
theorem contentionMoves : Obligations.ContentionMoves := by
  unfold Obligations.ContentionMoves
  intro s hon
  refine ⟨fun k os readBack hattempt => ⟨fun hother => next_on hon ?_, fun hsame => next_on hon ?_⟩,
    fun k n v memory hone hjam hv hsends hfew => ⟨backoffSlots (v.attempts + 1) s.draws, backoffSlots_lt .., next_on hon ?_⟩,
    fun k hback hmay => next_on hon ?_, fun k hback hmay => ⟨_, spreadDraw_le s.draws, next_on hon ?_⟩,
    fun hstays => ⟨next_on hon ?_, next_on hon ?_⟩,
    fun hwait hidle hlisten hdup => ⟨fun hjoin => ⟨_, spreadDraw_le s.draws, next_on hon ?_⟩,
      fun hsilence => ⟨_, spreadDraw_le s.draws, next_on hon ?_⟩⟩⟩
  · unfold collides
    rw [hattempt]
    exact if_pos ((readsBackOther_iff os readBack).mpr hother)
  · unfold collides
    rw [hattempt]
    refine if_neg fun hother => ?_
    obtain ⟨i, a, b, ha, hb, hne⟩ := (readsBackOther_iff os readBack).mp hother
    exact hne (hsame i a b ha hb)
  · rw [jamEnds_afterJam memory hone hjam hv hsends]
    unfold afterJam
    dsimp only
    rw [if_neg (by omega)]
    cases n <;> rfl
  · unfold backoffEnds
    rw [hback]
    exact contend_stays (.inr hmay)
  · unfold backoffEnds
    rw [hback]
    exact contend_spreads (s := s.setLc { s.lc with contention := .waitIdle }) rfl hmay
  · refine contend_stays (hstays.imp_right fun hbusy => ?_)
    simp [mayTransmit, hbusy]
  · refine contend_stays (hstays.imp_right fun hbusy => ?_)
    simp [mayTransmit, hbusy]
  · exact contend_spreads (s := s.setLc { s.lc with silence := none }) hwait
      ((mayTransmit_iff _).mpr ⟨hidle, hlisten, hdup, hjoin, rfl⟩)
  · exact contend_spreads (s := s.setLc { s.lc with joinListen := none }) hwait
      ((mayTransmit_iff _).mpr ⟨hidle, hlisten, hdup, rfl, hsilence⟩)

/-! ## O9 -/

/-- A turn leaves the counters and the guard. -/
theorem promote_keeps (s : State) : (promote s).lc.abandoned = s.lc.abandoned ∧ (promote s).lc.driverActive = s.lc.driverActive
    ∧ (promote s).lc.silence = s.lc.silence ∧ (promote s).lc.jabberSeen = s.lc.jabberSeen := by
  rw [promote_eq, promoteLc_eq]
  exact ⟨rfl, rfl, rfl, rfl⟩

/-- A SENDING frame has been abandoned: its slot is EMPTY, and the attempt and its events are given up (R6, R11). -/
def abandoned (n : SlotName) (s : State) : State :=
  { s with
    lc := { setSlot n none s.lc with
      readyOrder := s.lc.readyOrder.filter (· != n)
      contention := .none
      driverActive := 0
      abandoned := bump s.lc.abandoned }
    rs := { s.rs with carried := 0 } }

theorem abandoned_lc (n : SlotName) (s : State) : (abandoned n s).lc.abandoned = bump s.lc.abandoned
    ∧ (abandoned n s).lc.driverActive = 0 ∧ (abandoned n s).lc.silence = s.lc.silence
    ∧ (abandoned n s).lc.jabberSeen = s.lc.jabberSeen := by
  cases n <;> exact ⟨rfl, rfl, rfl, rfl⟩

theorem abandoned_slots {n m : SlotName} (hne : m ≠ n) (s : State) : getSlot n (abandoned n s).lc = none
    ∧ getSlot m (abandoned n s).lc = getSlot m s.lc ∧ (s.lc.readyOrder = [m] → (abandoned n s).lc.readyOrder = [m]) := by
  cases n <;> cases m <;> simp_all [abandoned, getSlot, setSlot]

/-- What the abandonment of the SENDING frame of slot `n` does, beside slot `m`. -/
structure Abandons (n m : SlotName) (s t : State) : Prop where
  slot : getSlot n t.lc = none
  count : t.lc.abandoned = bump s.lc.abandoned
  driver : t.lc.driverActive = 0
  store : t.rs = { s.rs with carried := 0 }
  silence : t.lc.silence = s.lc.silence
  jabber : t.lc.jabberSeen = s.lc.jabberSeen
  empty : getSlot m s.lc = none → getSlot m t.lc = none
  turn : ∀ w, getSlot m s.lc = some w → s.lc.readyOrder = [m] → getSlot m t.lc = some { w with sending := true, expiry := none }
  frame : t = { s with lc := t.lc, rs := t.rs, draws := t.draws }

theorem abandons_promote {n m : SlotName} (hne : m ≠ n) {s : State} (hm : isSending (getSlot m s.lc) = false) :
    Abandons n m s (promote (abandoned n s)) := by
  obtain ⟨hcount, hdriver, hsilence, hjabber⟩ := promote_keeps (abandoned n s)
  obtain ⟨hcount', hdriver', hsilence', hjabber'⟩ := abandoned_lc n s
  obtain ⟨hslot, hother, hready⟩ := abandoned_slots hne s
  obtain ⟨hleft, hempty, hturn⟩ := promote_left hne hslot (hother ▸ hm)
  refine ⟨hleft, hcount.trans hcount', hdriver.trans hdriver', ?_, hsilence.trans hsilence', hjabber.trans hjabber',
    fun h => hempty (hother.trans h), fun w hw h => hturn w (hother.trans hw) (hready h), ?_⟩
  · rw [promote_eq]
    rfl
  · rw [promote_eq]
    rfl

theorem abandonFrame_eq {memory : Option MemoryRecord} {s : State} {n : SlotName} {v : Slot} (hv : getSlot n s.lc = some v)
    (hs : v.sending = true) (hrestart : holdsRestart (some v) = false) : abandonFrame memory n s = promote (abandoned n s) :=
  abandonFrame_sending hv hs hrestart

theorem holdsRestart_attempts (v : Slot) (a : Nat) : holdsRestart (some { v with attempts := a }) = holdsRestart (some v) := by
  obtain ⟨sending, frame, attempts, expiry⟩ := v
  cases frame <;> rfl

/-- The eighth collision (R9). -/
theorem jamEnds_abandons {s : State} {n m : SlotName} {v : Slot} {k : Nat} (memory : Option MemoryRecord) (hone : OneSlotSends s)
    (hv : getSlot n s.lc = some v) (hsends : v.sending = true) (hrestart : holdsRestart (some v) = false) (hne : m ≠ n)
    (hjam : s.lc.contention = .jam k) (height : 8 ≤ v.attempts + 1) : Abandons n m s (jamEnds memory s) := by
  have hm := other_not_sending hone (isSending_of hv hsends) hne
  rw [jamEnds_afterJam memory hone hjam hv hsends]
  unfold afterJam
  dsimp only
  rw [if_pos height, abandonFrame_eq (v := { v with attempts := v.attempts + 1 }) (by simp) hsends (holdsRestart_attempts .. ▸ hrestart)]
  have hsame : abandoned n (s.setLc (setSlot n (some { v with attempts := v.attempts + 1 }) { s.lc with driverActive := 0 }))
      = abandoned n s := by cases n <;> rfl
  rw [hsame]
  exact abandons_promote hne hm

/-- The guard cuts the driver (R10). -/
theorem jabberCuts_eq {s : State} {n : SlotName} {v : Slot} (memory : Option MemoryRecord) (hone : OneSlotSends s)
    (hv : getSlot n s.lc = some v) (hsends : v.sending = true) (hrestart : holdsRestart (some v) = false)
    (hdriving : driving s.lc.contention = true) : jabberCuts memory s
      = promote (abandoned n (s.setLc { s.lc with jabberSeen := true, silence := some 10000000 })) := by
  have hv' : getSlot n (s.setLc { s.lc with jabberSeen := true, silence := some 10000000 }).lc = some v := by
    cases n <;> exact hv
  unfold jabberCuts
  rw [hdriving, sendingSlot_of hone hv hsends]
  exact abandonFrame_eq hv' hsends hrestart

/-- Settles O9. -/
theorem frameAbandoned : Obligations.FrameAbandoned := by
  unfold Obligations.FrameAbandoned
  intro s n m v memory hon hone hv hsends hrestart hne
  refine ⟨fun k hjam height => ⟨_, next_on hon rfl, ?_⟩, fun hdriving => ⟨_, next_on hon rfl, ?_⟩⟩
  · obtain ⟨hslot, hcount, hdriver, hstore, hsilence, hjabber, hempty, hturn, hframe⟩ :=
      jamEnds_abandons memory hone hv hsends hrestart hne hjam height
    exact ⟨hslot, hcount, hdriver, hstore, hsilence, hjabber, hempty, hturn, hframe⟩
  · have hm := other_not_sending hone (isSending_of hv hsends) hne
    have heq := jabberCuts_eq memory hone hv hsends hrestart hdriving
    have hm' : getSlot m (s.setLc { s.lc with jabberSeen := true, silence := some 10000000 }).lc = getSlot m s.lc := by
      cases m <;> rfl
    obtain ⟨hslot, hcount, hdriver, hstore, hsilence, hjabber, hempty, hturn, hframe⟩ :=
      abandons_promote hne (s := s.setLc { s.lc with jabberSeen := true, silence := some 10000000 }) (hm' ▸ hm)
    rw [heq]
    refine ⟨hslot, hcount, hdriver, hstore, hsilence, hjabber, fun h => hempty (hm'.trans h),
      fun w hw hready => ⟨hturn w (hm'.trans hw) hready, ?_⟩, hframe⟩
    obtain ⟨hleft, hother, horder⟩ := abandoned_slots hne (s.setLc { s.lc with jabberSeen := true, silence := some 10000000 })
    unfold promote
    rw [promoteLc_turn (sendingSlot_left hne hleft (hother.trans hm' ▸ hm)) (horder hready) (hother.trans (hm'.trans hw)),
      contend_stays (.inr ?_)]
    · rfl
    · cases n <;> cases m <;> simp [mayTransmit, abandoned, setSlot]

/-! ## O10 -/

theorem frameGone_eq {s : State} {n : SlotName} {v : Slot} {k : Nat} {os : List Octet} (memory : Option MemoryRecord)
    (hone : OneSlotSends s) (hattempt : s.lc.contention = .attempt k os) (hv : getSlot n s.lc = some v) (hsends : v.sending = true)
    (hrestart : holdsRestart (some v) = false) : frameGone memory s = promote (freeSlot n (entriesSent v.frame s)) := by
  unfold frameGone
  rw [hattempt, sendingSlot_of hone hv hsends]
  dsimp only
  rw [hv]
  dsimp only [afterLeaving]
  rw [hrestart, if_neg (by decide)]

theorem entriesSent_lc (f : Frame) (s : State) : (entriesSent f s).lc = s.lc := by
  cases f <;> rfl

theorem freeSlot_slots {n m : SlotName} (hne : m ≠ n) {s : State} (hn : isSending (getSlot n s.lc) = true) :
    getSlot n (freeSlot n s).lc = none ∧ getSlot m (freeSlot n s).lc = getSlot m s.lc
      ∧ (freeSlot n s).lc.contention = .none ∧ (freeSlot n s).lc.abandoned = s.lc.abandoned ∧ (freeSlot n s).lc.driverActive = 0
      ∧ (s.lc.readyOrder = [m] → (freeSlot n s).lc.readyOrder = [m])
      ∧ (s.lc.readyOrder = [] → (freeSlot n s).lc.readyOrder = []) := by
  rw [freeSlot_sending hn]
  cases n <;> cases m <;> simp_all [getSlot, setSlot]

/-- Settles O10. -/
theorem frameSentFreesSlot : Obligations.FrameSentFreesSlot := by
  unfold Obligations.FrameSentFreesSlot
  intro s n m v k os memory hon hone hattempt hv hsends hrestart hne
  have hlc := entriesSent_lc v.frame s
  have hsending : isSending (getSlot n (entriesSent v.frame s).lc) = true := by
    rw [hlc]
    exact isSending_of hv hsends
  obtain ⟨hslot, hother, hnone, hcount, hdriver, hone', hready⟩ := freeSlot_slots hne hsending
  rw [hlc] at hother hcount hone' hready
  obtain ⟨hleft, hempty, hturn⟩ := promote_left hne hslot (hother ▸ other_not_sending hone (isSending_of hv hsends) hne)
  obtain ⟨hcount', hdriver', -, -⟩ := promote_keeps (freeSlot n (entriesSent v.frame s))
  refine ⟨_, next_on hon (frameGone_eq memory hone hattempt hv hsends hrestart), hleft, hcount'.trans hcount, hdriver'.trans hdriver,
    fun a ha => ?_, fun a ha => ?_, fun hm horder => ⟨hempty (hother.trans hm), ?_⟩,
    fun w hw horder => hturn w (hother.trans hw) (hone' horder), ?_⟩
  · rw [promote_eq, freeSlot_sending hsending, ha]
    rfl
  · rw [promote_eq, freeSlot_sending hsending, ha]
    rfl
  · unfold promote
    rw [promoteLc_empty (hready horder), contend_stays (.inl ?_)]
    · exact hnone
    · simp [hnone]
  · rw [promote_eq, freeSlot_sending hsending]
    cases v.frame <;> rfl

/-! ## O11 -/

theorem kindOf_eq_none (o : Octet) : kindOf o = none ↔ o ∉ [0x41, 0x51, 0x61] := by
  simp only [kindOf, List.mem_cons, List.not_mem_nil, or_false, not_or]
  by_cases ha : o = 0x41
  · simp [ha]
  · by_cases hq : o = 0x51
    · simp [hq]
    · by_cases hr : o = 0x61
      · simp [hr]
      · rw [if_neg ha, if_neg hq, if_neg hr]
        exact ⟨fun _ => ⟨ha, hq, hr⟩, fun _ => rfl⟩

theorem kindOf_eq_some {o : Octet} {k : FrameKind} (h : kindOf o = some k) :
    (k = .announce ↔ o = 0x41) ∧ (k = .query ↔ o = 0x51) ∧ (k = .answer ↔ o = 0x61) := by
  unfold kindOf at h
  split at h
  next ho =>
    obtain rfl := Option.some.inj h
    subst ho
    decide
  · split at h
    next ho =>
      obtain rfl := Option.some.inj h
      subst ho
      decide
    · split at h
      next ho =>
        obtain rfl := Option.some.inj h
        subst ho
        decide
      · cases h

/-- The tests of R13 in one condition. -/
def failsTests (os : List RxOctet) (d : List Octet) (len : Nat) : Prop :=
  os.length < 8 ∨ octetAt d 0 ≠ 0x2D ∨ octetAt d 1 ≠ 0xB4 ∨ 240 < len ∨ os.length < 8 + len
    ∨ (∃ o ∈ os.take (8 + len), o.framing = true)
    ∨ crc16 ((d.drop 2).take (4 + len)) ≠ octetAt d (6 + len) ++ octetAt d (7 + len)
    ∨ octetAt d 3 = 0 ∨ 15 < (octetAt d 3).toNat ∨ octetAt d 2 ∉ [0x41, 0x51, 0x61]

theorem word16At_body (d : List Octet) (len : Nat) : word16At d (6 + len) = octetAt d (6 + len) ++ octetAt d (7 + len) := by
  rw [word16At, show 6 + len + 1 = 7 + len by omega]

/-- A run is a frame exactly when it passes every test, and the fields taken are those of its octets. -/
theorem judgeFrame_cases (os : List RxOctet) (d : List Octet) (len : Nat) (hd : d = os.map RxOctet.data)
    (hlen : len = (octetAt d 5).toNat) :
    failsTests os d len ∧ judgeFrame os = none
      ∨ ¬ failsTests os d len ∧ ∃ k, kindOf (octetAt d 2) = some k
        ∧ judgeFrame os = some (k, octetAt d 3, octetAt d 4, (d.drop 6).take len) := by
  unfold judgeFrame
  dsimp only
  rw [← hd, ← hlen, word16At_body]
  by_cases hshort : os.length < 8
  · exact .inl ⟨.inl hshort, if_pos hshort⟩
  rw [if_neg hshort]
  by_cases hmark : octetAt d 0 ≠ 0x2D ∨ octetAt d 1 ≠ 0xB4
  · refine .inl ⟨.inr ?_, if_pos hmark⟩
    exact hmark.elim .inl fun h => .inr (.inl h)
  rw [if_neg hmark]
  by_cases hlong : 240 < len
  · exact .inl ⟨.inr (.inr (.inr (.inl hlong))), if_pos hlong⟩
  rw [if_neg hlong]
  by_cases hcut : os.length < 8 + len
  · exact .inl ⟨.inr (.inr (.inr (.inr (.inl hcut)))), if_pos hcut⟩
  rw [if_neg hcut]
  by_cases hframing : (os.take (8 + len)).any RxOctet.framing = true
  · exact .inl ⟨.inr (.inr (.inr (.inr (.inr (.inl (by simpa using hframing)))))), if_pos hframing⟩
  rw [if_neg hframing]
  by_cases hcheck : crc16 ((d.drop 2).take (4 + len)) ≠ octetAt d (6 + len) ++ octetAt d (7 + len)
  · exact .inl ⟨.inr (.inr (.inr (.inr (.inr (.inr (.inl hcheck)))))), if_pos hcheck⟩
  rw [if_neg hcheck]
  by_cases hsource : octetAt d 3 = 0 ∨ 15 < (octetAt d 3).toNat
  · refine .inl ⟨.inr (.inr (.inr (.inr (.inr (.inr (.inr ?_)))))), if_pos hsource⟩
    exact hsource.elim .inl fun h => .inr (.inl h)
  rw [if_neg hsource]
  cases hkind : kindOf (octetAt d 2) with
  | none =>
    exact .inl ⟨.inr (.inr (.inr (.inr (.inr (.inr (.inr (.inr (.inr ((kindOf_eq_none _).mp hkind))))))))), rfl⟩
  | some k =>
    refine .inr ⟨?_, k, rfl, rfl⟩
    rintro (h | h | h | h | h | h | h | h | h | h)
    · exact hshort h
    · exact hmark (.inl h)
    · exact hmark (.inr h)
    · exact hlong h
    · exact hcut h
    · exact hframing (by simpa using h)
    · exact hcheck h
    · exact hsource (.inl h)
    · exact hsource (.inr h)
    · rw [(kindOf_eq_none _).mpr h] at hkind
      cases hkind

/-- What the receive path takes from a run it judges. -/
theorem receives_run {s : State} {r : RxRun} (levels : List Level) (memory : Option MemoryRecord) (hrx : s.lc.rx = some r)
    (hown : r.own = false) (hjudged : r.judged = false) :
    receives levels memory s = judgeRun r (receiveOctets levels) memory s := by
  unfold receives
  rw [hrx]
  simp [hown, hjudged]

theorem markJudged_eq {l : LC} {r : RxRun} (h : l.rx = some r) : markJudged l = { l with rx := some { r with judged := true } } := by
  unfold markJudged
  rw [h]
  rfl

theorem freeSlot_eq (n : SlotName) (s : State) : freeSlot n s = { s with
    lc := freeLc n s.lc
    rs := { s.rs with carried := if isSending (getSlot n s.lc) then 0 else s.rs.carried } } := by
  unfold freeSlot
  cases isSending (getSlot n s.lc) <;> rfl

/-- What the abandonment of the frame of a slot leaves, whether it is SENDING or READY. -/
theorem abandonSlot_keeps (n : SlotName) (s : State) : (abandonSlot n s).lc.duplicateId = s.lc.duplicateId
    ∧ (abandonSlot n s).lc.ring = s.lc.ring ∧ (abandonSlot n s).lc.badFrame = s.lc.badFrame
    ∧ (abandonSlot n s).lc.abandoned = bump s.lc.abandoned ∧ (abandonSlot n s).rs.events = s.rs.events
    ∧ getSlot n (abandonSlot n s).lc = none ∧ ∀ m, m ≠ n → getSlot m (abandonSlot n s).lc = getSlot m s.lc := by
  have hfree := freeSlot_eq n s
  unfold abandonSlot
  rw [hfree]
  refine ⟨?_, ?_, ?_, ?_, rfl, ?_, fun m hm => ?_⟩
  · cases n <;> rfl
  · cases n <;> rfl
  · cases n <;> rfl
  · cases n <;> rfl
  · cases n <;> rfl
  · obtain ⟨rfl, rfl⟩ | ⟨rfl, rfl⟩ := slots_of_ne hm <;> rfl

theorem abandonSlot_eq (n : SlotName) (s : State) :
    abandonSlot n s = { s with lc := (abandonSlot n s).lc, rs := (abandonSlot n s).rs } := by
  rw [State.eq_iff]
  simp

/-- The frame a slot holds is abandoned; an EMPTY slot stands. -/
theorem abandonHeld_keeps (n : SlotName) (s : State) {t : State} (ht : t = if (getSlot n s.lc).isSome then abandonSlot n s else s) :
    t.lc.duplicateId = s.lc.duplicateId ∧ t.lc.ring = s.lc.ring ∧ t.lc.badFrame = s.lc.badFrame
      ∧ (getSlot n s.lc = none → t.lc.abandoned = s.lc.abandoned) ∧ (getSlot n s.lc ≠ none → t.lc.abandoned = bump s.lc.abandoned)
      ∧ t.rs.events = s.rs.events ∧ getSlot n t.lc = none ∧ (∀ m, m ≠ n → getSlot m t.lc = getSlot m s.lc)
      ∧ t = { s with lc := t.lc, rs := t.rs } := by
  cases hslot : getSlot n s.lc with
  | none =>
    rw [hslot, if_neg (by decide)] at ht
    subst ht
    exact ⟨rfl, rfl, rfl, fun _ => rfl, fun h => absurd rfl h, rfl, hslot, fun _ _ => rfl, rfl⟩
  | some v =>
    rw [hslot, if_pos Option.isSome_some] at ht
    subst ht
    obtain ⟨hdup, hring, hbad, hcount, hevents, hempty, hother⟩ := abandonSlot_keeps n s
    exact ⟨hdup, hring, hbad, fun h => (Option.some_ne_none v h).elim, fun _ => hcount, hevents, hempty, hother, abandonSlot_eq n s⟩

/-- R14: the frames of both slots are abandoned when the own id is heard, neither of them a restart answer. -/
theorem latchDuplicate_abandons {s : State} (memory : Option MemoryRecord) (hnew : s.lc.duplicateId = false)
    (ha : holdsRestart s.lc.slotA = false) (hb : holdsRestart s.lc.slotB = false) :
    (latchDuplicate memory s).lc.duplicateId = true ∧ (latchDuplicate memory s).lc.slotA = none
      ∧ (latchDuplicate memory s).lc.slotB = none ∧ (latchDuplicate memory s).lc.ring = s.lc.ring
      ∧ (latchDuplicate memory s).lc.badFrame = s.lc.badFrame
      ∧ (s.lc.slotA = none → s.lc.slotB = none → (latchDuplicate memory s).lc.abandoned = s.lc.abandoned)
      ∧ (s.lc.slotA ≠ none → s.lc.slotB = none → (latchDuplicate memory s).lc.abandoned = bump s.lc.abandoned)
      ∧ (s.lc.slotA = none → s.lc.slotB ≠ none → (latchDuplicate memory s).lc.abandoned = bump s.lc.abandoned)
      ∧ (s.lc.slotA ≠ none → s.lc.slotB ≠ none → (latchDuplicate memory s).lc.abandoned = bump (bump s.lc.abandoned))
      ∧ (latchDuplicate memory s).rs.events = s.rs.events
      ∧ latchDuplicate memory s = { s with lc := (latchDuplicate memory s).lc, rs := (latchDuplicate memory s).rs } := by
  unfold latchDuplicate
  dsimp only
  rw [if_neg (by simp [hnew]), ha, hb, Bool.or_false, if_neg (by decide)]
  generalize ht : (if (s.setLc { s.lc with duplicateId := true }).lc.slotA.isSome then
    abandonSlot .a (s.setLc { s.lc with duplicateId := true }) else s.setLc { s.lc with duplicateId := true }) = t
  obtain ⟨hdup, hring, hbad, hfree, hheld, hevents, hempty, hother, hframe⟩ := abandonHeld_keeps .a _ ht.symm
  generalize hu : (if t.lc.slotB.isSome then abandonSlot .b t else t) = u
  obtain ⟨hdup', hring', hbad', hfree', hheld', hevents', hempty', hother', hframe'⟩ := abandonHeld_keeps .b t hu.symm
  have hb : t.lc.slotB = s.lc.slotB := hother .b (by decide)
  refine ⟨hdup'.trans hdup, (hother' .a (by decide)).trans hempty, hempty', hring'.trans hring, hbad'.trans hbad,
    fun h k => (hfree' (hb.trans k)).trans (hfree h), fun h k => (hfree' (hb.trans k)).trans (hheld h),
    fun h k => (hheld' (fun h0 => k (hb.symm.trans h0))).trans (congrArg bump (hfree h)),
    fun h k => (hheld' (fun h0 => k (hb.symm.trans h0))).trans (congrArg bump (hheld h)),
    hevents'.trans hevents, ?_⟩
  rw [hframe', hframe]
  rfl

/-- Settles O11. -/
theorem frameReceivedEntersRing : Obligations.FrameReceivedEntersRing := by
  unfold Obligations.FrameReceivedEntersRing
  refine ⟨fun os d len hd hlen => ?_, fun s r levels memory hon hrx hown hjudged => ?_,
    fun s r levels memory kind dest body hon hrx hown hjudged hframe hnew ha hb => ?_⟩
  · rcases judgeFrame_cases os d len hd hlen with ⟨hfails, hnone⟩ | ⟨hpasses, k, hk, hsome⟩
    · refine ⟨⟨fun _ => hfails, fun _ => hnone⟩, fun kind source dest body h => ?_⟩
      rw [hnone] at h
      cases h
    · refine ⟨⟨fun h => ?_, fun h => absurd h hpasses⟩, fun kind source dest body h => ?_⟩
      · rw [hsome] at h
        cases h
      · rw [hsome] at h
        obtain ⟨rfl, rfl, rfl, rfl⟩ : k = kind ∧ octetAt d 3 = source ∧ octetAt d 4 = dest ∧ (d.drop 6).take len = body := by
          simpa using h
        obtain ⟨hannounce, hquery, hanswer⟩ := kindOf_eq_some hk
        exact ⟨hannounce, hquery, hanswer, rfl, rfl, rfl⟩
  · have hreceives := receives_run levels memory hrx hown hjudged
    refine ⟨fun hbad => next_on hon ?_, fun kind source dest body hframe hforeign => ?_⟩
    · rw [hreceives]
      unfold judgeRun
      dsimp only
      rw [hbad, markJudged_eq hrx]
      rfl
    · refine ⟨fun hzero helse => next_on hon ?_, fun hmine hroom => next_on hon ?_, fun hmine hfull => next_on hon ?_⟩
      all_goals
        rw [hreceives]
        unfold judgeRun
        dsimp only
        rw [hframe, markJudged_eq hrx]
        dsimp only
        rw [if_neg (by simpa using hforeign)]
      · rw [if_pos ⟨hzero, helse⟩]
        rfl
      · rw [if_neg (fun h => hmine.elim h.1 h.2), enterRing, if_neg (by simpa using hroom)]
        rfl
      · rw [if_neg (fun h => hmine.elim h.1 h.2), enterRing, if_pos (by simpa using hfull)]
        rfl
  · have hlatches : receives levels memory s = latchDuplicate memory (s.setLc { s.lc with rx := some { r with judged := true } }) := by
      rw [receives_run levels memory hrx hown hjudged]
      unfold judgeRun
      dsimp only
      rw [hframe, markJudged_eq hrx]
      exact if_pos rfl
    obtain ⟨hdup, hslotA, hslotB, hring, hbad, hnone, hfirst, hsecond, hboth, hevents, hrest⟩ :=
      latchDuplicate_abandons (s := s.setLc { s.lc with rx := some { r with judged := true } }) memory hnew ha hb
    exact ⟨_, next_on hon hlatches, hdup, hslotA, hslotB, hring, hbad, hnone, hfirst, hsecond, hboth, hevents, hrest⟩

/-! ## O12 -/

theorem dispatches_entry {s : State} {e : RingEntry} {rest : List RingEntry} (hfree : s.lc.dispatcher = none)
    (hring : s.lc.ring = e :: rest) : dispatches s = s.setLc (dispatchEntry s.sul.stationId e { s.lc with ring := rest }) := by
  unfold dispatches
  rw [hfree, hring]

theorem freeSlot_ready {s : State} {n : SlotName} (h : isSending (getSlot n s.lc) = false) : freeSlot n s = { s with
    lc := { setSlot n none s.lc with readyOrder := s.lc.readyOrder.filter (· != n) } } := by
  unfold freeSlot freeLc
  rw [h]
  cases n <;> rfl

/-- A turn with a frame SENDING that draws no spread changes nothing. -/
theorem promote_busy {s : State} {n : SlotName} (hsends : sendingSlot s.lc = some n)
    (hstays : s.lc.contention ≠ .waitIdle ∨ mayTransmit s = false) : promote s = s := by
  unfold promote
  rw [promoteLc_busy hsends]
  exact contend_stays hstays

theorem sendingSlot_other {l : LC} {n m : SlotName} {w : Slot} (hne : m ≠ n) (hn : getSlot n l = none) (hm : getSlot m l = some w)
    (hw : w.sending = true) : sendingSlot l = some m := by
  cases n <;> cases m <;> simp_all [sendingSlot, getSlot, isSending]

/-- A READY answer that is no restart answer expires while the other frame is SENDING. -/
theorem answerExpires_eq {s : State} {n m : SlotName} {v w : Slot} (memory : Option MemoryRecord) (hne : m ≠ n)
    (hv : getSlot n s.lc = some v) (hready : v.sending = false) (hanswer : ∃ a : Answer, v.frame = .answer a ∧ a.restart = false)
    (hw : getSlot m s.lc = some w) (hsends : w.sending = true) (hstays : s.lc.contention ≠ .waitIdle ∨ mayTransmit s = false) :
    answerExpires n memory s = { s with lc := setSlot n none { s.lc with
      readyOrder := s.lc.readyOrder.filter (· != n)
      queryExpired := bump s.lc.queryExpired } } := by
  obtain ⟨sending, frame, attempts, expiry⟩ := v
  obtain ⟨a, rfl, hrestart⟩ := hanswer
  obtain rfl : sending = false := hready
  have hslot : isSending (getSlot n s.lc) = false := by rw [hv]; rfl
  unfold answerExpires afterLeaving
  have hanswer : readyAnswer (some ⟨false, .answer a, attempts, expiry⟩) = true := rfl
  have hplain : holdsRestart (some ⟨false, .answer a, attempts, expiry⟩) = false := hrestart
  rw [hv]
  dsimp only
  rw [if_pos hanswer, hplain, if_neg (by decide), freeSlot_ready hslot, promote_busy (n := m)]
  · cases n <;> rfl
  · refine sendingSlot_other hne ?_ ?_ hsends
    · cases n <;> rfl
    · obtain ⟨rfl, rfl⟩ | ⟨rfl, rfl⟩ := slots_of_ne hne <;> exact hw
  · cases n <;> exact hstays

/-- Settles O12. -/
theorem dispatchHandsOn : Obligations.DispatchHandsOn := by
  unfold Obligations.DispatchHandsOn
  refine ⟨fun s e rest hon hfree hring => ?_, fun s hon => ⟨fun hheld => next_on hon ?_,
    fun n m v w memory hne hv hready hanswer hw hsends hstays =>
      next_on hon (answerExpires_eq memory hne hv hready hanswer hw hsends hstays)⟩⟩
  · have hentry := dispatches_entry hfree hring
    refine ⟨fun hkind => next_on hon ?_, fun hkind => next_on hon ?_, fun hkind hzero => next_on hon ?_,
      fun hkind hdest hown hholder => next_on hon ?_, fun hkind hdest hown hholder => next_on hon ?_⟩
    all_goals rw [hentry, dispatchEntry, hkind]; dsimp only
    · rfl
    · rfl
    · rw [if_pos hzero]
      rfl
    · rw [if_neg hdest, if_pos hown, offerQuery]
      dsimp only
      rw [hholder]
      rfl
    · obtain ⟨q, hq⟩ := Option.ne_none_iff_exists'.mp hholder
      rw [if_neg hdest, if_pos hown, offerQuery]
      dsimp only
      rw [hq]
      dsimp only
      rw [← hq]
      rfl
  · obtain ⟨q, hq⟩ := Option.ne_none_iff_exists'.mp hheld
    unfold queryExpires
    rw [hq]
    rfl

/-! ## O13 -/

theorem promote_announced (s : State) : (promote s).lc.announceSeq = s.lc.announceSeq ∧ (promote s).lc.announced = s.lc.announced
    ∧ (promote s).lc.staleAnnouncement = s.lc.staleAnnouncement := by
  rw [promote_eq, promoteLc_eq]
  exact ⟨rfl, rfl, rfl⟩

/-- An announcement with the other frame SENDING is READY behind it (Figure 12). -/
theorem promote_readyLc_busy {s : State} {n m : SlotName} {v : Slot} (a : Announcement) (hne : m ≠ n) (hm : getSlot m s.lc = some v)
    (hsends : v.sending = true) (hn : getSlot n s.lc = none) :
    getSlot n (promote (s.setLc (readyLc n (.announce a) none s.lc))).lc = some ⟨false, .announce a, 0, none⟩
      ∧ getSlot m (promote (s.setLc (readyLc n (.announce a) none s.lc))).lc = getSlot m s.lc
      ∧ (promote (s.setLc (readyLc n (.announce a) none s.lc))).lc.readyOrder = s.lc.readyOrder ++ [n]
      ∧ (promote (s.setLc (readyLc n (.announce a) none s.lc))).lc.staleAnnouncement = s.lc.staleAnnouncement := by
  have hbusy : sendingSlot (readyLc n (.announce a) none s.lc) = some m := by
    cases n <;> cases m <;> simp_all [sendingSlot, getSlot, isSending, readyLc, setSlot]
  have hpromote : promote (s.setLc (readyLc n (.announce a) none s.lc)) = contend (s.setLc (readyLc n (.announce a) none s.lc)) := by
    unfold promote
    rw [State.setLc_lc, promoteLc_busy hbusy]
    rfl
  rw [hpromote, getSlot_contend, getSlot_contend, contend_eq]
  obtain ⟨rfl, rfl⟩ | ⟨rfl, rfl⟩ := slots_of_ne hne <;> exact ⟨rfl, rfl, rfl, rfl⟩

/-- An announcement that finds both slots EMPTY is SENDING at once. -/
theorem promote_readyLc_free {s : State} (a : Announcement) (hb : s.lc.slotB = none)
    (hready : s.lc.readyOrder = []) :
    (promote (s.setLc (readyLc .a (.announce a) none s.lc))).lc.slotA = some ⟨true, .announce a, 0, none⟩
      ∧ (promote (s.setLc (readyLc .a (.announce a) none s.lc))).lc.slotB = none
      ∧ (promote (s.setLc (readyLc .a (.announce a) none s.lc))).lc.readyOrder = []
      ∧ (promote (s.setLc (readyLc .a (.announce a) none s.lc))).lc.staleAnnouncement = s.lc.staleAnnouncement := by
  have hturn : promoteLc (readyLc .a (.announce a) none s.lc) = { s.lc with
      slotA := some ⟨true, .announce a, 0, none⟩
      readyOrder := []
      contention := .waitIdle } := by
    refine (promoteLc_turn (n := .a) (rest := []) (v := ⟨false, .announce a, 0, none⟩) ?_ ?_ rfl).trans rfl
    · simp [sendingSlot, readyLc, setSlot, isSending, hb]
    · simp [readyLc, setSlot, hready]
  unfold promote
  rw [State.setLc_lc, hturn, contend_eq]
  exact ⟨rfl, hb, rfl, rfl⟩

theorem readyAnnounce_sending {v : Slot} (h : v.sending = true) : readyAnnounce (some v) = false := by
  obtain ⟨sending, frame, attempts, expiry⟩ := v
  obtain rfl : sending = true := h
  rfl

/-- What placing an announcement leaves. -/
theorem placeAnnouncement_keeps (a : Announcement) (s : State) : (placeAnnouncement a s).lc.announceSeq = s.lc.announceSeq
    ∧ (placeAnnouncement a s).lc.announced = s.lc.announced
    ∧ placeAnnouncement a s = { s with lc := (placeAnnouncement a s).lc, draws := (placeAnnouncement a s).draws } := by
  have hover : ∀ n, (overwriteLc n a s.lc).announceSeq = s.lc.announceSeq ∧ (overwriteLc n a s.lc).announced = s.lc.announced := by
    intro n
    unfold overwriteLc
    split
    · cases n <;> exact ⟨rfl, rfl⟩
    · exact ⟨rfl, rfl⟩
  unfold placeAnnouncement
  split
  · exact ⟨(hover .a).1, (hover .a).2, rfl⟩
  · split
    · exact ⟨(hover .b).1, (hover .b).2, rfl⟩
    · split
      next n _ =>
        obtain ⟨hseq, hannounced, -⟩ := promote_announced (s.setLc (readyLc n (.announce a) none s.lc))
        refine ⟨hseq.trans ?_, hannounced.trans ?_, ?_⟩
        · cases n <;> rfl
        · cases n <;> rfl
        · rw [promote_eq]
          rfl
      · exact ⟨rfl, rfl, rfl⟩

/-- The announcement placed in each case of Figure 12. -/
theorem placeAnnouncement_slots (a : Announcement) (s : State) {t : State} (ht : t = placeAnnouncement a s) :
    (∀ v, s.lc.slotA = some v → readyAnnounce s.lc.slotA = true →
        t.lc.slotA = some { v with frame := .announce a } ∧ t.lc.slotB = s.lc.slotB
          ∧ t.lc.readyOrder = s.lc.readyOrder ∧ t.lc.staleAnnouncement = bump s.lc.staleAnnouncement)
      ∧ (∀ v, readyAnnounce s.lc.slotA = false → s.lc.slotB = some v → readyAnnounce s.lc.slotB = true →
        t.lc.slotB = some { v with frame := .announce a } ∧ t.lc.slotA = s.lc.slotA
          ∧ t.lc.readyOrder = s.lc.readyOrder ∧ t.lc.staleAnnouncement = bump s.lc.staleAnnouncement)
      ∧ (∀ v, s.lc.slotA = none → s.lc.slotB = some v → v.sending = true →
        t.lc.slotA = some ⟨false, .announce a, 0, none⟩ ∧ t.lc.slotB = s.lc.slotB
          ∧ t.lc.readyOrder = s.lc.readyOrder ++ [.a] ∧ t.lc.staleAnnouncement = s.lc.staleAnnouncement)
      ∧ (∀ v, s.lc.slotB = none → s.lc.slotA = some v → v.sending = true →
        t.lc.slotB = some ⟨false, .announce a, 0, none⟩ ∧ t.lc.slotA = s.lc.slotA
          ∧ t.lc.readyOrder = s.lc.readyOrder ++ [.b] ∧ t.lc.staleAnnouncement = s.lc.staleAnnouncement)
      ∧ (s.lc.slotA = none → s.lc.slotB = none → s.lc.readyOrder = [] →
        t.lc.slotA = some ⟨true, .announce a, 0, none⟩ ∧ t.lc.slotB = none
          ∧ t.lc.readyOrder = [] ∧ t.lc.staleAnnouncement = s.lc.staleAnnouncement)
      ∧ (s.lc.slotA ≠ none → s.lc.slotB ≠ none → readyAnnounce s.lc.slotA = false → readyAnnounce s.lc.slotB = false →
        t.lc.slotA = s.lc.slotA ∧ t.lc.slotB = s.lc.slotB ∧ t.lc.readyOrder = s.lc.readyOrder
          ∧ t.lc.staleAnnouncement = bump s.lc.staleAnnouncement) := by
  subst ht
  unfold placeAnnouncement
  refine ⟨fun v hv ha => ?_, fun v ha hv hb => ?_, fun v ha hv hsends => ?_, fun v hb hv hsends => ?_, fun ha hb hready => ?_,
    fun hna hnb ha hb => ?_⟩
  · rw [if_pos ha]
    unfold overwriteLc
    rw [show getSlot .a s.lc = some v from hv]
    exact ⟨rfl, rfl, rfl, rfl⟩
  · rw [ha, if_neg (by decide), if_pos hb]
    unfold overwriteLc
    rw [show getSlot .b s.lc = some v from hv]
    exact ⟨rfl, rfl, rfl, rfl⟩
  · have hempty : emptySlot s.lc = some .a := by simp [emptySlot, ha]
    rw [ha, hv, readyAnnounce_sending hsends, hempty, ← hv]
    exact promote_readyLc_busy (n := .a) (m := .b) a (by decide) hv hsends ha
  · have hempty : emptySlot s.lc = some .b := by simp [emptySlot, hb, hv]
    rw [hb, hv, readyAnnounce_sending hsends, hempty, ← hv]
    exact promote_readyLc_busy (n := .b) (m := .a) a (by decide) hv hsends hb
  · have hempty : emptySlot s.lc = some .a := by simp [emptySlot, ha]
    rw [ha, hb, hempty]
    exact promote_readyLc_free a hb hready
  · have hempty : emptySlot s.lc = none := by simp [emptySlot, hna, hnb]
    rw [ha, hb, hempty]
    exact ⟨rfl, rfl, rfl, rfl⟩

theorem announceDue_eq_false {s : State} (h : s.tb.second ∈ s.lc.announced) : announceDue s = false := by
  simp [announceDue, h]

theorem announceDue_eq_true {s : State} (h : s.tb.second ∉ s.lc.announced) : announceDue s = true := by
  simp [announceDue, h]

/-- The node whose announce point falls, as it stands when the announcement is placed (R18). -/
def announcing (s : State) : State :=
  s.setLc { s.lc with announced := s.tb.second :: s.lc.announced, announceSeq := s.lc.announceSeq + 1 }

theorem announceNow_composes {s : State} (h : composing s = true) :
    announceNow s = placeAnnouncement (composeAnnouncement s) (announcing s) := by
  unfold announceNow
  exact if_pos h

/-- Settles O13. -/
theorem announcePointPlaces : Obligations.AnnouncePointPlaces := by
  unfold Obligations.AnnouncePointPlaces
  refine ⟨fun s hon hearly => next_on hon (if_neg ?_), fun s hon hlate hnew => ?_⟩
  · rintro ⟨hlate, hdue⟩
    rcases hearly with hearly | hdone
    · omega
    · rw [announceDue_eq_false hdone] at hdue
      cases hdue
  · have hfalls : announceWhenDue s = announceNow s := if_pos ⟨hlate, announceDue_eq_true hnew⟩
    refine ⟨fun hsilent => next_on hon (hfalls.trans ?_), fun hcomposes => ⟨_, next_on hon hfalls, ?_⟩⟩
    · unfold announceNow
      exact if_neg (by simpa [composing, listenOnly] using hsilent)
    · rw [announceNow_composes hcomposes]
      obtain ⟨hseq, hannounced, hframe⟩ := placeAnnouncement_keeps (composeAnnouncement s) (announcing s)
      obtain ⟨hreadyA, hreadyB, hbehindB, hbehindA, hfree, hfull⟩ :=
        placeAnnouncement_slots (composeAnnouncement s) (announcing s) rfl
      exact ⟨hseq, hannounced, hreadyA, hreadyB, hbehindB, hbehindA, hfree, hfull, hframe⟩

/-! ## O14 -/

/-- Settles O14. -/
theorem announcementComposed : Obligations.AnnouncementComposed := by
  unfold Obligations.AnnouncementComposed
  intro s
  refine ⟨composeAnnouncement s, rfl, rfl, rfl, rfl, rfl, rfl, rfl, ?_, ?_, ?_, rfl, ?_, ?_, ?_, ?_, ?_, rfl, rfl⟩
  · simp [composeAnnouncement, lockedFlag]
  · rintro (h | h) <;> simp [composeAnnouncement, announcedReference, h]
  · rintro (h | h) <;> simp [composeAnnouncement, announcedReference, h]
  · simp [composeAnnouncement]
  · rintro (h | h) <;> cases hrole : s.sul.image.vectorRole <;> simp_all [composeAnnouncement, announcedVector]
  · intro v hrole hv
    simp [composeAnnouncement, announcedVector, hrole, hv]
  · rintro (h | h) <;> simp [composeAnnouncement, h]
  · intro f hrole hf
    simp [composeAnnouncement, hrole, hf]

end Sys2Proof.Machine
end

section
/-! PROOF. Queries and their answers (O15, O16, O17): the placing of an answer once, then what each request is answered. -/

namespace Sys2Proof.Machine

/-! ## An answer takes its slot -/

theorem getSlot_of_emptySlot {l : LC} {n : SlotName} (h : emptySlot l = some n) : getSlot n l = none := by
  unfold emptySlot at h
  split at h
  next ha =>
    obtain rfl := Option.some.inj h
    exact Option.isNone_iff_eq_none.mp ha
  · split at h
    next hb =>
      obtain rfl := Option.some.inj h
      exact Option.isNone_iff_eq_none.mp hb
    · cases h

theorem sendingSlot_congr {l k : LC} (ha : isSending l.slotA = isSending k.slotA) (hb : isSending l.slotB = isSending k.slotB) :
    sendingSlot l = sendingSlot k := by
  unfold sendingSlot
  rw [ha, hb]

theorem sendingSlot_readyLc {l : LC} {n : SlotName} (h : getSlot n l = none) (f : Frame) (e : Option Nat) :
    sendingSlot (readyLc n f e l) = sendingSlot l := by
  cases n with
  | a => exact sendingSlot_congr (congrArg isSending h).symm rfl
  | b => exact sendingSlot_congr rfl (congrArg isSending h).symm

theorem getSlot_readyLc (n : SlotName) (f : Frame) (e : Option Nat) (l : LC) :
    getSlot n (readyLc n f e l) = some ⟨false, f, 0, e⟩ := by
  cases n <;> rfl

theorem getSlot_readyLc_ne {n m : SlotName} (h : m ≠ n) (f : Frame) (e : Option Nat) (l : LC) :
    getSlot m (readyLc n f e l) = getSlot m l := by
  obtain ⟨rfl, rfl⟩ | ⟨rfl, rfl⟩ := slots_of_ne h <;> rfl

/-- A frame that becomes READY stands in its slot: READY with its expiry, or SENDING with none. -/
theorem promoteLc_readyLc (n : SlotName) (f : Frame) (e : Option Nat) (l : LC) :
    getSlot n (promoteLc (readyLc n f e l)) = some ⟨false, f, 0, e⟩
      ∨ getSlot n (promoteLc (readyLc n f e l)) = some ⟨true, f, 0, none⟩ := by
  have hready := getSlot_readyLc n f e l
  rcases promoteLc_cases (readyLc n f e l) with heq | ⟨k, rest, v, -, -, hv, heq⟩
  · rw [heq]
    exact .inl hready
  · rw [heq]
    by_cases hkn : n = k
    · subst hkn
      obtain rfl := Option.some.inj (hready.symm.trans hv)
      right
      cases n <;> rfl
    · left
      have hkept := (getSlot_setSlot_ne hkn (some { v with sending := true, expiry := none }) (readyLc n f e l)).trans hready
      cases n <;> exact hkept

/-- The contention of the SENDING frame after a turn that gave it the wait for IDLE. -/
theorem contend_waiting (s : State) (h : s.lc.contention = .waitIdle) :
    (contend s).lc.contention = .waitIdle ∨ ∃ k ≤ 15, (contend s).lc.contention = .spread (40 * k) := by
  rcases contend_cases s with ⟨-, -, k, hk, heq⟩ | ⟨-, heq⟩
  · rw [heq]
    exact .inr ⟨k, hk, rfl⟩
  · rw [heq]
    exact .inl h

/-- The Line Controller once a frame for the held query is READY and the turn has been taken. -/
def placedLc (n : SlotName) (f : Frame) (l : LC) : LC :=
  readyLc n f (some 10000001) { l with holder := none }

theorem promote_placedLc_taken {s : State} {n : SlotName} {f : Frame} {l : LC} {v : Slot} (hempty : getSlot n l = none)
    (hv : getSlot n (promoteLc (placedLc n f l)) = some v) : SlotTaken n v l (promote (s.setLc (placedLc n f l))).lc := by
  have hnone : getSlot n { l with holder := none } = none := by cases n <;> exact hempty
  have hsending : sendingSlot (placedLc n f l) = sendingSlot l := sendingSlot_readyLc hnone f _
  have heq := congrArg State.lc (promote_eq (s.setLc (placedLc n f l)))
  refine ⟨?_, fun hbusy => ?_, fun hidle hready => ?_, fun o w hidle hready hne hw => ?_, fun hidle hready => ?_⟩
  · rw [heq]
    dsimp only [State.setLc_lc]
    rw [promoteLc_eq]
    cases n <;> rfl
  · obtain ⟨k, hk⟩ := Option.ne_none_iff_exists'.mp hbusy
    have hstands : promoteLc (placedLc n f l) = placedLc n f l := promoteLc_busy (hsending.trans hk)
    rw [hstands] at hv
    obtain rfl := Option.some.inj ((getSlot_readyLc n f _ _).symm.trans hv)
    refine ⟨rfl, ?_, fun hcontention => ?_⟩
    · rw [heq]
      dsimp only [State.setLc_lc]
      rw [hstands]
      cases n <;> rfl
    · have hstay : (placedLc n f l).contention ≠ .waitIdle := by cases n <;> exact hcontention
      unfold promote
      rw [State.setLc_lc, hstands, contend_stays (.inl hstay)]
      cases n <;> rfl
  · have hturn := promoteLc_turn (l := placedLc n f l) (n := n) (rest := []) (hsending.trans hidle)
      (by cases n <;> simp [placedLc, readyLc, setSlot, hready]) (getSlot_readyLc n f _ _)
    have hv' := (congrArg (getSlot n) hturn).symm.trans hv
    obtain rfl : (⟨true, f, 0, none⟩ : Slot) = v := by
      cases n <;> exact Option.some.inj hv'
    refine ⟨rfl, rfl, ?_⟩
    rw [heq]
    dsimp only [State.setLc_lc]
    rw [hturn]
    cases n <;> rfl
  · have hturn := promoteLc_turn (l := placedLc n f l) (n := o) (rest := [n]) (v := w) (hsending.trans hidle)
      (by cases n <;> simp [placedLc, readyLc, setSlot, hready]) ((getSlot_readyLc_ne hne ..).trans (by cases o <;> exact hw))
    have hv' := (congrArg (getSlot n) hturn).symm.trans hv
    obtain rfl : (⟨false, f, 0, some 10000001⟩ : Slot) = v := by
      obtain ⟨rfl, rfl⟩ | ⟨rfl, rfl⟩ := slots_of_ne hne <;> exact Option.some.inj hv'
    refine ⟨rfl, ?_⟩
    rw [heq]
    dsimp only [State.setLc_lc]
    rw [hturn]
    obtain ⟨rfl, rfl⟩ | ⟨rfl, rfl⟩ := slots_of_ne hne <;> rfl
  · refine contend_waiting ((s.setLc (placedLc n f l)).setLc (promoteLc (placedLc n f l))) ?_
    rw [State.setLc_lc]
    rcases hready with hready | ⟨o, hne, hready, hheld⟩
    · rw [promoteLc_turn (l := placedLc n f l) (n := n) (rest := []) (hsending.trans hidle)
        (by cases n <;> simp [placedLc, readyLc, setSlot, hready]) (getSlot_readyLc n f _ _)]
    · obtain ⟨w, hw⟩ := Option.ne_none_iff_exists'.mp hheld
      rw [promoteLc_turn (l := placedLc n f l) (n := o) (rest := [n]) (v := w) (hsending.trans hidle)
        (by cases n <;> simp [placedLc, readyLc, setSlot, hready]) ((getSlot_readyLc_ne hne ..).trans (by cases o <;> exact hw))]

theorem answerRest_length (b : AnswerBody) (draw : Nat) : 3 + (answerRest b draw).length ≤ 240 := by
  have := (Config.answerLength draw).isLt
  unfold answerRest
  split
  · decide
  · rw [List.length_map, List.length_range]
    omega

/-- R19: an answer takes its EMPTY slot. -/
theorem placeAnswer_placed {s : State} {n : SlotName} (q : HeldQuery) (c : Composition) (hempty : getSlot n s.lc = none) :
    AnswerPlaced n q c.result c.body c.restart s.lc (placeAnswer n q c s) := by
  have hslot : ∃ v, getSlot n (promoteLc (placedLc n (.answer (answerFrame q c s.draws)) s.lc)) = some v
      ∧ v.frame = .answer (answerFrame q c s.draws) ∧ v.attempts = 0 ∧ (v.sending = false → v.expiry = some 10000001) := by
    rcases promoteLc_readyLc n (.answer (answerFrame q c s.draws)) (some 10000001) { s.lc with holder := none } with h | h
    · exact ⟨_, h, rfl, rfl, fun _ => rfl⟩
    · exact ⟨_, h, rfl, rfl, fun h => by cases h⟩
  obtain ⟨v, hv, hframe, hattempts, hexpiry⟩ := hslot
  refine ⟨v, answerRest c.body s.draws, (getSlot_promote ..).trans hv, hframe, hattempts, hexpiry, answerRest_length ..,
    fun hnothing => by rw [hnothing]; rfl, ?_⟩
  exact promote_placedLc_taken (s := s.setDraws (drawsAfter c.body s.draws)) hempty hv

/-- What an answer's placing leaves. -/
theorem placeAnswer_eq (n : SlotName) (q : HeldQuery) (c : Composition) (s : State) :
    placeAnswer n q c s = { s with lc := (placeAnswer n q c s).lc, draws := (placeAnswer n q c s).draws } := by
  unfold placeAnswer
  dsimp only
  rw [promote_eq]
  rfl

theorem composeWhen_places {s : State} {n : SlotName} {q : HeldQuery} {asks : List Octet → Bool}
    {reply : List Octet → State → Composition} {effect : State → State} (hcomposes : composing s = true)
    (hempty : emptySlot s.lc = some n) (hq : s.lc.holder = some q) (hasks : asks q.body = true) :
    composeWhen asks reply effect s = placeAnswer n q (reply q.body s) (effect s) := by
  unfold composeWhen answerPlace
  rw [if_pos hcomposes, hempty, hq]
  exact if_pos hasks

theorem asksFor_of {k : RequestKind} {b : List Octet} (h : requestKind b = k) : asksFor k b = true := by
  simp [asksFor, h]

/-! ## O15 -/

/-- R184: a read of a ring, case by case. -/
theorem readRing_answered {α : Type} (sequenceOf : α → Sequence) (give : List α → AnswerBody) (f : Sequence) (c : Nat)
    (ring : List α) : ReadAnswered sequenceOf give f c ring (readRing sequenceOf give f c ring).result
      (readRing sequenceOf give f c ring).body := by
  unfold readRing
  refine ⟨fun hzero => ?_, fun hsome hnil => ?_, fun o n hsome ho hn => ⟨fun hlate => ?_, fun hheld hgone => ?_, fun hheld hin => ?_⟩⟩
  · rw [if_pos hzero]
    exact ⟨rfl, rfl⟩
  · rw [if_neg hsome, hnil]
    exact ⟨rfl, rfl⟩
  · rw [if_neg hsome, ho, hn]
    dsimp only [Option.map_some]
    rw [if_pos (by simpa [laterThan] using hlate)]
    exact ⟨rfl, rfl⟩
  · rw [if_neg hsome, ho, hn]
    dsimp only [Option.map_some]
    rw [if_neg (by simpa [laterThan] using hheld), if_pos hgone]
    exact ⟨rfl, rfl⟩
  · rw [if_neg hsome, ho, hn]
    dsimp only [Option.map_some]
    rw [if_neg (by simpa [laterThan] using hheld), if_neg (by omega)]
    exact ⟨rfl, rfl⟩

theorem readRing_restart {α : Type} (sequenceOf : α → Sequence) (give : List α → AnswerBody) (f : Sequence) (c : Nat)
    (ring : List α) : (readRing sequenceOf give f c ring).restart = false := by
  unfold readRing
  repeat' split
  all_goals rfl

theorem readSecondsAnswer_restart (b : List Octet) (s : State) : (readSecondsAnswer b s).restart = false := by
  unfold readSecondsAnswer
  split
  · rfl
  · exact readRing_restart ..

theorem readMinutesAnswer_restart (b : List Octet) (s : State) : (readMinutesAnswer b s).restart = false := by
  unfold readMinutesAnswer
  split
  · rfl
  · exact readRing_restart ..

/-- Settles O15. -/
theorem readsAnswered : Obligations.ReadsAnswered := by
  unfold Obligations.ReadsAnswered
  intro s n q hon hcomposes hempty hq
  have hslot := getSlot_of_emptySlot hempty
  refine ⟨fun hkind => ?_, fun hkind => ?_⟩
  · have hplaced := placeAnswer_placed q (readSecondsAnswer q.body s) hslot
    rw [readSecondsAnswer_restart] at hplaced
    refine ⟨_, _, _, next_on hon (composeWhen_places hcomposes hempty hq (asksFor_of hkind)), hplaced, fun hshort => ?_,
      fun hlong => ?_, placeAnswer_eq ..⟩
    · rw [readSecondsAnswer, if_pos hshort]
      exact ⟨rfl, rfl⟩
    · rw [readSecondsAnswer, if_neg (by omega)]
      exact readRing_answered ..
  · have hplaced := placeAnswer_placed q (readMinutesAnswer q.body s) hslot
    rw [readMinutesAnswer_restart] at hplaced
    refine ⟨_, _, _, next_on hon (composeWhen_places hcomposes hempty hq (asksFor_of hkind)), hplaced, fun hshort => ?_,
      fun hlong => ?_, placeAnswer_eq ..⟩
    · rw [readMinutesAnswer, if_pos hshort]
      exact ⟨rfl, rfl⟩
    · rw [readMinutesAnswer, if_neg (by omega)]
      exact readRing_answered ..

/-! ## O16 -/

/-- Beside an EMPTY slot at most one frame is SENDING, whose attempts STATUS gives. -/
theorem sendingAttempts_of {l : LC} {n : SlotName} (hempty : getSlot n l = none) :
    ((∀ m v, getSlot m l = some v → v.sending = false) → sendingAttempts l = none)
      ∧ ∀ m v, getSlot m l = some v → v.sending = true → sendingAttempts l = some v.attempts := by
  refine ⟨fun hnone => ?_, fun m v hv hsends => ?_⟩
  · have hslot : sendingSlot l = none := by
      have hidle : ∀ m, isSending (getSlot m l) = false := fun m => by
        cases hm : getSlot m l with
        | none => rfl
        | some v => exact hnone m v hm
      unfold sendingSlot
      rw [show isSending l.slotA = false from hidle .a, show isSending l.slotB = false from hidle .b]
      rfl
    rw [sendingAttempts, hslot]
    rfl
  · have hne : m ≠ n := fun h => by
      rw [h, hempty] at hv
      cases hv
    rw [sendingAttempts, sendingSlot_other hne hempty hv hsends, Option.bind_some, hv]
    rfl

/-- What an answer's placing leaves of the Line Controller beside its slot and the turn. -/
theorem AnswerPlaced.lc_eq {n : SlotName} {q : HeldQuery} {result : ResultCode} {body : AnswerBody} {restart : Bool} {l : LC}
    {t : State} (h : AnswerPlaced n q result body restart l t) : t.lc = { l with
      slotA := t.lc.slotA
      slotB := t.lc.slotB
      readyOrder := t.lc.readyOrder
      contention := t.lc.contention
      holder := none } := by
  obtain ⟨v, rest, -, -, -, -, -, -, heq, -⟩ := h
  exact heq

/-- Settles O16. -/
theorem reportsAnswered : Obligations.ReportsAnswered := by
  unfold Obligations.ReportsAnswered
  intro s n q hon hcomposes hempty hq
  have hslot := getSlot_of_emptySlot hempty
  refine ⟨fun hkind => ?_, fun hkind => ?_⟩
  · have hslot' : getSlot n (clearLatched s).lc = none := by cases n <;> exact hslot
    have hplaced := placeAnswer_placed q ⟨.ok, .status (statusReport s), false⟩ hslot'
    have hanswers : exec .status s = .next (placeAnswer n q ⟨.ok, .status (statusReport s), false⟩ (clearLatched s)) :=
      next_on hon (composeWhen_places hcomposes hempty hq (asksFor_of hkind))
    have heq := placeAnswer_eq n q ⟨.ok, .status (statusReport s), false⟩ (clearLatched s)
    generalize placeAnswer n q ⟨.ok, .status (statusReport s), false⟩ (clearLatched s) = t at hplaced heq hanswers
    have hlc := hplaced.lc_eq
    have hstuck : t.lc.stuckSeen = (s.lc.monitor == .stuck) := congrArg LC.stuckSeen hlc
    have hjabber : t.lc.jabberSeen = s.lc.silence.isSome := congrArg LC.jabberSeen hlc
    have hduplicate : t.lc.duplicateId = s.lc.duplicateId := (congrArg LC.duplicateId hlc).trans rfl
    have hdu : t.du = { s.du with trimLimit := trimAtBound s.tb.trim } := congrArg State.du heq
    have hsul : t.sul = { s.sul with configDefaults := s.sul.isDefault } := congrArg State.sul heq
    have hcleared : (clearLatched s).lc = { s.lc with stuckSeen := t.lc.stuckSeen, jabberSeen := t.lc.jabberSeen } := by
      rw [hstuck, hjabber]
      rfl
    obtain ⟨hidle, hsends⟩ := sendingAttempts_of hslot
    rw [hcleared] at hplaced
    refine ⟨t, statusReport s, hanswers, hplaced, rfl, rfl, rfl, rfl, hidle, hsends, rfl, rfl, rfl, rfl, rfl, rfl, rfl, rfl, rfl,
      rfl, rfl, ?_, ?_, ?_, ?_, hduplicate, ?_⟩
    · rw [hstuck, beq_iff_eq]
    · rw [hjabber, Option.isSome_iff_ne_none]
    · rw [hdu]
      exact trimAtBound_iff _
    · rw [hsul]
    · rw [hdu, hsul]
      exact heq
  · exact ⟨_, _, next_on hon (composeWhen_places hcomposes hempty hq (asksFor_of hkind)),
      placeAnswer_placed q ⟨.ok, .peers (s.pt.entries.map peerReport), false⟩ hslot, rfl, placeAnswer_eq ..⟩

/-! ## O17 -/

theorem recenter_busy {v : VFE} (hoff : v.state ≠ .off) (hrunning : v.state ≠ .running) :
    recenterResult v = .busy ∧ recenterVfe v = v := by
  unfold recenterResult recenterVfe
  cases hstate : v.state <;> simp_all

theorem raiseEvent_rs (k : EventKind) (q : Second) (s : State) :
    (raiseEvent k q s).rs = if admits s.sul.image.eventMask k then raiseRs k q s.rs else s.rs := by
  unfold raiseEvent
  split <;> rfl

theorem makeReseed_rs (s : State) : (makeReseed s).rs = (raiseEvent .baselineReseed s.tb.second s).rs := by
  rw [makeReseed, raiseEvent_rs, raiseEvent_rs]
  rfl

/-- What a request's effect leaves when it does not touch the Line Controller. -/
theorem placeAnswer_after {n : SlotName} (q : HeldQuery) (c : Composition) {s u : State} (hlc : u.lc = s.lc)
    (hempty : getSlot n s.lc = none) : AnswerPlaced n q c.result c.body c.restart s.lc (placeAnswer n q c u) := by
  have hplaced := placeAnswer_placed (s := u) q c (hlc ▸ hempty)
  rwa [hlc] at hplaced

theorem asksUnknown_iff (b : List Octet) : asksUnknown b = true ↔ requestKind b = .unknown
    ∨ (requestKind b = .readSeconds ∨ requestKind b = .readMinutes) ∧ b.length < 7 := by
  unfold asksUnknown
  cases requestKind b <;> simp

/-- Settles O17. -/
theorem requestsAnswered : Obligations.RequestsAnswered := by
  unfold Obligations.RequestsAnswered
  intro s n q hon hcomposes hempty hq
  have hslot := getSlot_of_emptySlot hempty
  refine ⟨fun hkind => ?_, fun hkind => ?_, fun hkind => ?_, fun hkind => ?_⟩
  · have hplaced := placeAnswer_after q (bare (recenterResult s.vfe)) (u := recenterEffect s) rfl hslot
    have hanswers : exec .recenter s = .next (placeAnswer n q (bare (recenterResult s.vfe)) (recenterEffect s)) :=
      next_on hon (composeWhen_places hcomposes hempty hq (asksFor_of hkind))
    have hframe := placeAnswer_eq n q (bare (recenterResult s.vfe)) (recenterEffect s)
    generalize placeAnswer n q (bare (recenterResult s.vfe)) (recenterEffect s) = t at hplaced hanswers hframe
    have hvfe : t.vfe = recenterVfe s.vfe := congrArg State.vfe hframe
    refine ⟨t, hanswers, fun hoff => ?_, fun hrunning => ?_, fun hoff hrunning => ?_, ?_⟩
    · have hresult : recenterResult s.vfe = .notRole := by simp [recenterResult, hoff]
      rw [hresult] at hplaced
      exact ⟨hplaced, hvfe.trans (by simp [recenterVfe, hoff])⟩
    · have hresult : recenterResult s.vfe = .ok := by simp [recenterResult, hrunning]
      rw [hresult] at hplaced
      exact ⟨hplaced, hvfe.trans (by simp [recenterVfe, hrunning])⟩
    · obtain ⟨hresult, hstands⟩ := recenter_busy hoff hrunning
      rw [hresult] at hplaced
      exact ⟨hplaced, hvfe.trans hstands⟩
    · rw [hvfe]
      exact hframe
  · cases hrole : s.sul.image.vectorRole with
    | false =>
      have hresult : reseedAnswer q.body s = bare .notRole := by simp [reseedAnswer, hrole]
      have heffect : reseedEffect s = s := by simp [reseedEffect, hrole]
      have hanswers := composeWhen_places (reply := reseedAnswer) (effect := reseedEffect) hcomposes hempty hq (asksFor_of hkind)
      rw [hresult, heffect] at hanswers
      have hframe := placeAnswer_eq n q (bare .notRole) s
      refine ⟨_, next_on hon hanswers, fun _ => ⟨placeAnswer_placed q (bare .notRole) hslot, (congrArg State.bw hframe).trans rfl,
        (congrArg State.rs hframe).trans rfl⟩, fun h => (by cases h), hframe.trans ?_⟩
      rw [hframe]
    | true =>
      have hresult : reseedAnswer q.body s = bare .ok := by simp [reseedAnswer, hrole]
      have heffect : reseedEffect s = makeReseed s := by simp [reseedEffect, hrole]
      have hanswers := composeWhen_places (reply := reseedAnswer) (effect := reseedEffect) hcomposes hempty hq (asksFor_of hkind)
      rw [hresult, heffect] at hanswers
      have hframe := placeAnswer_eq n q (bare .ok) (makeReseed s)
      have hplaced := placeAnswer_after q (bare .ok) (u := makeReseed s) (by simp) hslot
      generalize placeAnswer n q (bare .ok) (makeReseed s) = t at hanswers hframe hplaced
      have hbw : t.bw = (makeReseed s).bw := (congrArg State.bw hframe).trans rfl
      have hrs : t.rs = (makeReseed s).rs := (congrArg State.rs hframe).trans rfl
      refine ⟨t, next_on hon hanswers, fun h => (by cases h), fun _ => ⟨hplaced, hbw.trans ?_, hrs.trans (makeReseed_rs s)⟩, ?_⟩
      · simp [makeReseed, reseedBw, axesOf, axisGet]
      · rw [hbw, hrs]
        refine hframe.trans ?_
        rw [State.eq_iff]
        simp
  · exact ⟨_, next_on hon (composeWhen_places hcomposes hempty hq (asksFor_of hkind)),
      placeAnswer_placed q ⟨.ok, .nothing, true⟩ hslot, placeAnswer_eq ..⟩
  · exact ⟨_, next_on hon (composeWhen_places hcomposes hempty hq ((asksUnknown_iff _).mpr hkind)),
      placeAnswer_placed q (bare .badRequest) hslot, placeAnswer_eq ..⟩

end Sys2Proof.Machine
end

section
/-! PROOF. What crosses the line (O18, O19): symbols and octets, the frame, and the announcement body. -/

namespace Sys2Proof.Machine

/-! ## Symbols and octets -/

theorem octetOfLevels_bits : ∀ o : Octet, octetOfLevels [bitLevel (o.getLsbD 0), bitLevel (o.getLsbD 1), bitLevel (o.getLsbD 2),
    bitLevel (o.getLsbD 3), bitLevel (o.getLsbD 4), bitLevel (o.getLsbD 5), bitLevel (o.getLsbD 6), bitLevel (o.getLsbD 7)] = o := by
  decide

/-- The octet of eight levels between a start symbol and the level where the stop symbol is due. -/
theorem receiveFrom_levels (l0 l1 l2 l3 l4 l5 l6 l7 stop : Level) (ls : List Level) :
    receiveFrom .ready (.dominant :: l0 :: l1 :: l2 :: l3 :: l4 :: l5 :: l6 :: l7 :: stop :: ls)
      = ⟨octetOfLevels [l0, l1, l2, l3, l4, l5, l6, l7], stop == .dominant⟩
        :: receiveFrom (if stop = .dominant then .held else .ready) ls := by
  simp [receiveFrom, receiveSymbol]

/-- A receiver between octets takes back the octet that was sent. -/
theorem receiveFrom_octet (o : Octet) (ls : List Level) :
    receiveFrom .ready (octetSymbols o ++ ls) = ⟨o, false⟩ :: receiveFrom .ready ls := by
  refine (receiveFrom_levels ..).trans ?_
  rw [octetOfLevels_bits]
  rfl

theorem receiveOctets_frameSymbols (os : List Octet) (after : List Level) :
    receiveOctets (frameSymbols os ++ after) = os.map (fun o => ⟨o, false⟩) ++ receiveOctets after := by
  unfold receiveOctets frameSymbols
  induction os with
  | nil => rfl
  | cons o os ih =>
    rw [List.flatMap_cons, List.append_assoc, receiveFrom_octet, ih]
    rfl

/-- After a framing error the receiver waits for the line to be recessive. -/
theorem receiveFrom_held (k : Nat) (ls : List Level) :
    receiveFrom .held (List.replicate k .dominant ++ .recessive :: ls) = receiveFrom .ready ls := by
  induction k with
  | zero => simp [receiveFrom, receiveSymbol]
  | succ k ih => simpa [List.replicate_succ, receiveFrom, receiveSymbol] using ih

theorem receiveOctets_framingError (o : Octet) (k : Nat) (after : List Level) :
    receiveOctets ((octetSymbols o).take 9 ++ List.replicate (k + 1) .dominant ++ .recessive :: after)
      = ⟨o, true⟩ :: receiveOctets after := by
  have hheld := receiveFrom_held k after
  unfold receiveOctets
  rw [List.append_assoc, List.replicate_succ, ← hheld]
  refine (receiveFrom_levels ..).trans ?_
  rw [octetOfLevels_bits]
  rfl

/-! ## Fields and their octets -/

theorem octets16_join (v : BitVec 16) : v.extractLsb' 8 8 ++ v.extractLsb' 0 8 = v := by
  rw [BitVec.extractLsb'_append_extractLsb'_eq_extractLsb' (by rfl)]
  simp

theorem octets32_join (v : BitVec 32) :
    v.extractLsb' 24 8 ++ v.extractLsb' 16 8 ++ v.extractLsb' 8 8 ++ v.extractLsb' 0 8 = v := by
  rw [BitVec.extractLsb'_append_extractLsb'_eq_extractLsb' (by rfl), BitVec.extractLsb'_append_extractLsb'_eq_extractLsb' (by rfl),
    BitVec.extractLsb'_append_extractLsb'_eq_extractLsb' (by rfl)]
  simp

theorem octetAt_append (front l : List Octet) (i : Nat) : octetAt (front ++ l) (front.length + i) = octetAt l i := by
  rw [octetAt, octetAt, List.getD_append_right _ _ _ _ (Nat.le_add_right ..), Nat.add_sub_cancel_left]

/-! ## O18 -/

theorem toNat_setWidth_id (id : StationId) : (id.setWidth 8).toNat = id.toNat := by
  have := id.isLt
  simp
  omega

theorem kindOf_kindCode (kind : FrameKind) : kindOf (kindCode kind) = some kind := by
  cases kind <;> rfl

/-- A frame the node builds passes the tests of R13, whatever octets follow it. -/
theorem judgeFrame_built (kind : FrameKind) (source dest : StationId) (body : List Octet) (tail : List RxOctet) (hsource : source ≠ 0)
    (hbody : body.length ≤ 240) : judgeFrame ((frameOctets kind source dest body).map (fun o => ⟨o, false⟩) ++ tail)
      = some (kind, source.setWidth 8, dest.setWidth 8, body) := by
  generalize hos : (frameOctets kind source dest body).map (fun o => (⟨o, false⟩ : RxOctet)) ++ tail = os
  generalize hcrc : crc16 (frameCore kind source dest body) = crc
  have hd : os.map RxOctet.data = ([0x2D, 0xB4, kindCode kind, source.setWidth 8, dest.setWidth 8, BitVec.ofNat 8 body.length]
      ++ body) ++ (octets16 crc ++ tail.map RxOctet.data) := by
    rw [← hos, ← hcrc]
    simp [frameOctets, frameCore, Function.comp_def]
  have hlen : body.length = (octetAt (os.map RxOctet.data) 5).toNat := by
    rw [hd]
    exact (Nat.mod_eq_of_lt (by omega : body.length < 256)).symm
  have hlength : os.length = 8 + body.length + tail.length := by
    rw [← hos, List.length_append, List.length_map, frameOctets_length]
  have hclean : ∀ o ∈ os.take (8 + body.length), o.framing = false := by
    rw [← hos, List.take_left' (by rw [List.length_map, frameOctets_length])]
    intro o ho
    obtain ⟨d, -, rfl⟩ := List.mem_map.mp ho
    rfl
  have hcore : ((os.map RxOctet.data).drop 2).take (4 + body.length) = frameCore kind source dest body := by
    rw [hd, frameCore]
    exact List.take_left' (List.length_append ..)
  have hbodyRead : ((os.map RxOctet.data).drop 6).take body.length = body := by
    rw [hd]
    exact List.take_left' rfl
  have hcheck : octetAt (os.map RxOctet.data) (6 + body.length) ++ octetAt (os.map RxOctet.data) (7 + body.length) = crc := by
    rw [hd, show 7 + body.length = 6 + body.length + 1 by omega]
    have hat := octetAt_append ([0x2D, 0xB4, kindCode kind, source.setWidth 8, dest.setWidth 8, BitVec.ofNat 8 body.length] ++ body)
      (octets16 crc ++ tail.map RxOctet.data)
    rw [List.length_append, show [0x2D, 0xB4, kindCode kind, source.setWidth 8, dest.setWidth 8,
      BitVec.ofNat 8 body.length].length = 6 from rfl] at hat
    have hzero := hat 0
    rw [Nat.add_zero] at hzero
    rw [hzero, hat 1]
    exact octets16_join crc
  have hid := toNat_setWidth_id source
  rcases judgeFrame_cases os _ _ rfl hlen with ⟨hfails, -⟩ | ⟨-, k, hk, hsome⟩
  · exfalso
    rcases hfails with h | h | h | h | h | ⟨o, ho, hframing⟩ | h | h | h | h
    · omega
    · rw [hd] at h
      exact h rfl
    · rw [hd] at h
      exact h rfl
    · omega
    · omega
    · rw [hclean o ho] at hframing
      cases hframing
    · rw [hcore, hcheck, hcrc] at h
      exact h rfl
    · rw [hd] at h
      have hzero : (source.setWidth 8).toNat = 0 := congrArg BitVec.toNat h
      rw [hid] at hzero
      exact hsource (BitVec.eq_of_toNat_eq hzero)
    · rw [hd] at h
      have hbig : 15 < (source.setWidth 8).toNat := h
      have := source.isLt
      omega
    · rw [hd] at h
      rw [← kindOf_eq_none] at h
      have hnone : kindOf (kindCode kind) = none := h
      rw [kindOf_kindCode] at hnone
      cases hnone
  · rw [hbodyRead, hd] at hsome
    rw [hd] at hk
    have hkind : kindOf (kindCode kind) = some k := hk
    obtain rfl := Option.some.inj ((kindOf_kindCode kind).symm.trans hkind)
    exact hsome

/-- Settles O18. -/
theorem frameSurvivesTheLine : Obligations.FrameSurvivesTheLine := by
  unfold Obligations.FrameSurvivesTheLine
  refine ⟨fun _ => rfl, receiveOctets_frameSymbols, receiveOctets_framingError, fun kind source dest body after hsource hbody => ?_⟩
  rw [receiveOctets_frameSymbols]
  exact judgeFrame_built kind source dest body _ hsource hbody

/-! ## O19 -/

theorem optPair32_eq (v : Option (Second × Int)) :
    optPair32 v = octets32 ((v.map Prod.fst).getD 0) ++ octets32 (BitVec.ofInt 32 ((v.map Prod.snd).getD 0)) := by
  cases v <;> rfl

theorem optPair16_eq (v : Option (Second × Int)) :
    optPair16 v = octets32 ((v.map Prod.fst).getD 0) ++ octets16 (BitVec.ofInt 16 ((v.map Prod.snd).getD 0)) := by
  cases v <;> rfl

theorem bitsOctet_bits : ∀ b0 b1 b2 b3 : Bool, (bitsOctet b0 b1 b2 b3).getLsbD 0 = b0 ∧ (bitsOctet b0 b1 b2 b3).getLsbD 1 = b1
    ∧ (bitsOctet b0 b1 b2 b3).getLsbD 2 = b2 ∧ (bitsOctet b0 b1 b2 b3).getLsbD 3 = b3
    ∧ (bitsOctet b0 b1 b2 b3).toNat = b0.toNat + 2 * b1.toNat + 4 * b2.toNat + 8 * b3.toNat := by
  decide

theorem flagOctet_eq : ∀ b : Bool, (flagOctet b == 1) = b ∧ (flagOctet b).toNat = b.toNat := by
  decide

theorem disturbanceOf_code (d : Disturbance) : disturbanceOf (disturbanceCode d) = some d
    ∧ [Disturbance.quiet, .onset, .disturbed, .easing][(disturbanceCode d).toNat]? = some d := by
  cases d <;> exact ⟨rfl, rfl⟩

theorem referenceOf_peer : ∀ id : StationId, id ≠ 0 → referenceOf (id.setWidth 8) = some (some (.peer id)) := by
  decide

theorem referenceOf_code {r : Option Reference} (h : r ≠ some (.peer 0)) : referenceOf (referenceCode r) = some r := by
  match r with
  | none => rfl
  | some .pulse => rfl
  | some (.peer id) => exact referenceOf_peer id fun hid => h (hid ▸ rfl)

theorem setWidth_id (id : StationId) : (id.setWidth 8).setWidth 4 = id := by
  refine BitVec.eq_of_toNat_eq ?_
  have := id.isLt
  simp only [BitVec.toNat_setWidth]
  omega

theorem toInt_ofInt32 {v : Int} (h : -2147483648 ≤ v ∧ v ≤ 2147483647) : (BitVec.ofInt 32 v).toInt = v := by
  rw [BitVec.toInt_ofInt]
  exact Int.bmod_eq_of_le (by omega) (by omega)

theorem toInt_ofInt16 {v : Int} (h : -32768 ≤ v ∧ v ≤ 32767) : (BitVec.ofInt 16 v).toInt = v := by
  rw [BitVec.toInt_ofInt]
  exact Int.bmod_eq_of_le (by omega) (by omega)

theorem toNat_octet {n : Nat} (h : n < 256) : (BitVec.ofNat 8 n).toNat = n := by
  rw [BitVec.toNat_ofNat]
  exact Nat.mod_eq_of_lt h

/-- The octets of an event entry. -/
theorem octetAt_events {es : List Event} {i : Nat} {e : Event} (h : es[i]? = some e) {j : Nat} (hj : j < 4) :
    octetAt (es.flatMap eventOctets) (4 * i + j) = octetAt (eventOctets e) j := by
  induction es generalizing i with
  | nil => simp at h
  | cons d es ih =>
    rw [List.flatMap_cons]
    cases i with
    | zero =>
      obtain rfl : d = e := by simpa using h
      rw [octetAt, octetAt, Nat.mul_zero, Nat.zero_add, List.getD_append]
      exact hj
    | succ i =>
      have hlength : (eventOctets d).length = 4 := rfl
      have hshift := octetAt_append (eventOctets d) (es.flatMap eventOctets) (4 * i + j)
      rw [hlength] at hshift
      rw [show 4 * (i + 1) + j = 4 + (4 * i + j) by omega, hshift]
      exact ih (by simpa using h)

theorem low24_join (v : BitVec 32) : 65536 * (v.extractLsb' 16 8).toNat + 256 * (v.extractLsb' 8 8).toNat
    + (v.extractLsb' 0 8).toNat = v.toNat % 2 ^ 24 := by
  simp only [BitVec.extractLsb'_toNat, Nat.shiftRight_eq_div_pow]
  omega

theorem kind_of_eventCode (k : EventKind) :
    [EventKind.disturbanceOnset, .disturbanceEnd, .baselineReseed, .thermalStart, .thermalEnd, .sensorFault, .retune,
      .deltaFStart, .deltaFEnd, .referenceChange, .clockStep, .frontEndFault][(BitVec.ofNat 8 (eventCode k)).toNat - 1]? = some k := by
  cases k <;> rfl

theorem eventCode_pos (k : EventKind) : 1 ≤ (BitVec.ofNat 8 (eventCode k)).toNat := by
  cases k <;> decide

/-- The octets of an announcement before its events (Figure 8). -/
def openingOctets (a : Announcement) : List Octet :=
  [a.sequence] ++ octets32 a.departureSecond ++ octets32 (BitVec.ofNat 32 a.departureTick)
    ++ [bitsOctet a.abilities.vector a.abilities.scalar a.abilities.thermal a.abilities.pulse,
        BitVec.ofNat 8 a.cls, a.root.setWidth 8, BitVec.ofNat 8 a.depth, flagOctet a.locked, referenceCode a.reference]
    ++ octets16 (BitVec.ofNat 16 a.errorBound)
    ++ [disturbanceCode a.disturbance, flagOctet a.retuning]
    ++ octets32 a.vectorSecond
    ++ [bitsOctet a.vector.x.isSome a.vector.y.isSome a.vector.z.isSome false]
    ++ optInt32 a.vector.x ++ optInt32 a.vector.y ++ optInt32 a.vector.z
    ++ [bitsOctet a.f.isSome a.sensor.isSome a.pier.isSome false]
    ++ (octets32 ((a.f.map Prod.fst).getD 0) ++ octets32 (BitVec.ofInt 32 ((a.f.map Prod.snd).getD 0)))
    ++ (octets32 ((a.sensor.map Prod.fst).getD 0) ++ octets16 (BitVec.ofInt 16 ((a.sensor.map Prod.snd).getD 0)))
    ++ (octets32 ((a.pier.map Prod.fst).getD 0) ++ octets16 (BitVec.ofInt 16 ((a.pier.map Prod.snd).getD 0)))
    ++ [BitVec.ofNat 8 a.events.length]

theorem announcementBody_eq (a : Announcement) : announcementBody a = openingOctets a ++ a.events.flatMap eventOctets := by
  rw [announcementBody, optPair32_eq, optPair16_eq, optPair16_eq, openingOctets]

/-- The fields of an announcement body, each at its octets (Figure 8). -/
structure LaidOut (a : Announcement) (b : List Octet) : Prop where
  sequence : octetAt b 0 = a.sequence
  departureSecond : word32At b 1 = a.departureSecond
  departureTick : word32At b 5 = BitVec.ofNat 32 a.departureTick
  abilities : octetAt b 9 = bitsOctet a.abilities.vector a.abilities.scalar a.abilities.thermal a.abilities.pulse
  cls : octetAt b 10 = BitVec.ofNat 8 a.cls
  root : octetAt b 11 = a.root.setWidth 8
  depth : octetAt b 12 = BitVec.ofNat 8 a.depth
  locked : octetAt b 13 = flagOctet a.locked
  reference : octetAt b 14 = referenceCode a.reference
  errorBound : word16At b 15 = BitVec.ofNat 16 a.errorBound
  disturbance : octetAt b 17 = disturbanceCode a.disturbance
  retuning : octetAt b 18 = flagOctet a.retuning
  vectorSecond : word32At b 19 = a.vectorSecond
  vectorBits : octetAt b 23 = bitsOctet a.vector.x.isSome a.vector.y.isSome a.vector.z.isSome false
  vectorX : word32At b 24 = BitVec.ofInt 32 (a.vector.x.getD 0)
  vectorY : word32At b 28 = BitVec.ofInt 32 (a.vector.y.getD 0)
  vectorZ : word32At b 32 = BitVec.ofInt 32 (a.vector.z.getD 0)
  valueBits : octetAt b 36 = bitsOctet a.f.isSome a.sensor.isSome a.pier.isSome false
  fSecond : word32At b 37 = (a.f.map Prod.fst).getD 0
  fValue : word32At b 41 = BitVec.ofInt 32 ((a.f.map Prod.snd).getD 0)
  sensorSecond : word32At b 45 = (a.sensor.map Prod.fst).getD 0
  sensorValue : word16At b 49 = BitVec.ofInt 16 ((a.sensor.map Prod.snd).getD 0)
  pierSecond : word32At b 51 = (a.pier.map Prod.fst).getD 0
  pierValue : word16At b 55 = BitVec.ofInt 16 ((a.pier.map Prod.snd).getD 0)
  events : octetAt b 57 = BitVec.ofNat 8 a.events.length

theorem openingOctets_laidOut (a : Announcement) (es : List Octet) : LaidOut a (openingOctets a ++ es) := by
  simp only [openingOctets, octets32, octets16, optInt32, List.cons_append, List.nil_append]
  exact {
  sequence := rfl
  departureSecond := octets32_join _
  departureTick := octets32_join _
  abilities := rfl
  cls := rfl
  root := rfl
  depth := rfl
  locked := rfl
  reference := rfl
  errorBound := octets16_join _
  disturbance := rfl
  retuning := rfl
  vectorSecond := octets32_join _
  vectorBits := rfl
  vectorX := octets32_join _
  vectorY := octets32_join _
  vectorZ := octets32_join _
  valueBits := rfl
  fSecond := octets32_join _
  fValue := octets32_join _
  sensorSecond := octets32_join _
  sensorValue := octets16_join _
  pierSecond := octets32_join _
  pierValue := octets16_join _
  events := rfl }

theorem announcementBody_laidOut (a : Announcement) : LaidOut a (announcementBody a) := by
  rw [announcementBody_eq]
  exact openingOctets_laidOut a _

theorem openingOctets_length (a : Announcement) : (openingOctets a).length = 58 := by
  simp only [openingOctets, octets32, octets16, optInt32, List.cons_append, List.nil_append]
  rfl

/-- The octets of the i-th event of a body. -/
theorem octetAt_event {a : Announcement} {i : Nat} {e : Event} (h : a.events[i]? = some e) {j : Nat} (hj : j < 4) :
    octetAt (announcementBody a) (58 + 4 * i + j) = octetAt (eventOctets e) j := by
  have hat := octetAt_append (openingOctets a) (a.events.flatMap eventOctets) (4 * i + j)
  rw [openingOctets_length] at hat
  rw [announcementBody_eq, show 58 + 4 * i + j = 58 + (4 * i + j) by omega, hat]
  exact octetAt_events h hj

/-- The ranges of Figure 8. -/
structure InFigure8 (a : Announcement) : Prop where
  tick : a.departureTick < 2 ^ 32
  cls : a.cls ≤ 2
  root : a.root ≠ 0
  depth : a.depth ≤ 6
  bound : a.errorBound ≤ 65535
  reference : a.reference ≠ some (.peer 0)
  events : a.events.length ≤ 4
  f : ∀ sec v, a.f = some (sec, v) → -2147483648 ≤ v ∧ v ≤ 2147483647
  sensor : ∀ sec v, a.sensor = some (sec, v) → -32768 ≤ v ∧ v ≤ 32767

theorem root_bounds {id : StationId} (h : id ≠ 0) : 1 ≤ (id.setWidth 8).toNat ∧ (id.setWidth 8).toNat ≤ 15 := by
  rw [toNat_setWidth_id]
  have hlt := id.isLt
  have hne : id.toNat ≠ 0 := fun h0 => h (BitVec.eq_of_toNat_eq h0)
  omega

/-- R42: the body of an announcement in range passes the body test. -/
theorem bodyValid_announcementBody {a : Announcement} (h : InFigure8 a) : bodyValid (announcementBody a) = true := by
  have hb := announcementBody_laidOut a
  have hlength := announcementBody_length a
  have hevents : (octetAt (announcementBody a) 57).toNat = a.events.length := by
    rw [hb.events]
    exact toNat_octet (by have := h.events; omega)
  have hcls : (octetAt (announcementBody a) 10).toNat = a.cls := by
    rw [hb.cls]
    exact toNat_octet (by have := h.cls; omega)
  have hdepth : (octetAt (announcementBody a) 12).toNat = a.depth := by
    rw [hb.depth]
    exact toNat_octet (by have := h.depth; omega)
  have hroot := root_bounds h.root
  rw [← hb.root] at hroot
  have hlocked := (flagOctet_eq a.locked).2
  have hretuning := (flagOctet_eq a.retuning).2
  rw [← hb.locked] at hlocked
  rw [← hb.retuning] at hretuning
  have hreference : (referenceOf (octetAt (announcementBody a) 14)).isSome = true := by
    rw [hb.reference, referenceOf_code h.reference]
    rfl
  have hdisturbance : (disturbanceOf (octetAt (announcementBody a) 17)).isSome = true := by
    rw [hb.disturbance, (disturbanceOf_code _).1]
    rfl
  simp only [bodyValid, Bool.and_eq_true, decide_eq_true_eq]
  refine ⟨⟨⟨⟨⟨⟨⟨⟨⟨⟨?_, ?_⟩, ?_⟩, ?_⟩, hroot.1⟩, hroot.2⟩, ?_⟩, ?_⟩, hreference⟩, hdisturbance⟩, ?_⟩
  · omega
  · omega
  · exact hevents ▸ h.events
  · exact hcls ▸ h.cls
  · exact hdepth ▸ h.depth
  · exact hlocked ▸ Bool.toNat_le _
  · exact hretuning ▸ Bool.toNat_le _

/-- A value of 32 bits is read back with the second it carries. -/
theorem readBack32 {v : Option (Second × Int)} (h : ∀ sec x, v = some (sec, x) → -2147483648 ≤ x ∧ x ≤ 2147483647) :
    (if v.isSome then some ((v.map Prod.fst).getD 0, (BitVec.ofInt 32 ((v.map Prod.snd).getD 0)).toInt) else none) = v := by
  match v with
  | none => rfl
  | some (sec, x) => simp [toInt_ofInt32 (h sec x rfl)]

theorem readBack16 {v : Option (Second × Int)} (h : ∀ sec x, v = some (sec, x) → -32768 ≤ x ∧ x ≤ 32767) :
    (if v.isSome then some ((v.map Prod.fst).getD 0, (BitVec.ofInt 16 ((v.map Prod.snd).getD 0)).toInt) else none) = v := by
  match v with
  | none => rfl
  | some (sec, x) => simp [toInt_ofInt16 (h sec x rfl)]

/-- A receiver reads back the fields sent. -/
theorem heardOf_announcementBody {a : Announcement} (h : InFigure8 a) : heardOf (announcementBody a) =
    { sequence := a.sequence
      departureSecond := a.departureSecond
      departureTick := a.departureTick
      abilities := a.abilities
      cls := a.cls
      root := a.root
      depth := a.depth
      locked := a.locked
      reference := a.reference
      errorBound := a.errorBound
      disturbance := a.disturbance
      retuning := a.retuning
      f := a.f
      temp := a.sensor } := by
  have hb := announcementBody_laidOut a
  obtain ⟨hvector, hscalar, hthermal, hpulse, -⟩ :=
    bitsOctet_bits a.abilities.vector a.abilities.scalar a.abilities.thermal a.abilities.pulse
  obtain ⟨hf, hsensor, -⟩ := bitsOctet_bits a.f.isSome a.sensor.isSome a.pier.isSome false
  have hbound : (BitVec.ofNat 16 a.errorBound).toNat = a.errorBound := by
    rw [BitVec.toNat_ofNat]
    exact Nat.mod_eq_of_lt (by have := h.bound; omega)
  have htick : (BitVec.ofNat 32 a.departureTick).toNat = a.departureTick := by
    rw [BitVec.toNat_ofNat]
    exact Nat.mod_eq_of_lt h.tick
  unfold heardOf
  rw [hb.sequence, hb.departureSecond, hb.departureTick, hb.abilities, hb.cls, hb.root, hb.depth, hb.locked, hb.reference,
    hb.errorBound, hb.disturbance, hb.retuning, hb.valueBits, hb.fSecond, hb.fValue, hb.sensorSecond, hb.sensorValue, hvector,
    hscalar, hthermal, hpulse, hf, hsensor, setWidth_id, (flagOctet_eq _).1, (flagOctet_eq _).1, referenceOf_code h.reference,
    (disturbanceOf_code _).1, readBack32 h.f, readBack16 h.sensor, hbound, htick, toNat_octet (by have := h.cls; omega),
    toNat_octet (by have := h.depth; omega)]
  rfl

/-- Settles O19. -/
theorem announcementSurvivesTheLine : Obligations.AnnouncementSurvivesTheLine := by
  unfold Obligations.AnnouncementSurvivesTheLine
  intro a htick hcls hroot hdepth hbound hreference hevents hf hsensor
  have h : InFigure8 a := ⟨htick, hcls, hroot, hdepth, hbound, hreference, hevents, hf, hsensor⟩
  refine ⟨bodyValid_announcementBody h, announcementBody_length a, heardOf_announcementBody h, ?_⟩
  rintro b rfl
  have hb := announcementBody_laidOut a
  refine ⟨hb.sequence, hb.departureSecond, ?_, ?_, ?_, ?_, ?_, ?_, fun hnone => ?_, fun hpulse => ?_, fun id hpeer => ?_, ?_, ?_, ?_,
    hb.vectorSecond, ?_, hb.vectorX, hb.vectorY, hb.vectorZ, ?_, hb.fSecond, hb.fValue, hb.sensorSecond, hb.sensorValue,
    hb.pierSecond, hb.pierValue, ?_, fun i e he => ⟨?_, ?_, ?_⟩⟩
  · rw [hb.departureTick, BitVec.toNat_ofNat]
    exact Nat.mod_eq_of_lt htick
  · rw [hb.abilities]
    exact (bitsOctet_bits ..).2.2.2.2
  · rw [hb.cls]
    exact toNat_octet (by omega)
  · rw [hb.root]
    exact toNat_setWidth_id _
  · rw [hb.depth]
    exact toNat_octet (by omega)
  · rw [hb.locked]
    exact (flagOctet_eq _).2
  · rw [hb.reference, hnone]
    rfl
  · rw [hb.reference, hpulse]
    rfl
  · rw [hb.reference, hpeer]
    exact toNat_setWidth_id _
  · rw [hb.errorBound, BitVec.toNat_ofNat]
    exact Nat.mod_eq_of_lt (by omega)
  · rw [hb.disturbance]
    exact (disturbanceOf_code _).2
  · rw [hb.retuning]
    exact (flagOctet_eq _).2
  · rw [hb.vectorBits, (bitsOctet_bits ..).2.2.2.2]
    rfl
  · rw [hb.valueBits, (bitsOctet_bits ..).2.2.2.2]
    rfl
  · rw [hb.events]
    exact toNat_octet (by omega)
  · have hat := octetAt_event he (j := 0) (by decide)
    rw [Nat.add_zero] at hat
    rw [hat]
    exact kind_of_eventCode e.kind
  · have hat := octetAt_event he (j := 0) (by decide)
    rw [Nat.add_zero] at hat
    rw [hat]
    exact eventCode_pos e.kind
  · have hat := fun j hj => octetAt_event he (j := j) hj
    rw [show 59 + 4 * i = 58 + 4 * i + 1 by omega, show 60 + 4 * i = 58 + 4 * i + 2 by omega,
      show 61 + 4 * i = 58 + 4 * i + 3 by omega, hat 1 (by decide), hat 2 (by decide), hat 3 (by decide)]
    exact low24_join e.second

end Sys2Proof.Machine
end

section
/-! PROOF. Peers (O21 to O24): what PT makes of an announcement, what it hands on, how its entries age, and who ranks first. -/

namespace Sys2Proof.Machine

/-! ## The entries of the Peer Table -/

theorem findEntry_cons_same {x : PeerEntry} {id : StationId} (h : x.id = id) (xs : List PeerEntry) : findEntry id (x :: xs) = some x :=
  List.find?_cons_of_pos (p := fun e : PeerEntry => e.id == id) (by simpa using h)

theorem findEntry_cons_ne {x : PeerEntry} {id : StationId} (h : x.id ≠ id) (xs : List PeerEntry) :
    findEntry id (x :: xs) = findEntry id xs :=
  List.find?_cons_of_neg (p := fun e : PeerEntry => e.id == id) (by simpa using h)

theorem findEntry_putEntry_same (e : PeerEntry) (es : List PeerEntry) : findEntry e.id (putEntry e es) = some e := by
  induction es with
  | nil => exact findEntry_cons_same rfl []
  | cons x xs ih =>
    unfold putEntry
    split
    · exact findEntry_cons_same rfl _
    next hne =>
      split
      · exact findEntry_cons_same rfl _
      · exact (findEntry_cons_ne (fun h => hne h.symm) _).trans ih

theorem findEntry_putEntry_ne {e : PeerEntry} {id : StationId} (h : id ≠ e.id) (es : List PeerEntry) :
    findEntry id (putEntry e es) = findEntry id es := by
  have hskip : e.id ≠ id := fun he => h he.symm
  induction es with
  | nil => exact findEntry_cons_ne hskip []
  | cons x xs ih =>
    unfold putEntry
    split
    next heq => exact (findEntry_cons_ne hskip _).trans (findEntry_cons_ne (fun hx => hskip (heq.trans hx)) _).symm
    · split
      · exact findEntry_cons_ne hskip _
      · by_cases hx : x.id = id
        · rw [findEntry_cons_same hx, findEntry_cons_same hx]
        · rw [findEntry_cons_ne hx, findEntry_cons_ne hx, ih]

/-- Handling the offset touches no more than the offset and the comparison. -/
theorem updateOffset_eq (theta : Option Int) (e : PeerEntry) : updateOffset theta e = { e with
    offset := (updateOffset theta e).offset
    spread := (updateOffset theta e).spread
    rebase := (updateOffset theta e).rebase } := by
  unfold updateOffset
  repeat' split
  all_goals rfl

theorem updateOffset_formed (th : Int) (e : PeerEntry) :
    (updateOffset (some th) e).offset = some th ∧ (updateOffset (some th) e).rebase = false := by
  unfold updateOffset
  dsimp only
  split
  next h _ => exact ⟨rfl, h⟩
  · exact ⟨rfl, rfl⟩

/-- Without a comparison the spread stands. -/
theorem updateOffset_spread {theta : Option Int} {e : PeerEntry} (h : theta = none ∨ e.rebase = true ∨ e.offset = none) :
    (updateOffset theta e).spread = e.spread := by
  unfold updateOffset
  split
  · rfl
  · split
    next hrebase hoffset => rcases h with h | h | h <;> simp_all
    · rfl

theorem updateOffset_compares {th last : Int} {e : PeerEntry} (hrebase : e.rebase = false) (hoffset : e.offset = some last) :
    (updateOffset (some th) e).spread = e.spread + roundDiv (((th - last).natAbs : Int) - e.spread) 4 := by
  unfold updateOffset
  rw [hrebase, hoffset]

theorem standing_iff (e : PeerEntry) : (standing e = .usable ↔ 4 ≤ e.consecutive ∧ e.spread ≤ 50000) ∧ standing e ≠ .stale := by
  unfold standing
  split
  next h => exact ⟨⟨fun _ => h, fun _ => rfl⟩, by decide⟩
  next h => exact ⟨⟨fun h' => (by cases h'), fun h' => absurd h' h⟩, by decide⟩

/-- What settling an entry leaves. -/
theorem settledEntry_eq (theta : Option Int) (e : PeerEntry) : settledEntry theta e = { e with
    offset := (updateOffset theta e).offset
    spread := (updateOffset theta e).spread
    rebase := (updateOffset theta e).rebase
    state := standing (updateOffset theta e) } := by
  unfold settledEntry
  dsimp only
  rw [updateOffset_eq]

/-- The sequence accounted on an entry changes its counts, and the comparison of a STALE one. -/
theorem accountSequence_eq (seq : BitVec 8) (e : PeerEntry) : accountSequence seq e = { e with
    consecutive := (accountSequence seq e).consecutive
    missed := (accountSequence seq e).missed
    spread := (accountSequence seq e).spread
    rebase := (accountSequence seq e).rebase
    lastSequence := seq } := by
  unfold accountSequence
  dsimp only
  split
  · rfl
  all_goals split <;> rfl

theorem accountSequence_stale {seq : BitVec 8} {e : PeerEntry} (h : e.state = .stale) : (accountSequence seq e).consecutive = 1
    ∧ (accountSequence seq e).spread = 0 ∧ (accountSequence seq e).rebase = true
    ∧ (accountSequence seq e).missed = addSat e.missed (seq - e.lastSequence - 1).toNat := by
  unfold accountSequence
  rw [h]
  exact ⟨rfl, rfl, rfl, rfl⟩

theorem accountSequence_live {seq : BitVec 8} {e : PeerEntry} (h : e.state ≠ .stale) :
    (accountSequence seq e).spread = e.spread ∧ (accountSequence seq e).rebase = e.rebase
      ∧ (seq = e.lastSequence + 1 → (accountSequence seq e).consecutive = satInc 255 e.consecutive
        ∧ (accountSequence seq e).missed = e.missed)
      ∧ (seq ≠ e.lastSequence + 1 → (accountSequence seq e).consecutive = 1
        ∧ (accountSequence seq e).missed = addSat e.missed (seq - e.lastSequence - 1).toNat) := by
  have hnext : seq - e.lastSequence = 1 ↔ seq = e.lastSequence + 1 := by
    rw [BitVec.sub_eq_iff_eq_add, BitVec.add_comm]
  have hlive : accountSequence seq e = if seq - e.lastSequence = 1 then
        { e with consecutive := satInc 255 e.consecutive, lastSequence := seq }
      else { e with
        missed := addSat e.missed (seq - e.lastSequence - 1).toNat
        consecutive := 1
        lastSequence := seq } := by
    unfold accountSequence
    cases hstate : e.state with
    | stale => exact absurd hstate h
    | heard | usable => rfl
  rw [hlive]
  by_cases hseq : seq = e.lastSequence + 1
  · rw [if_pos (hnext.mpr hseq)]
    exact ⟨rfl, rfl, fun _ => ⟨rfl, rfl⟩, fun hne => absurd hseq hne⟩
  · rw [if_neg (fun h => hseq (hnext.mp h))]
    exact ⟨rfl, rfl, fun heq => absurd heq hseq, fun _ => ⟨rfl, rfl⟩⟩

theorem refreshValue_fresh (v : Option (Second × Int)) : refreshValue none v = v.map (fun p => ⟨p.2, p.1, 0⟩) := by
  match v with
  | none => rfl
  | some (sec, x) => rfl

/-- R45: a stored value keeps its age within one second number. -/
theorem refreshValue_some (old : Option PeerValue) (sec : Second) (v : Int) :
    (∀ w, old = some w → w.second = sec → refreshValue old (some (sec, v)) = some ⟨v, sec, w.age⟩)
      ∧ ((∀ w, old = some w → w.second ≠ sec) → refreshValue old (some (sec, v)) = some ⟨v, sec, 0⟩) := by
  refine ⟨fun w hw hsec => ?_, fun hold => ?_⟩
  · rw [hw, refreshValue]
    exact if_pos hsec
  · cases hw : old with
    | none => rfl
    | some w => exact if_neg (hold w hw)

theorem acceptedTemp_eq (t : Option (Second × Int)) : acceptedTemp t = t.filter (fun p => decide (-4000 ≤ p.2 ∧ p.2 ≤ 8500)) := by
  match t with
  | none => rfl
  | some (sec, v) => simp [acceptedTemp, Option.filter]

theorem acceptedTemp_out {t : Option (Second × Int)} (h : ∀ sec v, t = some (sec, v) → v < -4000 ∨ 8500 < v) :
    acceptedTemp t = none := by
  match t with
  | none => rfl
  | some (sec, v) => exact if_neg (by have := h sec v rfl; omega)

theorem acceptedTemp_in {sec : Second} {v : Int} (hlo : -4000 ≤ v) (hhi : v ≤ 8500) :
    acceptedTemp (some (sec, v)) = some (sec, v) :=
  if_pos ⟨hlo, hhi⟩

/-! ## A good body -/

/-- The offset an announcement forms: none from a stamp taken before the latest clock move (R46). -/
def formedOffset (lineDelay : Int) (r : RingEntry) : Option Int :=
  if r.preMove then none else some (peerOffset lineDelay (heardOf r.body) r.arrival)

/-- The entry an announcement leaves, created or refreshed. -/
def takenEntry (lineDelay : Int) (r : RingEntry) (old : Option PeerEntry) : PeerEntry :=
  settledEntry (formedOffset lineDelay r) (match old with
    | none => createdEntry r.source (heardOf r.body) r.arrival
    | some o => refreshedEntry (heardOf r.body) r.arrival o)

theorem handleAnnouncement_valid {lineDelay : Int} {r : RingEntry} {pt : PT} (h : bodyValid r.body = true) :
    handleAnnouncement lineDelay r pt =
      ⟨{ pt with entries := putEntry (takenEntry lineDelay r (findEntry r.source pt.entries)) pt.entries },
        formedOffset lineDelay r,
        newF ((findEntry r.source pt.entries).bind PeerEntry.latestF) (heardOf r.body).f⟩ := by
  unfold handleAnnouncement takenEntry
  rw [if_pos h]
  dsimp only
  cases findEntry r.source pt.entries <;> rfl

theorem handleAnnouncement_invalid {lineDelay : Int} {r : RingEntry} {pt : PT} (h : bodyValid r.body = false) :
    handleAnnouncement lineDelay r pt = ⟨{ pt with reject := bump pt.reject }, none, none⟩ := by
  unfold handleAnnouncement
  rw [h]
  rfl

/-- What R42 to R48 make of a created entry. -/
theorem takenEntry_new (lineDelay : Int) (r : RingEntry) : (takenEntry lineDelay r none).consecutive = 1
    ∧ (takenEntry lineDelay r none).missed = 0 ∧ (takenEntry lineDelay r none).spread = 0
    ∧ (takenEntry lineDelay r none).rebase = false ∧ (r.preMove = true → (takenEntry lineDelay r none).offset = none)
    ∧ (takenEntry lineDelay r none).latestF = (heardOf r.body).f.map (fun p => ⟨p.2, p.1, 0⟩)
    ∧ (takenEntry lineDelay r none).latestTemp
      = ((heardOf r.body).temp.filter (fun p => decide (-4000 ≤ p.2 ∧ p.2 ≤ 8500))).map (fun p => ⟨p.2, p.1, 0⟩) := by
  unfold takenEntry
  rw [settledEntry_eq]
  refine ⟨rfl, rfl, updateOffset_spread (.inr (.inr rfl)), ?_, fun hmove => ?_, refreshValue_fresh _, ?_⟩
  · cases h : formedOffset lineDelay r with
    | none => rfl
    | some th => exact (updateOffset_formed th _).2
  · dsimp only [formedOffset]
    rw [if_pos hmove]
    rfl
  · rw [← acceptedTemp_eq]
    exact refreshValue_fresh _

/-- What every taken entry carries from the body. -/
theorem takenEntry_fields (lineDelay : Int) (r : RingEntry) (old : Option PeerEntry) {x : PeerEntry} {h : Heard}
    (hx : x = takenEntry lineDelay r old) (hh : heardOf r.body = h) (hold : ∀ o, old = some o → o.id = r.source) :
    x.id = r.source ∧ x.lastSequence = h.sequence ∧ x.lastArrival = r.arrival ∧ x.marksSince = 0
      ∧ x.cls = h.cls ∧ x.root = h.root ∧ x.depth = h.depth ∧ x.errorBound = h.errorBound ∧ x.locked = h.locked
      ∧ x.reference = h.reference ∧ x.abilities = h.abilities ∧ x.disturbance = h.disturbance ∧ x.retuning = h.retuning
      ∧ (x.state = .usable ↔ 4 ≤ x.consecutive ∧ x.spread ≤ 50000) ∧ x.state ≠ .stale := by
  subst hx hh
  unfold takenEntry
  rw [settledEntry_eq]
  cases old with
  | none =>
    refine ⟨rfl, rfl, rfl, rfl, rfl, rfl, rfl, rfl, rfl, rfl, rfl, rfl, rfl, ?_⟩
    have hstanding := standing_iff (updateOffset (formedOffset lineDelay r) (createdEntry r.source (heardOf r.body) r.arrival))
    rw [updateOffset_eq] at hstanding ⊢
    exact hstanding
  | some o =>
    have hstanding := standing_iff (updateOffset (formedOffset lineDelay r) (refreshedEntry (heardOf r.body) r.arrival o))
    rw [updateOffset_eq] at hstanding
    refine ⟨?_, ?_, rfl, rfl, rfl, rfl, rfl, rfl, rfl, rfl, rfl, rfl, rfl, ?_⟩
    · dsimp only [refreshedEntry]
      rw [accountSequence_eq]
      exact hold o rfl
    · dsimp only [refreshedEntry]
      rw [accountSequence_eq]
    · rw [updateOffset_eq]
      exact hstanding

theorem takenEntry_offset {lineDelay : Int} {r : RingEntry} (old : Option PeerEntry) (hmove : r.preMove = false) :
    (takenEntry lineDelay r old).offset = some (peerOffset lineDelay (heardOf r.body) r.arrival)
      ∧ (takenEntry lineDelay r old).rebase = false := by
  unfold takenEntry formedOffset
  rw [hmove, settledEntry_eq]
  exact updateOffset_formed _ _

/-- What R44 to R48 make of an entry that stood. -/
theorem takenEntry_old (lineDelay : Int) (r : RingEntry) (o : PeerEntry) {x : PeerEntry} {h : Heard}
    (hx : x = takenEntry lineDelay r (some o)) (hh : heardOf r.body = h) :
    (o.state ≠ .stale → h.sequence = o.lastSequence + 1 → x.consecutive = satInc 255 o.consecutive ∧ x.missed = o.missed)
      ∧ (o.state ≠ .stale → h.sequence ≠ o.lastSequence + 1 →
        x.consecutive = 1 ∧ x.missed = addSat o.missed (h.sequence - o.lastSequence - 1).toNat)
      ∧ (o.state = .stale → x.consecutive = 1 ∧ x.spread = 0 ∧ x.state = .heard
        ∧ x.missed = addSat o.missed (h.sequence - o.lastSequence - 1).toNat)
      ∧ (o.state ≠ .stale → r.preMove = false → o.rebase = false → ∀ last, o.offset = some last →
        x.spread = o.spread + roundDiv ((peerOffset lineDelay h r.arrival - last).natAbs - o.spread) 4)
      ∧ (o.state ≠ .stale → r.preMove = true ∨ o.rebase = true ∨ o.offset = none → x.spread = o.spread)
      ∧ (r.preMove = true → x.offset = o.offset ∧ (x.rebase = true ↔ o.rebase = true ∨ o.state = .stale)) := by
  subst hx hh
  have hstands : (refreshedEntry (heardOf r.body) r.arrival o).offset = o.offset := by
    dsimp only [refreshedEntry]
    rw [accountSequence_eq]
  unfold takenEntry
  rw [settledEntry_eq]
  dsimp only
  refine ⟨fun hlive hnext => (accountSequence_live hlive).2.2.1 hnext, fun hlive hgap => (accountSequence_live hlive).2.2.2 hgap,
    fun hstale => ?_, fun hlive hmove hrebase last hoffset => ?_, fun hlive hnone => ?_, fun hmove => ?_⟩
  · obtain ⟨hconsecutive, hspread, hrebase, hmissed⟩ := accountSequence_stale (seq := (heardOf r.body).sequence) hstale
    refine ⟨hconsecutive, (updateOffset_spread (e := refreshedEntry (heardOf r.body) r.arrival o) (.inr (.inl hrebase))).trans hspread, ?_, hmissed⟩
    rw [updateOffset_eq]
    refine if_neg fun hgood => ?_
    have hfour : 4 ≤ (accountSequence (heardOf r.body).sequence o).consecutive := hgood.1
    omega
  · obtain ⟨hspread, hsame, -, -⟩ := accountSequence_live (seq := (heardOf r.body).sequence) hlive
    have hcompares := updateOffset_compares (th := peerOffset lineDelay (heardOf r.body) r.arrival)
      (e := refreshedEntry (heardOf r.body) r.arrival o) (hsame.trans hrebase) (hstands.trans hoffset)
    rw [formedOffset, hmove]
    refine hcompares.trans ?_
    dsimp only [refreshedEntry]
    rw [hspread]
  · obtain ⟨hspread, hsame, -, -⟩ := accountSequence_live (seq := (heardOf r.body).sequence) hlive
    refine (updateOffset_spread (e := refreshedEntry (heardOf r.body) r.arrival o) ?_).trans hspread
    rcases hnone with hmove | hrebase | hoffset
    · exact .inl (if_pos hmove)
    · exact .inr (.inl (hsame.trans hrebase))
    · exact .inr (.inr (hstands.trans hoffset))
  · rw [formedOffset, if_pos hmove]
    refine ⟨hstands, ?_⟩
    dsimp only [updateOffset, refreshedEntry]
    by_cases hstale : o.state = .stale
    · rw [(accountSequence_stale hstale).2.2.1]
      exact ⟨fun _ => .inr hstale, fun _ => rfl⟩
    · rw [(accountSequence_live hstale).2.1]
      exact ⟨.inl, fun h => h.resolve_right hstale⟩

/-- R45: the stored F and temperature of an entry that stood. -/
theorem takenEntry_values (lineDelay : Int) (r : RingEntry) (o : PeerEntry) {x : PeerEntry} {h : Heard}
    (hx : x = takenEntry lineDelay r (some o)) (hh : heardOf r.body = h) :
    x.latestF = refreshValue o.latestF h.f ∧ x.latestTemp = refreshValue o.latestTemp (acceptedTemp h.temp) := by
  subst hx hh
  unfold takenEntry
  rw [settledEntry_eq]
  dsimp only [refreshedEntry]
  rw [accountSequence_eq]
  exact ⟨rfl, rfl⟩

/-! ## A clock move: what it does to TB, PT, DU and LC -/

theorem overwriteLc_eq (n : SlotName) (a : Announcement) (l : LC) : overwriteLc n a l = { l with
    slotA := (overwriteLc n a l).slotA
    slotB := (overwriteLc n a l).slotB
    staleAnnouncement := (overwriteLc n a l).staleAnnouncement } := by
  unfold overwriteLc
  split
  · cases n <;> rfl
  · rfl

/-- What placing an announcement changes of LC. -/
theorem placeAnnouncement_lc (a : Announcement) (s : State) : (placeAnnouncement a s).lc = { s.lc with
    slotA := (placeAnnouncement a s).lc.slotA
    slotB := (placeAnnouncement a s).lc.slotB
    readyOrder := (placeAnnouncement a s).lc.readyOrder
    contention := (placeAnnouncement a s).lc.contention
    staleAnnouncement := (placeAnnouncement a s).lc.staleAnnouncement } := by
  unfold placeAnnouncement
  split
  · rw [overwriteLc_eq]
    rfl
  · split
    · rw [overwriteLc_eq]
      rfl
    · split
      next n _ =>
        rw [promote_eq, promoteLc_eq]
        cases n <;> rfl
      · rfl

/-- An announce point leaves the arrival stamps: of the run, of the ring and of the announcement being handled. -/
theorem announceWhenDue_stamps (s : State) : (announceWhenDue s).lc.rx = s.lc.rx ∧ (announceWhenDue s).lc.ring = s.lc.ring
    ∧ (announceWhenDue s).lc.dispatcher = s.lc.dispatcher := by
  unfold announceWhenDue announceNow
  split
  · dsimp only
    split
    · rw [placeAnnouncement_lc]
      exact ⟨rfl, rfl, rfl⟩
    · exact ⟨rfl, rfl, rfl⟩
  · exact ⟨rfl, rfl, rfl⟩

/-- The node whose clock has moved, with PT's and LC's reactions (R36 to R38, R47), before RE and DU act. -/
def clockMoved (isRelabel : Bool) (theta : Int) (s : State) : State :=
  ((s.setTb (movedTb isRelabel theta s.tb)).setPt (clockMovePt s.pt)).setLc
    (preMoveLc (if isRelabel then newEpochLc s.lc else s.lc))

/-- RE's close and DU's change of state, in the order of `ties` (log 5). -/
def moveTaken (isRelabel : Bool) (s : State) : State :=
  if s.ties.closeBeforeDu then (moveNotice isRelabel s).setDu (movedDu isRelabel (moveNotice isRelabel s).du)
  else moveNotice isRelabel (s.setDu (movedDu isRelabel s.du))

theorem moveTaken_keeps (isRelabel : Bool) (s : State) : (moveTaken isRelabel s).tb = s.tb ∧ (moveTaken isRelabel s).pt = s.pt
    ∧ (moveTaken isRelabel s).lc = s.lc ∧ (moveTaken isRelabel s).du = movedDu isRelabel s.du := by
  unfold moveTaken
  split <;> simp

theorem moveClock_eq (isRelabel : Bool) (theta : Int) (s : State) : moveClock isRelabel theta s =
    announceWhenDue (raiseEvent .clockStep (movedTb isRelabel theta s.tb).second
      (abortCycle (moveTaken isRelabel (clockMoved isRelabel theta s)))) := by
  have hclock : (abortCycle (moveTaken isRelabel (clockMoved isRelabel theta s))).tb = movedTb isRelabel theta s.tb := by
    simp [moveTaken_keeps, clockMoved]
  rw [← hclock]
  rfl

theorem moveClock_tb (isRelabel : Bool) (theta : Int) (s : State) : (moveClock isRelabel theta s).tb = movedTb isRelabel theta s.tb := by
  rw [moveClock_eq]
  simp [moveTaken_keeps, clockMoved]

theorem moveClock_pt (isRelabel : Bool) (theta : Int) (s : State) : (moveClock isRelabel theta s).pt = clockMovePt s.pt := by
  rw [moveClock_eq]
  simp [moveTaken_keeps, clockMoved]

theorem moveClock_du (isRelabel : Bool) (theta : Int) (s : State) : (moveClock isRelabel theta s).du = movedDu isRelabel s.du := by
  rw [moveClock_eq]
  simp [moveTaken_keeps, clockMoved]

theorem moveClock_dispatcher (isRelabel : Bool) (theta : Int) (s : State) :
    (moveClock isRelabel theta s).lc.dispatcher = s.lc.dispatcher.map (fun e => { e with preMove := true }) := by
  rw [moveClock_eq, (announceWhenDue_stamps _).2.2]
  cases isRelabel <;> simp [moveTaken_keeps, clockMoved, preMoveLc, newEpochLc]

/-! ## A sample at DU -/

theorem duSample_other {r : Reference} {s : State} (theta : Int) (h : s.du.reference ≠ some r) : duSample r theta s = s :=
  if_neg h

/-- A sample moves the clock, or leaves PT and the line as they stand. -/
theorem duSample_cases (r : Reference) (theta : Int) (s : State) :
    (∃ b u, 1000000 ≤ theta.natAbs ∧ duSample r theta s = moveClock b theta u ∧ u.pt = s.pt ∧ u.lc = s.lc ∧ u.mdm = s.mdm)
      ∨ (duSample r theta s).pt = s.pt ∧ (duSample r theta s).lc = s.lc ∧ (duSample r theta s).mdm = s.mdm := by
  unfold duSample
  split
  · split
    · unfold sampleAcquire
      split
      · exact .inl ⟨_, _, by omega, rfl, rfl, rfl, rfl⟩
      · split
        · exact .inl ⟨_, _, by omega, rfl, rfl, rfl, rfl⟩
        · exact .inr (by simp)
    · unfold sampleLocked
      split
      · exact .inl ⟨_, _, by omega, rfl, rfl, rfl, rfl⟩
      · split
        · dsimp only
          split
          · exact .inl ⟨_, _, by omega, rfl, rfl, rfl, rfl⟩
          · exact .inr ⟨rfl, rfl, rfl⟩
        · exact .inr (by simp)
    · exact .inr ⟨rfl, rfl, rfl⟩
    · exact .inr ⟨rfl, rfl, rfl⟩
  · exact .inr ⟨rfl, rfl, rfl⟩

/-! ## What an announcement hands on -/

theorem offerOffset_idle {lineDelay : Int} {r : RingEntry} {s : State}
    (h : s.du.reference ≠ some (.peer r.source) ∨ r.preMove = true) : offerOffset r.source (formedOffset lineDelay r) s = s := by
  unfold formedOffset
  split
  · rfl
  next hmove => exact duSample_other _ (h.resolve_right hmove)

theorem offerOffset_formed {lineDelay : Int} {r : RingEntry} (s : State) (h : r.preMove = false) :
    offerOffset r.source (formedOffset lineDelay r) s
      = duSample (.peer r.source) (peerOffset lineDelay (heardOf r.body) r.arrival) s := by
  unfold formedOffset
  rw [h]
  rfl

theorem offerF_idle {id : StationId} (f : Option (Second × Int)) {s : State} (hc : s.mdm.source ≠ .configured id)
    (ha : s.mdm.source ≠ .automatic id) : offerF id f s = s := by
  cases f with
  | none => rfl
  | some p => exact if_neg (fun h => h.elim hc ha)

/-- The node with the announcement taken and its dispatcher free, before the notices go out. -/
def announcementTakenBy (r : RingEntry) (s : State) : State :=
  { s with
    lc := { s.lc with dispatcher := none }
    pt := (handleAnnouncement s.sul.image.lineDelay r s.pt).pt }

/-- The F notice of an announcement (R50). -/
def offeredF (r : RingEntry) (s : State) : Option (Second × Int) :=
  newF ((findEntry r.source s.pt.entries).bind PeerEntry.latestF) (heardOf r.body).f

theorem finishAnnouncement_valid {r : RingEntry} {s : State} (hd : s.lc.dispatcher = some r) (hv : bodyValid r.body = true) :
    finishAnnouncement s = if s.ties.offsetBeforeF then
        offerF r.source (offeredF r s) (offerOffset r.source (formedOffset s.sul.image.lineDelay r) (announcementTakenBy r s))
      else offerOffset r.source (formedOffset s.sul.image.lineDelay r) (offerF r.source (offeredF r s) (announcementTakenBy r s)) := by
  have hentry : finishAnnouncement s = handled r s := by
    unfold finishAnnouncement
    rw [hd]
  unfold handled at hentry
  unfold announcementTakenBy offeredF
  rw [hentry, handleAnnouncement_valid hv]
  rfl

/-- The offset notice can move the clock, which then restarts every comparison (R47). -/
theorem offerOffset_pt (lineDelay : Int) (r : RingEntry) (s : State) :
    ((offerOffset r.source (formedOffset lineDelay r) s).pt = s.pt ∨
      (offerOffset r.source (formedOffset lineDelay r) s).pt = clockMovePt s.pt)
      ∧ ((peerOffset lineDelay (heardOf r.body) r.arrival).natAbs < 1000000 →
        (offerOffset r.source (formedOffset lineDelay r) s).pt = s.pt)
      ∧ (s.lc.dispatcher = none → (offerOffset r.source (formedOffset lineDelay r) s).lc.dispatcher = none) := by
  cases hmove : r.preMove with
  | true =>
    rw [offerOffset_idle (.inr hmove)]
    exact ⟨.inl rfl, fun _ => rfl, id⟩
  | false =>
    rw [offerOffset_formed _ hmove]
    rcases duSample_cases (.peer r.source) (peerOffset lineDelay (heardOf r.body) r.arrival) s with
      ⟨b, u, hbig, heq, hpt, hlc, -⟩ | ⟨hpt, hlc, -⟩
    · rw [heq, moveClock_pt, moveClock_dispatcher, hpt, hlc]
      exact ⟨.inr rfl, fun h => by omega, fun h => by rw [h]; rfl⟩
    · rw [hpt, hlc]
      exact ⟨.inl rfl, fun _ => rfl, id⟩

theorem offerF_keeps (id : StationId) (f : Option (Second × Int)) (s : State) : (offerF id f s).pt = s.pt ∧ (offerF id f s).lc = s.lc
    ∧ (offerF id f s).du = s.du := by
  cases f with
  | none => exact ⟨rfl, rfl, rfl⟩
  | some p => simp [offerF]

/-- What ANNOUNCE_HANDLED leaves in PT and with the dispatcher, whichever notice goes first. -/
theorem finishAnnouncement_pt {r : RingEntry} {s : State} (hd : s.lc.dispatcher = some r) (hv : bodyValid r.body = true) :
    (finishAnnouncement s).lc.dispatcher = none
      ∧ (s.du.reference ≠ some (.peer r.source) ∨ r.preMove = true
          ∨ (peerOffset s.sul.image.lineDelay (heardOf r.body) r.arrival).natAbs < 1000000 →
        (finishAnnouncement s).pt = (announcementTakenBy r s).pt)
      ∧ ((finishAnnouncement s).pt = (announcementTakenBy r s).pt
        ∨ (finishAnnouncement s).pt = clockMovePt (announcementTakenBy r s).pt) := by
  have hkey : ∀ u : State, u.lc.dispatcher = none → u.du = s.du → u.pt = (announcementTakenBy r s).pt →
      (offerOffset r.source (formedOffset s.sul.image.lineDelay r) u).lc.dispatcher = none
      ∧ (s.du.reference ≠ some (.peer r.source) ∨ r.preMove = true
          ∨ (peerOffset s.sul.image.lineDelay (heardOf r.body) r.arrival).natAbs < 1000000 →
        (offerOffset r.source (formedOffset s.sul.image.lineDelay r) u).pt = (announcementTakenBy r s).pt)
      ∧ ((offerOffset r.source (formedOffset s.sul.image.lineDelay r) u).pt = (announcementTakenBy r s).pt
        ∨ (offerOffset r.source (formedOffset s.sul.image.lineDelay r) u).pt = clockMovePt (announcementTakenBy r s).pt) := by
    intro u hfree hdu hpt
    obtain ⟨hmoved, hsmall, hkept⟩ := offerOffset_pt s.sul.image.lineDelay r u
    rw [← hpt]
    refine ⟨hkept hfree, fun h => ?_, hmoved⟩
    rcases h with h | h | h
    · rw [offerOffset_idle (.inl (by rwa [hdu]))]
    · rw [offerOffset_idle (.inr h)]
    · exact hsmall h
  rw [finishAnnouncement_valid hd hv]
  split
  · obtain ⟨hpt, hlc, -⟩ := offerF_keeps r.source (offeredF r s)
      (offerOffset r.source (formedOffset s.sul.image.lineDelay r) (announcementTakenBy r s))
    rw [hpt, hlc]
    exact hkey _ rfl rfl rfl
  · obtain ⟨hpt, hlc, hdu⟩ := offerF_keeps r.source (offeredF r s) (announcementTakenBy r s)
    exact hkey _ (congrArg LC.dispatcher hlc) hdu hpt

/-! ## O21 -/

theorem finishAnnouncement_invalid {r : RingEntry} {s : State} (hd : s.lc.dispatcher = some r) (hv : bodyValid r.body = false) :
    finishAnnouncement s = { s with
      lc := { s.lc with dispatcher := none }
      pt := { s.pt with reject := bump s.pt.reject } } := by
  have hentry : finishAnnouncement s = handled r s := by
    unfold finishAnnouncement
    rw [hd]
  unfold handled at hentry
  rw [hentry, handleAnnouncement_invalid hv]
  exact ite_self _

theorem flagOctet_iff (o : Octet) : o.toNat ≤ 1 ↔ o = 0 ∨ o = 1 := by
  rw [BitVec.toNat_eq, BitVec.toNat_eq]
  simp
  omega

theorem referenceOf_isSome (o : Octet) : (referenceOf o).isSome = true ↔ o.toNat ≤ 15 ∨ o = 0xFF := by
  unfold referenceOf
  split
  next h => exact iff_of_true rfl (.inr h)
  next hnone =>
    split
    next h => exact iff_of_true rfl (.inl (by rw [h]; decide))
    · split
      next h => exact iff_of_true rfl (.inl h)
      next h => exact iff_of_false (by simp) (fun hor => hor.elim h hnone)

theorem disturbanceOf_isSome (o : Octet) : (disturbanceOf o).isSome = true ↔ o.toNat ≤ 3 := by
  unfold disturbanceOf
  split
  next h => exact iff_of_true rfl (by rw [h]; decide)
  · split
    next h => exact iff_of_true rfl (by rw [h]; decide)
    · split
      next h => exact iff_of_true rfl (by rw [h]; decide)
      · split
        next h => exact iff_of_true rfl (by rw [h]; decide)
        · exact iff_of_false (by simp) (by bv_omega)

theorem bodyValid_iff (b : List Octet) : bodyValid b = true ↔
    b.length = 58 + 4 * (octetAt b 57).toNat ∧ (octetAt b 57).toNat ≤ 4 ∧ (octetAt b 10).toNat ≤ 2
      ∧ 1 ≤ (octetAt b 11).toNat ∧ (octetAt b 11).toNat ≤ 15 ∧ (octetAt b 12).toNat ≤ 6
      ∧ (octetAt b 13 = 0 ∨ octetAt b 13 = 1) ∧ ((octetAt b 14).toNat ≤ 15 ∨ octetAt b 14 = 0xFF)
      ∧ (octetAt b 17).toNat ≤ 3 ∧ (octetAt b 18 = 0 ∨ octetAt b 18 = 1) := by
  unfold bodyValid
  simp only [Bool.and_eq_true, decide_eq_true_eq, referenceOf_isSome, disturbanceOf_isSome, ← flagOctet_iff]
  constructor
  · rintro ⟨⟨⟨⟨⟨⟨⟨⟨⟨⟨-, hlength⟩, he⟩, hcls⟩, hlo⟩, hhi⟩, hdepth⟩, hlocked⟩, href⟩, hdist⟩, hret⟩
    exact ⟨hlength, he, hcls, hlo, hhi, hdepth, hlocked, href, hdist, hret⟩
  · rintro ⟨hlength, he, hcls, hlo, hhi, hdepth, hlocked, href, hdist, hret⟩
    exact ⟨⟨⟨⟨⟨⟨⟨⟨⟨⟨by omega, hlength⟩, he⟩, hcls⟩, hlo⟩, hhi⟩, hdepth⟩, hlocked⟩, href⟩, hdist⟩, hret⟩

/-- The entry of the announcing station after a good body, and the other entries (R42 to R48). -/
theorem handleAnnouncement_entry {lineDelay : Int} {r : RingEntry} {pt : PT} (hv : bodyValid r.body = true) :
    (handleAnnouncement lineDelay r pt).pt = { pt with entries := (handleAnnouncement lineDelay r pt).pt.entries }
      ∧ findEntry r.source (handleAnnouncement lineDelay r pt).pt.entries
        = some (takenEntry lineDelay r (findEntry r.source pt.entries))
      ∧ ∀ id, id ≠ r.source → findEntry id (handleAnnouncement lineDelay r pt).pt.entries = findEntry id pt.entries := by
  have hid : (takenEntry lineDelay r (findEntry r.source pt.entries)).id = r.source :=
    (takenEntry_fields lineDelay r (findEntry r.source pt.entries) rfl rfl (fun o ho => (findEntry_some ho).2)).1
  rw [handleAnnouncement_valid hv]
  refine ⟨rfl, ?_, fun id hne => findEntry_putEntry_ne (by rwa [hid]) _⟩
  have hsame := findEntry_putEntry_same (takenEntry lineDelay r (findEntry r.source pt.entries)) pt.entries
  rwa [hid] at hsame

/-- Settles O21. -/
theorem announcementTaken : Obligations.AnnouncementTaken := by
  unfold Obligations.AnnouncementTaken
  refine ⟨fun lineDelay theta e pt handed h hv hh htheta hhanded => ?_, fun s e theta handed hon hd hv htheta hhanded => ⟨?_, ?_⟩,
    fun s e hon hd hv => next_on hon (finishAnnouncement_invalid hd hv), bodyValid_iff⟩
  · obtain ⟨hframe, hfound, hothers⟩ := handleAnnouncement_entry (lineDelay := lineDelay) (pt := pt) hv
    subst hhanded hh htheta
    obtain ⟨hid, hseq, harr, hmarks, hcls, hroot, hdepth, hbound, hlocked, href, hab, hdist, hret, hstate, hstale⟩ :=
      takenEntry_fields lineDelay e (findEntry e.source pt.entries) rfl rfl (fun o ho => (findEntry_some ho).2)
    refine ⟨_, hframe, hfound, hothers, hid, hseq, harr, hmarks, hcls, hroot, hdepth, hbound, hlocked, href, hab, hdist, hret, hstate,
      hstale, takenEntry_offset _, fun hnew => ?_, fun o ho => ?_⟩
    · rw [hnew]
      exact takenEntry_new lineDelay e
    · rw [ho]
      obtain ⟨hnext, hgap, hwas, hspread, hstands, hmoved⟩ := takenEntry_old lineDelay e o rfl rfl
      obtain ⟨hf, htemp⟩ := takenEntry_values lineDelay e o rfl rfl
      refine ⟨hnext, hgap, hwas, hspread, hstands, hmoved, fun hnone => ?_, fun sec v hsome => ?_, fun hout => ?_,
        fun sec v hsome hlo hhi => ?_⟩
      · rw [hf, hnone]
        rfl
      · rw [hf, hsome]
        exact refreshValue_some _ _ _
      · rw [htemp, acceptedTemp_out hout]
        rfl
      · rw [htemp, hsome, acceptedTemp_in hlo hhi]
        exact refreshValue_some _ _ _
  · intro hoffset hc ha
    refine next_on hon ?_
    subst hhanded
    have hidle := offerOffset_idle (lineDelay := s.sul.image.lineDelay) (s := announcementTakenBy e s) hoffset
    have hno := offerF_idle (s := announcementTakenBy e s) (offeredF e s) hc ha
    rw [finishAnnouncement_valid hd hv, hidle, hno, hidle]
    exact ite_self _
  · obtain ⟨hfree, hkept, hmoved⟩ := finishAnnouncement_pt hd hv
    subst hhanded htheta
    exact ⟨_, next_on hon rfl, hfree, hkept, hmoved⟩

/-! ## O22: MDM's source through a second's close -/

@[simp] theorem placeRoot_source (s : State) : (placeRoot s).mdm.source = s.mdm.source := by
  unfold placeRoot
  split
  · rfl
  · split
    · rfl
    · rfl

@[simp] theorem displaceOld_source (q : Sequence) (s : State) : (displaceOld q s).mdm.source = s.mdm.source := by
  simp [displaceOld]

@[simp] theorem displaceOldest_source (s : State) : (displaceOldest s).mdm.source = s.mdm.source := by
  unfold displaceOldest
  split
  · split <;> simp
  · rfl

@[simp] theorem takeHeld_source (e : PendingEntry) (m : MDM) : (takeHeld e m).2.source = m.source := by
  unfold takeHeld
  split
  · split <;> rfl
  · rfl

@[simp] theorem addEntry_source (q : Sequence) (ep : Epoch) (n : Second) (x y z : Int) (s : State) :
    (addEntry q ep n x y z s).mdm.source = s.mdm.source := by
  simp [addEntry]

@[simp] theorem matchRecord_source (q : Sequence) (ep : Epoch) (n : Second) (v : Axes (Option Int)) (s : State) :
    (matchRecord q ep n v s).mdm.source = s.mdm.source := by
  unfold matchRecord
  split <;> simp

@[simp] theorem chainsEndedNotice_source (c : ChainRecord) (s : State) : (chainsEndedNotice c s).mdm.source = s.mdm.source := by
  simp [chainsEndedNotice]

theorem foldNotices_source (cs : List ChainRecord) (s : State) :
    (cs.foldl (fun s c => chainsEndedNotice c s) s).mdm.source = s.mdm.source := by
  induction cs generalizing s with
  | nil => rfl
  | cons c cs ih => exact (ih _).trans (chainsEndedNotice_source c s)

@[simp] theorem settleChains_source (s : State) : (settleChains s).mdm.source = s.mdm.source := by
  simp [settleChains, endChains, foldNotices_source]

@[simp] theorem refusedNotice_source (c : Option ChainRecord) (s : State) : (refusedNotice c s).mdm.source = s.mdm.source := by
  cases c <;> simp [refusedNotice]

@[simp] theorem enterRecord_source (r : SecondRecord) (s : State) : (enterRecord r s).mdm.source = s.mdm.source := by
  simp [enterRecord]

@[simp] theorem leaveSecond_source (s : State) : (leaveSecond s).1.mdm.source = s.mdm.source := by
  unfold leaveSecond closeSecond
  split
  · dsimp only
    split <;> simp
  · rfl

@[simp] theorem changeSecond_source (q : Second) (ep : Epoch) (fl : StickyFlags) (s : State) :
    (changeSecond q ep fl s).mdm.source = s.mdm.source := by
  simp [changeSecond]

@[simp] theorem moveNotice_source (isRelabel : Bool) (s : State) : (moveNotice isRelabel s).mdm.source = s.mdm.source := by
  unfold moveNotice relabelNotice stepNotice
  split
  · simp
  · dsimp only
    split <;> simp

theorem moveClock_source (isRelabel : Bool) (theta : Int) (s : State) : (moveClock isRelabel theta s).mdm.source = s.mdm.source := by
  have htaken : (moveTaken isRelabel (clockMoved isRelabel theta s)).mdm.source = s.mdm.source := by
    unfold moveTaken
    split <;> simp [clockMoved]
  rw [moveClock_eq]
  simpa using htaken

theorem duSample_source (r : Reference) (theta : Int) (s : State) : (duSample r theta s).mdm.source = s.mdm.source := by
  rcases duSample_cases r theta s with ⟨b, u, -, heq, -, -, hmdm⟩ | ⟨-, -, hmdm⟩
  · rw [heq, moveClock_source, hmdm]
  · rw [hmdm]

theorem newF_none {old : Option PeerValue} {new : Option (Second × Int)}
    (h : new = none ∨ ∃ w f, old = some w ∧ new = some f ∧ w.second = f.1) : newF old new = none := by
  rcases h with h | ⟨w, f, hold, hnew, hsame⟩
  · rw [h]
    rfl
  · rw [hold, hnew]
    exact if_pos hsame

theorem newF_some {old : Option PeerValue} {sec : Second} {v : Int} (h : ∀ w, old = some w → w.second ≠ sec) :
    newF old (some (sec, v)) = some (sec, v) := by
  cases old with
  | none => rfl
  | some w => exact if_neg (h w rfl)

/-- Settles O22. -/
theorem announcementHandedOn : Obligations.AnnouncementHandedOn := by
  unfold Obligations.AnnouncementHandedOn
  intro s u e theta hon hd hv htheta hu
  have hu' : u = announcementTakenBy e s := hu
  have hoffset : e.preMove = false → ∀ w : State,
      offerOffset e.source (formedOffset s.sul.image.lineDelay e) w = duSample (.peer e.source) theta w :=
    fun hmove w => htheta ▸ offerOffset_formed w hmove
  refine ⟨fun href hmove hno => next_on hon ?_, fun sec v hf hsource hnew => ?_⟩
  · have hidle : ∀ w : State, w.mdm.source = s.mdm.source → offerF e.source (offeredF e s) w = w := by
      intro w hw
      rcases hno with hnone | ⟨hc, ha⟩ | ⟨o, v, f, ho, hlatest, hf, hsame⟩
      · rw [offeredF, newF_none (.inl hnone)]
        rfl
      · exact offerF_idle _ (hw ▸ hc) (hw ▸ ha)
      · rw [offeredF, ho, Option.bind_some, newF_none (.inr ⟨v, f, hlatest, hf, hsame⟩)]
        rfl
    rw [finishAnnouncement_valid hd hv, hoffset hmove, hoffset hmove, ← hu', hidle u (hu' ▸ rfl),
      hidle _ ((duSample_source ..).trans (hu' ▸ rfl))]
    exact ite_self _
  · have hoffers : offeredF e s = some (sec, v) := by
      rw [offeredF, hf]
      refine newF_some fun w hw => ?_
      cases ho : findEntry e.source s.pt.entries with
      | none => rw [ho] at hw; cases hw
      | some o => rw [ho] at hw; exact hnew o w ho hw
    have htakes : ∀ w : State, w.mdm.source = s.mdm.source → offerF e.source (offeredF e s) w = takeF v sec w := by
      intro w hw
      rw [hoffers]
      exact if_pos (hw ▸ hsource)
    refine ⟨fun hidle => next_on hon ?_, fun href hmove hfirst => next_on hon ?_, fun href hmove hfirst => next_on hon ?_⟩
    · have hkeeps : ∀ w : State, w.du = s.du → offerOffset e.source (formedOffset s.sul.image.lineDelay e) w = w :=
        fun w hw => offerOffset_idle (hw ▸ hidle)
      rw [finishAnnouncement_valid hd hv, ← hu', hkeeps u (hu' ▸ rfl), htakes u (hu' ▸ rfl),
        hkeeps _ ((takeF_frame v sec u).2.2.2.2.2.2.2.2.2.1.trans (hu' ▸ rfl))]
      exact ite_self _
    · rw [finishAnnouncement_valid hd hv, if_pos hfirst, ← hu', hoffset hmove, htakes _ ((duSample_source ..).trans (hu' ▸ rfl))]
    · rw [finishAnnouncement_valid hd hv, hfirst, if_neg (by decide), ← hu', htakes u (hu' ▸ rfl), hoffset hmove]

/-! ## O23: the mark at PT -/

theorem markPt_entries (pt : PT) : (markPt pt).entries = pt.entries.filterMap (fun e =>
    if 60 ≤ e.marksSince + 1 then none else some (ageEntry e)) := by
  unfold markPt
  rw [List.filter_map, ← List.filterMap_eq_map, List.filterMap_filter]
  refine List.filterMap_congr fun e _ => ?_
  by_cases hlast : 60 ≤ e.marksSince + 1
  · rw [if_pos hlast, if_neg (by simpa [ageEntry] using hlast)]
  · rw [if_neg hlast, if_pos (by simpa [ageEntry] using Nat.lt_of_not_le hlast)]
    rfl

theorem dropNotice_none {b : MarkBlock} {ns : List MarkNotice} (h : noticeFor b ns = none) : dropNotice b ns = ns := by
  induction ns with
  | nil => rfl
  | cons n ns ih =>
    have hne : n.block ≠ b := by simpa using List.find?_eq_none.mp h n List.mem_cons_self
    have hrest : noticeFor b ns = none := (List.find?_cons_of_neg (p := fun m : MarkNotice => m.block == b) (by simpa using hne)).symm.trans h
    unfold dropNotice
    rw [if_neg hne, ih hrest]

/-- The second count and epoch of a block's own mark: those of its waiting notice, or the present ones (log 6). -/
def ownMark (b : MarkBlock) (s : State) : Second × Epoch :=
  match noticeFor b s.notices with
  | some n => (n.second, n.epoch)
  | none => (s.tb.second, s.tb.epoch)

theorem takeOwnMark_eq (b : MarkBlock) (s : State) : takeOwnMark b s
    = takeMark b (ownMark b s).1 (ownMark b s).2 { s with notices := dropNotice b s.notices } := by
  unfold takeOwnMark ownMark takeNotice
  cases h : noticeFor b s.notices with
  | some n => rfl
  | none =>
    rw [dropNotice_none h]

theorem noticeFor_append (b : MarkBlock) (ns ms : List MarkNotice) :
    noticeFor b (ns ++ ms) = (noticeFor b ns).or (noticeFor b ms) :=
  List.find?_append

/-- TB's mark leaves every block a notice, and the blocks as they stand. -/
theorem tbMark_notice (b : MarkBlock) (s : State) : ∃ n, noticeFor b (tbMark s).notices = some n
    ∧ (s.notices = [] → n.second = s.tb.second + 1 ∧ n.epoch = s.tb.epoch) := by
  have hnew : noticeFor b [⟨.re, s.tb.second + 1, s.tb.epoch⟩, ⟨.vfe, s.tb.second + 1, s.tb.epoch⟩, ⟨.pt, s.tb.second + 1, s.tb.epoch⟩,
      ⟨.du, s.tb.second + 1, s.tb.epoch⟩, ⟨.scn, s.tb.second + 1, s.tb.epoch⟩, ⟨.tu, s.tb.second + 1, s.tb.epoch⟩,
      ⟨.mdm, s.tb.second + 1, s.tb.epoch⟩, ⟨.bw, s.tb.second + 1, s.tb.epoch⟩] = some ⟨b, s.tb.second + 1, s.tb.epoch⟩ := by
    cases b <;> rfl
  have hall : noticeFor b (tbMark s).notices
      = (noticeFor b s.notices).or (some ⟨b, s.tb.second + 1, s.tb.epoch⟩) :=
    (noticeFor_append b s.notices _).trans (congrArg _ hnew)
  cases hold : noticeFor b s.notices with
  | none =>
    rw [hold] at hall
    exact ⟨_, hall, fun _ => ⟨rfl, rfl⟩⟩
  | some n =>
    rw [hold] at hall
    refine ⟨n, hall, fun hnil => ?_⟩
    rw [hnil] at hold
    cases hold

theorem takeNotice_some {b : MarkBlock} {s : State} {n : MarkNotice} (h : noticeFor b s.notices = some n) :
    takeNotice b s = takeMark b n.second n.epoch { s with notices := dropNotice b s.notices } := by
  unfold takeNotice
  rw [h]
  rfl

/-- SECOND_MARK at one block: TB's mark, then the block's. -/
theorem marksSecond_one (b : MarkBlock) {s : State} (hmark : countIsMark s.tb = true) :
    ∃ q ep, (s.notices = [] → q = s.tb.second + 1 ∧ ep = s.tb.epoch) ∧ marksSecond [b] s
      = takeMark b q ep { tbMark s with notices := dropNotice b (tbMark s).notices } := by
  obtain ⟨n, hn, hfresh⟩ := tbMark_notice b s
  exact ⟨n.second, n.epoch, hfresh, (if_pos hmark).trans (takeNotice_some hn)⟩

theorem marksSecond_nil {s : State} (hmark : countIsMark s.tb = true) : marksSecond [] s = tbMark s :=
  if_pos hmark

/-- Settles O23. -/
theorem entriesAge : Obligations.EntriesAge := by
  unfold Obligations.EntriesAge
  intro s hon
  refine ⟨_, rfl, fun ⟨e, he, hlive, hfour⟩ => next_on hon ?_, fun hmark => ⟨tbMark s, next_on hon (marksSecond_nil hmark), next_on hon ?_⟩,
    fun ⟨e, he, hlast⟩ => next_on hon ?_⟩
  · have hstale : staleNext s.pt = true := List.any_eq_true.mpr ⟨e, he, by simp [hlive, hfour]⟩
    rw [if_pos hstale, takeOwnMark_eq]
    exact congrArg (fun es => { s with notices := dropNotice .pt s.notices, pt := { s.pt with entries := es } }) (markPt_entries s.pt)
  · obtain ⟨q, ep, -, heq⟩ := marksSecond_one .pt hmark
    rw [heq]
    exact congrArg (fun es => { tbMark s with
      notices := dropNotice .pt (tbMark s).notices
      pt := { s.pt with entries := es } }) (markPt_entries s.pt)
  · have hremoved : removedNext s.pt = true := List.any_eq_true.mpr ⟨e, he, by simp [hlast]⟩
    rw [if_pos hremoved, takeOwnMark_eq]
    exact congrArg (fun es => { s with notices := dropNotice .pt s.notices, pt := { s.pt with entries := es } }) (markPt_entries s.pt)

/-! ## O24 -/

theorem keyLess_iff (a b : Nat × Nat × Nat × Nat) : keyLess a b = true ↔ a.1 < b.1 ∨ (a.1 = b.1 ∧ (a.2.1 < b.2.1
    ∨ (a.2.1 = b.2.1 ∧ (a.2.2.1 < b.2.2.1 ∨ (a.2.2.1 = b.2.2.1 ∧ a.2.2.2 < b.2.2.2))))) := by
  unfold keyLess
  split
  · rw [decide_eq_true_eq]
    omega
  · split
    · rw [decide_eq_true_eq]
      omega
    · split <;> rw [decide_eq_true_eq] <;> omega

/-- A key that ranks no later. -/
def ranksFirst (a b : Nat × Nat × Nat × Nat) : Prop := keyLess b a = false

theorem ranksFirst_trans {a b c : Nat × Nat × Nat × Nat} (h : ranksFirst a b) (k : ranksFirst b c) : ranksFirst a c := by
  unfold ranksFirst at *
  rw [Bool.eq_false_iff, ne_eq, keyLess_iff] at *
  omega

theorem ranksFirst_of_less {a b : Nat × Nat × Nat × Nat} (h : keyLess a b = true) : ranksFirst a b := by
  unfold ranksFirst
  rw [Bool.eq_false_iff, ne_eq, keyLess_iff] at *
  omega

theorem ranksFirst_refl (a : Nat × Nat × Nat × Nat) : ranksFirst a a := by
  unfold ranksFirst
  rw [Bool.eq_false_iff, ne_eq, keyLess_iff]
  omega

/-- The fold over the entries keeps the first-ranking one found. -/
theorem foldl_betterPeer (es : List PeerEntry) (best : PeerEntry) : ∃ b, es.foldl betterPeer (some best) = some b
    ∧ (b = best ∨ b ∈ es) ∧ ranksFirst (peerKey b) (peerKey best) ∧ ∀ e ∈ es, ranksFirst (peerKey b) (peerKey e) := by
  induction es generalizing best with
  | nil => exact ⟨best, rfl, .inl rfl, ranksFirst_refl _, fun e he => by cases he⟩
  | cons x xs ih =>
    obtain ⟨next, hnext, hmem, hbest, hx⟩ : ∃ next, betterPeer (some best) x = some next ∧ (next = best ∨ next = x)
        ∧ ranksFirst (peerKey next) (peerKey best) ∧ ranksFirst (peerKey next) (peerKey x) := by
      cases hless : keyLess (peerKey x) (peerKey best) with
      | true => exact ⟨x, if_pos hless, .inr rfl, ranksFirst_of_less hless, ranksFirst_refl _⟩
      | false => exact ⟨best, if_neg (by simp [hless]), .inl rfl, ranksFirst_refl _, hless⟩
    obtain ⟨b, hfold, hb, hfirst, hall⟩ := ih next
    refine ⟨b, ?_, ?_, ranksFirst_trans hfirst hbest, fun e he => ?_⟩
    · rw [List.foldl_cons, hnext, hfold]
    · rcases hb with rfl | hb
      · rcases hmem with rfl | rfl
        · exact .inl rfl
        · exact .inr List.mem_cons_self
      · exact .inr (List.mem_cons_of_mem _ hb)
    · rcases List.mem_cons.mp he with rfl | he
      · exact ranksFirst_trans hfirst hx
      · exact hall e he

theorem bestPeer_none_iff (own : StationId) (es : List PeerEntry) :
    bestPeer own es = none ↔ ∀ e ∈ es, peerCandidate own e = false := by
  unfold bestPeer
  cases hc : es.filter (peerCandidate own) with
  | nil => exact iff_of_true rfl (fun e he => by simpa using List.filter_eq_nil_iff.mp hc e he)
  | cons x xs =>
    obtain ⟨b, hb, -⟩ := foldl_betterPeer xs x
    refine iff_of_false (fun h => ?_) (fun h => ?_)
    · rw [List.foldl_cons] at h
      exact Option.some_ne_none b (hb.symm.trans h)
    · have hx : x ∈ es.filter (peerCandidate own) := hc ▸ List.mem_cons_self
      have hcand := (List.mem_filter.mp hx).2
      rw [h x (List.mem_filter.mp hx).1] at hcand
      cases hcand

theorem bestPeer_some {own : StationId} {es : List PeerEntry} {b : PeerEntry} (h : bestPeer own es = some b) :
    b ∈ es ∧ peerCandidate own b = true ∧ ∀ e ∈ es, peerCandidate own e = true → ranksFirst (peerKey b) (peerKey e) := by
  unfold bestPeer at h
  cases hc : es.filter (peerCandidate own) with
  | nil => rw [hc] at h; cases h
  | cons x xs =>
    obtain ⟨c, hfold, hmem, hx, hall⟩ := foldl_betterPeer xs x
    rw [hc, List.foldl_cons] at h
    obtain rfl := Option.some.inj (hfold.symm.trans h)
    have hin : c ∈ es.filter (peerCandidate own) := by
      rw [hc]
      rcases hmem with rfl | hmem
      · exact List.mem_cons_self
      · exact List.mem_cons_of_mem _ hmem
    refine ⟨(List.mem_filter.mp hin).1, (List.mem_filter.mp hin).2, fun e he hcand => ?_⟩
    have he' : e ∈ es.filter (peerCandidate own) := List.mem_filter.mpr ⟨he, hcand⟩
    rw [hc] at he'
    rcases List.mem_cons.mp he' with rfl | he'
    · exact hx
    · exact hall e he'

theorem peerCandidate_iff (own : StationId) (e : PeerEntry) : peerCandidate own e = true ↔
    e.state = .usable ∧ e.locked = true ∧ (own = 0 ∨ e.reference ≠ some (.peer own)) ∧ e.root ≠ own ∧ e.depth ≤ 5 := by
  unfold peerCandidate
  by_cases hown : own = 0 <;> simp [hown, and_assoc]

/-- Settles O24. -/
theorem bestPeerRanksFirst : Obligations.BestPeerRanksFirst := by
  unfold Obligations.BestPeerRanksFirst
  refine ⟨fun s => Bool.and_eq_true_iff, peerCandidate_iff, fun own es => ⟨bestPeer_none_iff own es, fun b hb => ?_⟩⟩
  obtain ⟨hmem, hcand, hfirst⟩ := bestPeer_some hb
  refine ⟨hmem, hcand, fun e he hother => ?_⟩
  have hrank := hfirst e he hother
  unfold ranksFirst at hrank
  rw [Bool.eq_false_iff, ne_eq, keyLess_iff] at hrank
  simp only [peerKey] at hrank
  omega

end Sys2Proof.Machine
end

section
/-! PROOF. Rounding, the event list and the baseline watch (O42, O50 to O53). -/

namespace Sys2Proof.Machine

/-! ## Rounding -/

/-- The remainder of a rounded division, on magnitudes: the quotient lies within half a divisor, and an exact half rounds up. -/
theorem roundDiv_magnitude (a : Int) {d : Nat} (hd : 0 < d) : ∃ m : Nat, roundDiv a d = (if a < 0 then -(m : Int) else (m : Int))
    ∧ 2 * (a.natAbs : Int) < 2 * ((m : Int) * d) + d ∧ 2 * ((m : Int) * d) ≤ 2 * (a.natAbs : Int) + d := by
  have hdiv := Nat.div_add_mod a.natAbs d
  have hlt := Nat.mod_lt a.natAbs hd
  refine ⟨if d ≤ 2 * (a.natAbs % d) then a.natAbs / d + 1 else a.natAbs / d, rfl, ?_⟩
  generalize a.natAbs / d = q at *
  generalize a.natAbs % d = r at *
  rw [Nat.mul_comm] at hdiv
  split
  · rw [Nat.cast_add, Nat.cast_one, Int.add_mul, Int.one_mul]
    generalize hp : q * d = p at *
    have hp' : (q : Int) * d = p := by rw [← hp, Nat.cast_mul]
    omega
  · generalize hp : q * d = p at *
    have hp' : (q : Int) * d = p := by rw [← hp, Nat.cast_mul]
    omega

/-- Settles O42. -/
theorem roundDivIsNearest : Obligations.RoundDivIsNearest := by
  unfold Obligations.RoundDivIsNearest
  intro a d hd
  obtain ⟨m, hm, hlo, hhi⟩ := roundDiv_magnitude a hd
  have hpos : (0 : Int) ≤ (m : Int) * d := Int.mul_nonneg (Int.natCast_nonneg m) (Int.natCast_nonneg d)
  have hsigns := roundDiv_between_zero a hd
  have hnear : 2 * (roundDiv a d * d - a).natAbs ≤ d
      ∧ (2 * (roundDiv a d * d - a).natAbs = d → a.natAbs < (roundDiv a d * d).natAbs) := by
    rw [hm]
    split
    · rw [Int.neg_mul]
      generalize (m : Int) * d = p at *
      omega
    · generalize (m : Int) * d = p at *
      omega
  exact ⟨hnear.1, hnear.2, fun h => by omega, fun h => by omega⟩

/-! ## The event list -/

theorem raiseEvent_masked {k : EventKind} {s : State} (second : Second) (h : admits s.sul.image.eventMask k = false) :
    raiseEvent k second s = s := by
  unfold raiseEvent
  rw [h]
  rfl

theorem raiseEvent_admitted {k : EventKind} {s : State} (second : Second) (h : admits s.sul.image.eventMask k = true) :
    raiseEvent k second s = { s with rs := raiseRs k second s.rs } := by
  unfold raiseEvent
  rw [h]
  rfl

/-- Settles O53. -/
theorem eventsEnterList : Obligations.EventsEnterList := by
  unfold Obligations.EventsEnterList
  intro k second s
  refine ⟨raiseEvent_masked second, fun hadmits hroom => ?_, fun e rest hadmits hfull hrest => ?_⟩
  · rw [raiseEvent_admitted second hadmits, raiseRs, if_neg (Nat.not_le_of_lt hroom)]
  · have hlong : 8 ≤ s.rs.events.length := by
      rw [hfull, List.length_cons, hrest]
    rw [raiseEvent_admitted second hadmits, raiseRs, if_pos hlong, hfull]
    rfl

/-! ## The marks of BW -/

theorem disturbedFlag_iff (d : Disturbance) : disturbedFlag d = true ↔ d = .disturbed ∨ d = .easing := by
  cases d <;> simp [disturbedFlag]

theorem disturbedFlag_eq_false (d : Disturbance) : disturbedFlag d = false ↔ d = .quiet ∨ d = .onset := by
  cases d <;> simp [disturbedFlag]

theorem markBw_still {s : State} (h : s.bw.state = .quiet ∨ s.bw.state = .onset) : markBw s = s := by
  unfold markBw
  rw [(disturbedFlag_eq_false _).mpr h]
  rfl

theorem markBw_counts {s : State} (h : s.bw.state = .disturbed ∨ s.bw.state = .easing)
    (hlimit : s.bw.disturbedTime + 1 ≤ s.sul.image.maxDisturbed) :
    markBw s = { s with bw := { s.bw with disturbedTime := s.bw.disturbedTime + 1 } } := by
  unfold markBw
  rw [if_pos ((disturbedFlag_iff _).mpr h), if_neg (Nat.not_lt_of_le hlimit)]
  rfl

theorem markBw_exceeds {s : State} (h : s.bw.state = .disturbed ∨ s.bw.state = .easing)
    (hlimit : s.sul.image.maxDisturbed < s.bw.disturbedTime + 1) :
    markBw s = makeReseed s := by
  unfold markBw
  rw [if_pos ((disturbedFlag_iff _).mpr h), if_pos hlimit]
  rfl

theorem disturbedNext_of {limit : Nat} {bw : BW} (h : bw.state = .disturbed ∨ bw.state = .easing)
    (hlimit : limit < bw.disturbedTime + 1) : disturbedNext limit bw = true := by
  unfold disturbedNext
  rw [(disturbedFlag_iff _).mpr h, decide_eq_true hlimit]
  rfl

/-- The command of a block's count that ends at a mark, on a node that TB has just marked, is the block's mark (log 6). -/
theorem takeOwnMark_eq_takeNotice {b : MarkBlock} {s : State} {n : MarkNotice} (h : noticeFor b s.notices = some n) :
    takeOwnMark b s = takeNotice b s := by
  unfold takeOwnMark
  rw [h]

theorem marksSecond_own (b : MarkBlock) {s : State} (hmark : countIsMark s.tb = true) :
    marksSecond [b] s = takeOwnMark b (tbMark s) := by
  obtain ⟨n, hn, -⟩ := tbMark_notice b s
  rw [takeOwnMark_eq_takeNotice hn]
  exact if_pos hmark

/-- A command whose event is a block's last mark runs it when the mark is its last (log 6). -/
theorem ownMark_runs (b : MarkBlock) {due : State → Bool} {s : State} (hon : s.powered = true) (hdue : due s = true) :
    (Host.Outcome.next (whenOn s (fun s => if due s then takeOwnMark b s else s)) : Host.Outcome State Fault Refusal)
      = .next (takeOwnMark b s) :=
  next_on hon (if_pos hdue)

/-- Settles O50. -/
theorem disturbedTimeReseeds : Obligations.DisturbedTimeReseeds := by
  unfold Obligations.DisturbedTimeReseeds
  intro s hon
  refine ⟨fun hstate hlimit => next_on hon ?_, fun hmark => ⟨tbMark s, next_on hon (marksSecond_nil hmark),
    fun hstate hlimit => next_on hon ?_, fun hstate hlimit => ?_, fun hstate => next_on hon ?_⟩⟩
  · rw [if_pos (disturbedNext_of hstate hlimit), takeOwnMark_eq]
    exact markBw_exceeds (s := { s with notices := dropNotice .bw s.notices }) hstate hlimit
  · rw [marksSecond_own .bw hmark, takeOwnMark_eq]
    exact markBw_counts (s := { tbMark s with notices := dropNotice .bw (tbMark s).notices }) hstate hlimit
  · exact (next_on hon (marksSecond_own .bw hmark)).trans
      (ownMark_runs .bw (s := tbMark s) hon (disturbedNext_of hstate hlimit)).symm
  · rw [marksSecond_own .bw hmark, takeOwnMark_eq]
    exact markBw_still hstate

/-! ## A record at BW -/

theorem axes_ext {α : Type} {v w : Axes α} (h : ∀ a, axisGet v a = axisGet w a) : v = w := by
  have hx := h .x
  have hy := h .y
  have hz := h .z
  cases v
  cases w
  cases hx
  cases hy
  cases hz
  rfl

theorem axesOf_axisGet {α : Type} (v : Axes α) : axesOf (axisGet v) = v :=
  axes_ext (axisGet_axesOf _)

theorem anyAxis_iff (p : Axis → Bool) : anyAxis p = true ↔ ∃ a, p a = true := by
  unfold anyAxis
  rw [Bool.or_eq_true, Bool.or_eq_true]
  constructor
  · rintro ((h | h) | h) <;> exact ⟨_, h⟩
  · rintro ⟨a, h⟩
    cases a with
    | x => exact .inl (.inl h)
    | y => exact .inl (.inr h)
    | z => exact .inr h

theorem allAxes_iff (p : Axis → Bool) : allAxes p = true ↔ ∀ a, p a = true := by
  unfold allAxes
  rw [Bool.and_eq_true, Bool.and_eq_true]
  constructor
  · rintro ⟨⟨hx, hy⟩, hz⟩ a
    cases a with
    | x => exact hx
    | y => exact hy
    | z => exact hz
  · exact fun h => ⟨⟨h .x, h .y⟩, h .z⟩

theorem excludedFlags_iff (f : RecordFlags) : excludedFlags f = true ↔ f.retuned = true ∨ f.step = true ∨ f.relabel = true := by
  simp [excludedFlags, or_assoc]

theorem not_excluded {f : RecordFlags} (hr : f.retuned = false) (hs : f.step = false) (hl : f.relabel = false) :
    excludedFlags f = false := by
  rw [Bool.eq_false_iff, ne_eq, excludedFlags_iff]
  simp [hr, hs, hl]

/-- The watches of the axes with the latest values of a record stored (R164). -/
def storedAxes (values : Axes (Option Int)) (bw : BW) : Axes AxisWatch :=
  axesOf (fun a => storeLatest (axisGet bw.axes a) (axisGet values a))

theorem storeLatest_eq (w : AxisWatch) (v : Option Int) : storeLatest w v = { w with latest := v.or w.latest } := by
  cases v <;> rfl

theorem watchRecord_excluded {f : RecordFlags} (values : Axes (Option Int)) (second : Second) {s : State} (h : excludedFlags f = true) :
    watchRecord f values second s = { s with bw := { s.bw with axes := storedAxes values s.bw, excluded := bump s.bw.excluded } } :=
  if_pos h

theorem watchRecord_empty {f : RecordFlags} {values : Axes (Option Int)} (second : Second) {s : State} (h : excludedFlags f = false)
    (hnone : ∀ a, axisGet values a = none) : watchRecord f values second s = s := by
  have hpresent : ¬ (anyAxis (fun a => (axisGet values a).isSome) = true) := by
    rw [anyAxis_iff]
    rintro ⟨a, ha⟩
    rw [hnone a] at ha
    cases ha
  have hstored : storedAxes values s.bw = s.bw.axes := by
    refine axes_ext fun a => ?_
    rw [storedAxes, axisGet_axesOf, hnone a]
    rfl
  have heq : watchRecord f values second s = { s with bw := { s.bw with axes := storedAxes values s.bw } } := by
    unfold watchRecord
    dsimp only
    rw [h, if_neg (by decide), if_neg hpresent]
    rfl
  rw [heq, hstored]

/-- What a counting record makes of the station (R167 to R169). -/
def stationMoved (values : Axes (Option Int)) (s : State) : BW × Option EventKind :=
  moveStation s.sul.image (if corroborated s.pt then 1 else s.sul.image.onsetCount)
    (hasActive (verdicts s.sul.image { s.bw with axes := storedAxes values s.bw } values))
    (passesRelease s.sul.image (verdicts s.sul.image { s.bw with axes := storedAxes values s.bw } values))
    { s.bw with axes := storedAxes values s.bw }

theorem watchRecord_counts {f : RecordFlags} {values : Axes (Option Int)} (second : Second) {s : State} (h : excludedFlags f = false)
    (hsome : ∃ a, axisGet values a ≠ none) : watchRecord f values second s
      = raiseOpt (stationMoved values s).2 second { s with bw := { (stationMoved values s).1 with
          axes := axesOf (fun a => judgedAxis s.sul.image s.bw.state (axisGet (storedAxes values s.bw) a) (axisGet values a)) } } := by
  have hpresent : anyAxis (fun a => (axisGet values a).isSome) = true := by
    obtain ⟨a, ha⟩ := hsome
    exact (anyAxis_iff _).mpr ⟨a, Option.isSome_iff_ne_none.mpr ha⟩
  unfold watchRecord
  dsimp only
  rw [h, if_neg (by decide), if_pos hpresent]
  rfl

theorem raiseOpt_bw (k : Option EventKind) (second : Second) (s : State) : (raiseOpt k second s).bw = s.bw := by
  simp

/-- The axes after a record that counts or is empty (R165, R166). -/
theorem watchRecord_axes {f : RecordFlags} (values : Axes (Option Int)) (second : Second) {s : State} (h : excludedFlags f = false)
    (a : Axis) : axisGet (watchRecord f values second s).bw.axes a
      = judgedAxis s.sul.image s.bw.state (storeLatest (axisGet s.bw.axes a) (axisGet values a)) (axisGet values a) := by
  by_cases hsome : ∃ a, axisGet values a ≠ none
  · rw [watchRecord_counts second h hsome, raiseOpt_bw, axisGet_axesOf, storedAxes, axisGet_axesOf]
  · have hnone : ∀ a, axisGet values a = none := fun a => by
      by_contra hne
      exact hsome ⟨a, hne⟩
    rw [watchRecord_empty second h hnone, hnone a]
    rfl

theorem judgedAxis_latest (im : Image) (before : Disturbance) (w : AxisWatch) (v : Option Int) :
    (judgedAxis im before w v).latest = w.latest := by
  unfold judgedAxis
  split <;> rfl

theorem judgedAxis_seeds {im : Image} {before : Disturbance} {w : AxisWatch} {v : Int} (h : w.baseline = none) :
    judgedAxis im before w (some v) = { w with baseline := some v, deviation := some 0, judgement := some .quiet } := by
  unfold judgedAxis verdictOf
  rw [h]

theorem judgedAxis_follows {im : Image} {before : Disturbance} {w : AxisWatch} {v l : Int} (h : w.baseline = some l) :
    judgedAxis im before w (some v) = { w with
      baseline := some (movedBaseline im before l (v - l))
      deviation := some (v - l)
      judgement := some (if decide (im.watchThreshold < ((v - l).natAbs : Int)) then .active else .quiet) } := by
  unfold judgedAxis verdictOf
  rw [h]

theorem movedBaseline_held {im : Image} {before : Disturbance} {l d : Int} (h : before = .disturbed ∨ before = .easing) :
    movedBaseline im before l d = l :=
  if_pos h

theorem movedBaseline_slow {im : Image} {before : Disturbance} {l d : Int} (h : before = .quiet ∨ before = .onset)
    (hfast : (d.natAbs : Int) ≤ im.fastBound) : movedBaseline im before l d = l + roundDiv d (2 ^ im.slowBeta) := by
  unfold movedBaseline
  rw [if_neg (by rcases h with rfl | rfl <;> decide), if_pos hfast]

theorem movedBaseline_fast {im : Image} {before : Disturbance} {l d : Int} (h : before = .quiet ∨ before = .onset)
    (hfast : im.fastBound < (d.natAbs : Int)) (hwatch : (d.natAbs : Int) ≤ im.watchThreshold) :
    movedBaseline im before l d = l + roundDiv d (2 ^ im.fastBeta) := by
  unfold movedBaseline
  rw [if_neg (by rcases h with rfl | rfl <;> decide), if_neg (by omega), if_pos hwatch]

theorem movedBaseline_beyond {im : Image} {before : Disturbance} {l d : Int} (hfast : im.fastBound < (d.natAbs : Int))
    (hwatch : im.watchThreshold < (d.natAbs : Int)) : movedBaseline im before l d = l := by
  unfold movedBaseline
  rw [if_neg (Int.not_le.mpr hfast), if_neg (Int.not_le.mpr hwatch), ite_self]

/-- Settles O51. -/
theorem baselinesFollow : Obligations.BaselinesFollow := by
  unfold Obligations.BaselinesFollow
  rintro flags values second s t rfl
  refine ⟨fun a v hv => ?_, fun hex => ?_, fun hr hs hl hnone => watchRecord_empty second (not_excluded hr hs hl) hnone,
    fun hr hs hl a hnone => ?_, fun hr hs hl a v hv => ?_⟩
  · cases hex : excludedFlags flags with
    | true =>
      rw [watchRecord_excluded values second hex]
      dsimp only
      rw [storedAxes, axisGet_axesOf, hv]
      rfl
    | false =>
      rw [watchRecord_axes values second hex, judgedAxis_latest, hv]
      rfl
  · rw [watchRecord_excluded values second ((excludedFlags_iff _).mpr hex)]
    exact ⟨rfl, fun a => (axisGet_axesOf _ a).trans (storeLatest_eq _ _)⟩
  · rw [watchRecord_axes values second (not_excluded hr hs hl), hnone]
    rfl
  · rw [watchRecord_axes values second (not_excluded hr hs hl), hv]
    refine ⟨fun hbase => ?_, fun l hbase => ?_⟩
    · rw [judgedAxis_seeds (w := storeLatest (axisGet s.bw.axes a) (some v)) hbase]
      exact ⟨rfl, rfl, rfl⟩
    · rw [judgedAxis_follows (w := storeLatest (axisGet s.bw.axes a) (some v)) hbase]
      refine ⟨rfl, ?_, fun h => congrArg some (movedBaseline_held h), fun h hslow => congrArg some (movedBaseline_slow h hslow),
        fun h hfast hwatch => congrArg some (movedBaseline_fast h hfast hwatch),
        fun hfast hwatch => congrArg some (movedBaseline_beyond hfast hwatch)⟩
      simp

/-! ## The station state -/

theorem verdicts_get (im : Image) (bw : BW) (values : Axes (Option Int)) (a : Axis) :
    axisGet (verdicts im { bw with axes := storedAxes values bw } values) a
      = verdictOf im (axisGet bw.axes a) (axisGet values a) := by
  rw [verdicts, axisGet_axesOf]
  dsimp only
  rw [storedAxes, axisGet_axesOf, storeLatest_eq]
  rfl

theorem hasActive_iff (im : Image) (bw : BW) (values : Axes (Option Int)) :
    hasActive (verdicts im { bw with axes := storedAxes values bw } values) = true ↔
      ∃ a v l, axisGet values a = some v ∧ (axisGet bw.axes a).baseline = some l ∧ im.watchThreshold < ((v - l).natAbs : Int) := by
  unfold hasActive
  rw [anyAxis_iff]
  refine exists_congr fun a => ?_
  rw [verdicts_get]
  unfold verdictOf
  cases axisGet values a with
  | none => simp
  | some v => cases (axisGet bw.axes a).baseline <;> simp

theorem passesRelease_iff {im : Image} (bw : BW) (values : Axes (Option Int)) (hrelease : 1 ≤ im.releaseThreshold) :
    passesRelease im (verdicts im { bw with axes := storedAxes values bw } values) = true ↔
      ∀ a v l, axisGet values a = some v → (axisGet bw.axes a).baseline = some l → ((v - l).natAbs : Int) < im.releaseThreshold := by
  unfold passesRelease
  rw [allAxes_iff]
  refine forall_congr' fun a => ?_
  rw [verdicts_get]
  unfold verdictOf
  cases axisGet values a with
  | none => simp
  | some v =>
    cases (axisGet bw.axes a).baseline with
    | none =>
      simp
      omega
    | some l => simp

theorem corroborated_iff (pt : PT) : corroborated pt = true ↔
    ∃ e ∈ pt.entries, e.state ≠ .stale ∧ e.abilities.vector = true ∧ e.disturbance = .disturbed := by
  simp [corroborated, List.any_eq_true, and_assoc]

theorem moveStation_still {im : Image} {required : Nat} {passes : Bool} {bw : BW} (h : bw.state = .quiet) :
    moveStation im required false passes bw = (bw, none) := by
  unfold moveStation
  rw [h]
  rfl

theorem moveStation_begins {im : Image} {required run : Nat} {passes : Bool} {bw : BW}
    (h : bw.state = .quiet ∧ run = 1 ∨ bw.state = .onset ∧ run = bw.onsetRun + 1) (hrun : required ≤ run) :
    moveStation im required true passes bw
      = ({ bw with state := .disturbed, onsetRun := 0, disturbedTime := 0 }, some .disturbanceOnset) := by
  unfold moveStation
  rcases h with ⟨h, rfl⟩ | ⟨h, rfl⟩
  all_goals
    rw [h]
    exact if_pos hrun

theorem moveStation_counts {im : Image} {required run : Nat} {passes : Bool} {bw : BW}
    (h : bw.state = .quiet ∧ run = 1 ∨ bw.state = .onset ∧ run = bw.onsetRun + 1) (hrun : run < required) :
    (moveStation im required true passes bw).1 = { bw with state := .onset, onsetRun := run }
      ∧ (moveStation im required true passes bw).2 = none := by
  unfold moveStation
  rcases h with ⟨h, rfl⟩ | ⟨h, rfl⟩
  · rw [h]
    dsimp only
    rw [if_pos rfl, if_neg (Nat.not_le_of_lt hrun)]
    exact ⟨rfl, rfl⟩
  · rw [h]
    dsimp only
    rw [if_pos rfl, if_neg (Nat.not_le_of_lt hrun), ← h]
    exact ⟨rfl, rfl⟩

theorem moveStation_recovers {im : Image} {required : Nat} {passes : Bool} {bw : BW} (h : bw.state = .onset) :
    moveStation im required false passes bw = ({ bw with state := .quiet, onsetRun := 0 }, none) := by
  unfold moveStation
  rw [h]
  rfl

theorem moveStation_ends {im : Image} {required : Nat} {active : Bool} {bw : BW}
    (h : bw.state = .disturbed ∧ im.easeCount ≤ 1 ∨ bw.state = .easing ∧ im.easeCount ≤ bw.easeRun + 1) :
    moveStation im required active true bw
      = ({ bw with state := .quiet, easeRun := 0, disturbedTime := 0 }, some .disturbanceEnd) := by
  unfold moveStation
  rcases h with ⟨h, hease⟩ | ⟨h, hease⟩
  all_goals
    rw [h]
    exact if_pos hease

theorem moveStation_eases {im : Image} {required run : Nat} {active : Bool} {bw : BW}
    (h : bw.state = .disturbed ∧ run = 1 ∨ bw.state = .easing ∧ run = bw.easeRun + 1) (hrun : run < im.easeCount) :
    moveStation im required active true bw = ({ bw with state := .easing, easeRun := run }, none) := by
  unfold moveStation
  rcases h with ⟨h, rfl⟩ | ⟨h, rfl⟩
  · rw [h]
    dsimp only
    rw [if_pos rfl, if_neg (Nat.not_le_of_lt hrun)]
  · rw [h]
    dsimp only
    rw [if_pos rfl, if_neg (Nat.not_le_of_lt hrun), ← h]

theorem moveStation_disturbed {im : Image} {required : Nat} {active : Bool} {bw : BW} (h : bw.state = .disturbed) :
    moveStation im required active false bw = (bw, none) := by
  unfold moveStation
  rw [h]
  rfl

theorem moveStation_returns {im : Image} {required : Nat} {active : Bool} {bw : BW} (h : bw.state = .easing) :
    moveStation im required active false bw = ({ bw with state := .disturbed, easeRun := 0 }, none) := by
  unfold moveStation
  rw [h]
  rfl

theorem moveDeltaF_eq_none {limit df : Int} {bw : BW} (h : bw.ldf = none) : moveDeltaF limit df bw = ({ bw with ldf := some df }, none) := by
  unfold moveDeltaF
  rw [h]

/-- The ΔF watch in NORMAL, with a ΔF beyond the limit (Figure 83). -/
theorem moveDeltaF_outside {limit df l : Int} {bw : BW} (h : bw.ldf = some l) (hx : bw.excursion = false)
    (hout : limit < ((df - l).natAbs : Int)) :
    (bw.outside < 2 → moveDeltaF limit df bw
        = ({ bw with outside := bw.outside + 1, inside := 0, ldf := some (l + roundDiv (df - l) 64) }, none))
      ∧ (2 ≤ bw.outside → moveDeltaF limit df bw
        = ({ bw with excursion := true, outside := 0, inside := 0 }, some .deltaFStart)) := by
  unfold moveDeltaF
  rw [h]
  dsimp only
  rw [hx, decide_eq_true hout]
  exact ⟨fun hrun => if_neg (by omega), fun hrun => if_pos (by omega)⟩

theorem moveDeltaF_follows {limit df l : Int} {bw : BW} (h : bw.ldf = some l) (hx : bw.excursion = false)
    (hin : ((df - l).natAbs : Int) ≤ limit) :
    moveDeltaF limit df bw = ({ bw with outside := 0, ldf := some (l + roundDiv (df - l) 64) }, none) := by
  unfold moveDeltaF
  rw [h]
  dsimp only
  rw [hx, decide_eq_false (Int.not_lt.mpr hin)]

/-- The ΔF watch in an excursion, with a ΔF within the limit. -/
theorem moveDeltaF_inside {limit df l : Int} {bw : BW} (h : bw.ldf = some l) (hx : bw.excursion = true)
    (hin : ((df - l).natAbs : Int) ≤ limit) :
    (bw.inside < 2 → moveDeltaF limit df bw = ({ bw with inside := bw.inside + 1, outside := 0 }, none))
      ∧ (2 ≤ bw.inside → moveDeltaF limit df bw = ({ bw with
          excursion := false
          outside := 0
          inside := 0
          ldf := some (l + roundDiv (df - l) 64) }, some .deltaFEnd)) := by
  unfold moveDeltaF
  rw [h]
  dsimp only
  rw [hx, decide_eq_false (Int.not_lt.mpr hin)]
  exact ⟨fun hrun => if_neg (by omega), fun hrun => if_pos (by omega)⟩

theorem moveDeltaF_stays {limit df l : Int} {bw : BW} (h : bw.ldf = some l) (hx : bw.excursion = true)
    (hout : limit < ((df - l).natAbs : Int)) : moveDeltaF limit df bw = ({ bw with inside := 0 }, none) := by
  unfold moveDeltaF
  rw [h]
  dsimp only
  rw [hx, decide_eq_true hout]

theorem watchDeltaF_moves {df : Int} {s : State} {moved : BW} {event : Option EventKind} (second : Second)
    (h : moveDeltaF s.sul.image.deltaFLimit df s.bw = (moved, event)) :
    watchDeltaF (some df) second s = raiseOpt event second { s with bw := moved } := by
  unfold watchDeltaF
  dsimp only
  rw [h]
  rfl

theorem watchDeltaF_takes (second : Second) (s : State) (df : Int) :
    (s.bw.ldf = none → watchDeltaF (some df) second s = { s with bw := { s.bw with ldf := some df } })
      ∧ ∀ l, s.bw.ldf = some l →
        (s.bw.excursion = false → s.sul.image.deltaFLimit < ((df - l).natAbs : Int) →
          (s.bw.outside < 2 → watchDeltaF (some df) second s = { s with bw := { s.bw with
              outside := s.bw.outside + 1
              inside := 0
              ldf := some (l + roundDiv (df - l) 64) } })
          ∧ (2 ≤ s.bw.outside → watchDeltaF (some df) second s = raiseEvent .deltaFStart second { s with
              bw := { s.bw with excursion := true, outside := 0, inside := 0 } }))
        ∧ (s.bw.excursion = false → ((df - l).natAbs : Int) ≤ s.sul.image.deltaFLimit →
          watchDeltaF (some df) second s = { s with bw := { s.bw with
            outside := 0
            ldf := some (l + roundDiv (df - l) 64) } })
        ∧ (s.bw.excursion = true → ((df - l).natAbs : Int) ≤ s.sul.image.deltaFLimit →
          (s.bw.inside < 2 → watchDeltaF (some df) second s = { s with bw := { s.bw with
              inside := s.bw.inside + 1
              outside := 0 } })
          ∧ (2 ≤ s.bw.inside → watchDeltaF (some df) second s = raiseEvent .deltaFEnd second { s with
              bw := { s.bw with
                excursion := false
                outside := 0
                inside := 0
                ldf := some (l + roundDiv (df - l) 64) } }))
        ∧ (s.bw.excursion = true → s.sul.image.deltaFLimit < ((df - l).natAbs : Int) →
          watchDeltaF (some df) second s = { s with bw := { s.bw with inside := 0 } }) := by
  refine ⟨fun h => watchDeltaF_moves second (moveDeltaF_eq_none h), fun l h => ?_⟩
  exact ⟨fun hx hout => ⟨fun hrun => watchDeltaF_moves second ((moveDeltaF_outside h hx hout).1 hrun),
      fun hrun => watchDeltaF_moves second ((moveDeltaF_outside h hx hout).2 hrun)⟩,
    fun hx hin => watchDeltaF_moves second (moveDeltaF_follows h hx hin),
    fun hx hin => ⟨fun hrun => watchDeltaF_moves second ((moveDeltaF_inside h hx hin).1 hrun),
      fun hrun => watchDeltaF_moves second ((moveDeltaF_inside h hx hin).2 hrun)⟩,
    fun hx hout => watchDeltaF_moves second (moveDeltaF_stays h hx hout)⟩

/-- A counting record at BW: what the station's move leaves in BW and RS. -/
theorem watchRecord_moved {f : RecordFlags} {values : Axes (Option Int)} (second : Second) {s : State} (h : excludedFlags f = false)
    (hsome : ∃ a, axisGet values a ≠ none) {moved : BW} {event : Option EventKind} (hmoved : stationMoved values s = (moved, event)) :
    (watchRecord f values second s).bw = { moved with axes := (watchRecord f values second s).bw.axes }
      ∧ (watchRecord f values second s).rs = (raiseOpt event second s).rs := by
  rw [watchRecord_counts second h hsome, hmoved, raiseOpt_bw]
  refine ⟨rfl, ?_⟩
  cases event with
  | none => rfl
  | some k => exact (raiseEvent_rs ..).trans (raiseEvent_rs k second s).symm

theorem watchRecord_eq (f : RecordFlags) (values : Axes (Option Int)) (second : Second) (s : State) :
    watchRecord f values second s
      = { s with bw := (watchRecord f values second s).bw, rs := (watchRecord f values second s).rs } := by
  rw [State.eq_iff]
  simp

/-- Settles O52. -/
theorem watchStatesMove : Obligations.WatchStatesMove := by
  unfold Obligations.WatchStatesMove
  refine ⟨?_, fun second s => ⟨rfl, watchDeltaF_takes second s⟩⟩
  rintro flags values second s t active passes required rfl hr hs hl hsome hrelease hactive hpasses hcorr hno run begins ends hquiet honset
    hbegins hends
  have hactive' := (hasActive_iff s.sul.image s.bw values).trans hactive.symm
  have hpasses' := (passesRelease_iff s.bw values hrelease).trans hpasses.symm
  have hrequired : (if corroborated s.pt then 1 else s.sul.image.onsetCount) = required := by
    by_cases h : corroborated s.pt = true
    · rw [if_pos h, hcorr ((corroborated_iff _).mp h)]
    · rw [if_neg h, hno]
      intro e he
      have hnot := mt (corroborated_iff s.pt).mpr h
      by_contra hother
      push Not at hother
      exact hnot ⟨e, he, hother.1, by simpa using hother.2.1, hother.2.2⟩
  have hmoves := @watchRecord_moved flags values second s (not_excluded hr hs hl) hsome
  unfold stationMoved at hmoves
  rw [hrequired] at hmoves
  generalize hasActive (verdicts s.sul.image { s.bw with axes := storedAxes values s.bw } values) = act at hactive' hmoves
  generalize passesRelease s.sul.image (verdicts s.sul.image { s.bw with axes := storedAxes values s.bw } values) = rel
    at hpasses' hmoves
  have hmoved : ∀ a b moved event, act = a → rel = b →
      moveStation s.sul.image required a b { s.bw with axes := storedAxes values s.bw } = (moved, event) →
      (watchRecord flags values second s).bw = { moved with axes := (watchRecord flags values second s).bw.axes }
        ∧ (watchRecord flags values second s).rs = (raiseOpt event second s).rs := by
    rintro a b moved event rfl rfl h
    exact hmoves h
  have hyes : active → act = true := hactive'.mpr
  have hnot : ¬ active → act = false := fun h => Bool.eq_false_iff.mpr (mt hactive'.mp h)
  have heases : passes → rel = true := hpasses'.mpr
  have hholds : ¬ passes → rel = false := fun h => Bool.eq_false_iff.mpr (mt hpasses'.mp h)
  have hrun : s.bw.state = .quiet ∨ s.bw.state = .onset →
      s.bw.state = .quiet ∧ run = 1 ∨ s.bw.state = .onset ∧ run = s.bw.onsetRun + 1 :=
    fun h => h.imp (fun h => ⟨h, hquiet h⟩) (fun h => ⟨h, honset h⟩)
  refine ⟨watchRecord_eq .., fun hstate ha hle => hbegins.mpr ?_, fun hstate ha hlt => ?_, fun hstate ha => ?_, fun hstate ha => ?_,
    fun hstate hp hease => hends.mpr ?_, fun hstate hp hease => ?_, fun hstate hp => ?_, fun hstate hp hease => hends.mpr ?_,
    fun hstate hp hease => ?_, fun hstate hp => ?_⟩
  · obtain ⟨hbw, hrs⟩ := hmoved _ _ _ _ (hyes ha) rfl (moveStation_begins (hrun hstate) hle)
    exact ⟨(congrArg BW.state hbw).trans rfl, (congrArg BW.onsetRun hbw).trans rfl, (congrArg BW.disturbedTime hbw).trans rfl, hrs⟩
  · obtain ⟨hbw, hrs⟩ := hmoved _ _ _ _ (hyes ha) rfl (Prod.ext_iff.mpr (moveStation_counts (hrun hstate) hlt))
    exact ⟨(congrArg BW.state hbw).trans rfl, (congrArg BW.onsetRun hbw).trans rfl, hrs⟩
  · obtain ⟨hbw, hrs⟩ := hmoved _ _ _ _ (hnot ha) rfl (moveStation_still hstate)
    exact ⟨(congrArg BW.state hbw).trans hstate, (congrArg BW.onsetRun hbw).trans rfl, hrs⟩
  · obtain ⟨hbw, hrs⟩ := hmoved _ _ _ _ (hnot ha) rfl (moveStation_recovers hstate)
    exact ⟨(congrArg BW.state hbw).trans rfl, (congrArg BW.onsetRun hbw).trans rfl, hrs⟩
  · obtain ⟨hbw, hrs⟩ := hmoved _ _ _ _ rfl (heases hp) (moveStation_ends (.inl ⟨hstate, hease⟩))
    exact ⟨(congrArg BW.state hbw).trans rfl, (congrArg BW.easeRun hbw).trans rfl, (congrArg BW.disturbedTime hbw).trans rfl, hrs⟩
  · obtain ⟨hbw, hrs⟩ := hmoved _ _ _ _ rfl (heases hp) (moveStation_eases (.inl ⟨hstate, rfl⟩) hease)
    exact ⟨(congrArg BW.state hbw).trans rfl, (congrArg BW.easeRun hbw).trans rfl, (congrArg BW.disturbedTime hbw).trans rfl, hrs⟩
  · obtain ⟨hbw, hrs⟩ := hmoved _ _ _ _ rfl (hholds hp) (moveStation_disturbed hstate)
    exact ⟨(congrArg BW.state hbw).trans hstate, (congrArg BW.easeRun hbw).trans rfl, hrs⟩
  · obtain ⟨hbw, hrs⟩ := hmoved _ _ _ _ rfl (heases hp) (moveStation_ends (.inr ⟨hstate, hease⟩))
    exact ⟨(congrArg BW.state hbw).trans rfl, (congrArg BW.easeRun hbw).trans rfl, (congrArg BW.disturbedTime hbw).trans rfl, hrs⟩
  · obtain ⟨hbw, hrs⟩ := hmoved _ _ _ _ rfl (heases hp) (moveStation_eases (.inr ⟨hstate, rfl⟩) hease)
    exact ⟨(congrArg BW.state hbw).trans rfl, (congrArg BW.easeRun hbw).trans rfl, hrs⟩
  · obtain ⟨hbw, hrs⟩ := hmoved _ _ _ _ rfl (hholds hp) (moveStation_returns hstate)
    exact ⟨(congrArg BW.state hbw).trans rfl, (congrArg BW.easeRun hbw).trans rfl, (congrArg BW.disturbedTime hbw).trans rfl, hrs⟩

end Sys2Proof.Machine
end

section
/-! PROOF. Hut time (O26 to O29): the length of a second, its mark, the label line and the pulse edge. -/

namespace Sys2Proof.Machine

/-! ## Corrections over a second -/

/-- The position of a correction lies within half a period of its share of the second. -/
theorem correctionPosition_near {c : Int} {j : Nat} (hc : 0 < c.natAbs) (hj : 1 ≤ j) :
    ((10000000 * (2 * (j : Int) - 1)) - c.natAbs ≤ 2 * ((correctionPosition c j : Int) * c.natAbs))
      ∧ 2 * ((correctionPosition c j : Int) * c.natAbs) ≤ 10000000 * (2 * (j : Int) - 1) + c.natAbs := by
  obtain ⟨m, hm, hlo, hhi⟩ := roundDiv_magnitude (10000000 * (2 * (j : Int) - 1)) (d := 2 * c.natAbs) (by omega)
  have hnonneg : ¬ (10000000 * (2 * (j : Int) - 1) < 0) := by omega
  have hp : correctionPosition c j = m := by
    unfold correctionPosition
    rw [hm, if_neg hnonneg]
    rfl
  rw [hp]
  have hprod : (m : Int) * (2 * c.natAbs : Nat) = 2 * ((m : Int) * c.natAbs) := by
    rw [Nat.cast_mul, Nat.cast_ofNat]
    ring
  rw [hprod] at hlo hhi
  generalize (m : Int) * c.natAbs = p at *
  omega

theorem correctionPosition_range {c : Int} {j : Nat} (hc : c.natAbs ≤ 3000) (hj : 1 ≤ j) (hjc : j ≤ c.natAbs) :
    1667 ≤ correctionPosition c j ∧ correctionPosition c j ≤ 9998333 := by
  obtain ⟨hlo, hhi⟩ := correctionPosition_near (c := c) (by omega) hj
  generalize correctionPosition c j = p at *
  generalize c.natAbs = n at *
  constructor
  · by_contra hlt
    have hle : (p : Int) * n ≤ 1666 * n := Int.mul_le_mul_of_nonneg_right (by omega) (by omega)
    omega
  · by_contra hlt
    have hle : 9998334 * (n : Int) ≤ p * n := Int.mul_le_mul_of_nonneg_right (by omega) (by omega)
    omega

theorem correctionPosition_apart {c : Int} {j : Nat} (hc : c.natAbs ≤ 3000) (hj : 1 ≤ j) (hjc : j < c.natAbs) :
    correctionPosition c j + 3333 ≤ correctionPosition c (j + 1) := by
  obtain ⟨-, hhi⟩ := correctionPosition_near (c := c) (by omega) hj
  obtain ⟨hlo, -⟩ := correctionPosition_near (c := c) (j := j + 1) (by omega) (by omega)
  generalize correctionPosition c j = p at *
  generalize correctionPosition c (j + 1) = q at *
  generalize c.natAbs = n at *
  by_contra hlt
  have hle : (q : Int) * n ≤ (p + 3332) * n := Int.mul_le_mul_of_nonneg_right (by omega) (by omega)
  rw [Int.add_mul] at hle
  generalize (p : Int) * n = x at *
  generalize (q : Int) * n = y at *
  push_cast at hlo hhi
  omega

/-- The corrections not yet made leave room for themselves before the end of the second. -/
theorem correctionPosition_room {c : Int} (hc : c.natAbs ≤ 3000) (k j : Nat) (hj : 1 ≤ j) (hjk : j + k = c.natAbs) :
    correctionPosition c j + k * 3333 ≤ 9998333 := by
  induction k generalizing j with
  | zero =>
    rw [Nat.zero_mul]
    exact (correctionPosition_range hc hj (Nat.le_of_eq hjk)).2
  | succ k ih =>
    have hnext := ih (j + 1) (by omega) (by omega)
    have hapart := correctionPosition_apart hc hj (by omega)
    calc correctionPosition c j + (k + 1) * 3333 = correctionPosition c j + 3333 + k * 3333 := by ring
      _ ≤ correctionPosition c (j + 1) + k * 3333 := Nat.add_le_add_right hapart _
      _ ≤ 9998333 := hnext

/-- A count of TB under a schedule that still has an inserted correction, an omitted one, or none due. -/
theorem countTb_insert {t : TB} {c : Int} {made : Nat} (h : t.schedule = some ⟨c, made⟩) (hc : 0 < c) (hmade : made < c.natAbs)
    (htick : t.tick + 1 = correctionPosition c (made + 1)) :
    countTb t = { t with tick := t.tick + 2, schedule := some ⟨c, made + 1⟩ } := by
  unfold countTb
  rw [h]
  exact if_pos ⟨hc, hmade, htick⟩

theorem countTb_omit {t : TB} {c : Int} {made : Nat} (h : t.schedule = some ⟨c, made⟩) (hc : c < 0) (hmade : made < c.natAbs)
    (htick : t.tick = correctionPosition c (made + 1)) : countTb t = { t with schedule := some ⟨c, made + 1⟩ } := by
  unfold countTb
  rw [h]
  dsimp only
  rw [if_neg (fun hins => by omega), if_pos ⟨hc, hmade, htick⟩]

theorem countTb_plain {t : TB} {c : Int} {made : Nat} (h : t.schedule = some ⟨c, made⟩)
    (hins : ¬ (0 < c ∧ made < c.natAbs ∧ t.tick + 1 = correctionPosition c (made + 1)))
    (homit : ¬ (c < 0 ∧ made < c.natAbs ∧ t.tick = correctionPosition c (made + 1))) :
    countTb t = { t with tick := t.tick + 1 } := by
  unfold countTb
  rw [h]
  dsimp only
  rw [if_neg hins, if_neg homit]

/-- After `m` counts of a second with inserted corrections, or none: the ticks counted, and the corrections made so far. -/
theorem counts_inserted {t : TB} {c : Int} (hc : c.natAbs ≤ 3000) (hpos : 0 ≤ c) (htick : t.tick = 0) (hs : t.schedule = some ⟨c, 0⟩)
    (m : Nat) : ∃ made, made ≤ c.natAbs ∧ (countTb^[m] t).schedule = some ⟨c, made⟩ ∧ (countTb^[m] t).tick = m + made
      ∧ (made < c.natAbs → m + made < correctionPosition c (made + 1)) := by
  induction m with
  | zero =>
    refine ⟨0, Nat.zero_le _, hs, htick, fun h => ?_⟩
    have hrange := correctionPosition_range (j := 1) hc (by omega) (by omega)
    exact Nat.lt_of_lt_of_le (by decide) hrange.1
  | succ m ih =>
    obtain ⟨made, hmade, hsched, hcount, hbefore⟩ := ih
    rw [Function.iterate_succ_apply']
    by_cases hins : 0 < c ∧ made < c.natAbs ∧ (countTb^[m] t).tick + 1 = correctionPosition c (made + 1)
    · obtain ⟨hc0, hlt, hat⟩ := hins
      rw [countTb_insert hsched hc0 hlt hat]
      refine ⟨made + 1, hlt, rfl, ?_, fun hmore => ?_⟩
      · dsimp only
        omega
      · have hapart := correctionPosition_apart hc (j := made + 1) (by omega) hmore
        omega
    · rw [countTb_plain hsched hins (fun h => by omega)]
      refine ⟨made, hmade, hsched, ?_, fun hmore => ?_⟩
      · dsimp only
        omega
      · have hb := hbefore hmore
        have hne : ¬ ((countTb^[m] t).tick + 1 = correctionPosition c (made + 1)) := fun h => hins ⟨by omega, hmore, h⟩
        omega

/-- After `m` counts of a second with omitted corrections. -/
theorem counts_omitted {t : TB} {c : Int} (hc : c.natAbs ≤ 3000) (hneg : c < 0) (htick : t.tick = 0) (hs : t.schedule = some ⟨c, 0⟩)
    (m : Nat) : ∃ made, made ≤ c.natAbs ∧ (countTb^[m] t).schedule = some ⟨c, made⟩ ∧ (countTb^[m] t).tick + made = m
      ∧ (made < c.natAbs → (countTb^[m] t).tick ≤ correctionPosition c (made + 1)) := by
  induction m with
  | zero => exact ⟨0, Nat.zero_le _, hs, htick, fun _ => (Nat.le_of_eq htick).trans (Nat.zero_le _)⟩
  | succ m ih =>
    obtain ⟨made, hmade, hsched, hcount, hbefore⟩ := ih
    rw [Function.iterate_succ_apply']
    by_cases homit : c < 0 ∧ made < c.natAbs ∧ (countTb^[m] t).tick = correctionPosition c (made + 1)
    · obtain ⟨-, hlt, hat⟩ := homit
      rw [countTb_omit hsched hneg hlt hat]
      refine ⟨made + 1, hlt, rfl, ?_, fun hmore => ?_⟩
      · dsimp only
        omega
      · have hapart := correctionPosition_apart hc (j := made + 1) (by omega) hmore
        dsimp only
        omega
    · rw [countTb_plain hsched (fun h => by omega) homit]
      refine ⟨made, hmade, hsched, ?_, fun hmore => ?_⟩
      · dsimp only
        omega
      · have hb := hbefore hmore
        have hne : ¬ ((countTb^[m] t).tick = correctionPosition c (made + 1)) := fun h => homit ⟨hneg, hmore, h⟩
        dsimp only
        omega

/-- Settles O26, by the count of corrections made after each period. -/
theorem secondLength : Obligations.SecondLength := by
  unfold Obligations.SecondLength
  refine ⟨fun t c periods hc htick hs hperiods => ?_, fun c j hc hj hjc => ?_⟩
  · by_cases hpos : 0 ≤ c
    · obtain ⟨made, hmade, hsched, hcount, hbefore⟩ := counts_inserted hc hpos htick hs periods
      have hall : made = c.natAbs := by
        by_contra hne
        have hroom := correctionPosition_room hc (c.natAbs - (made + 1)) (made + 1) (by omega) (by omega)
        have hb := hbefore (by omega)
        omega
      refine ⟨by omega, hall ▸ hsched, fun m hm => ?_⟩
      obtain ⟨k, hk, -, hcount', -⟩ := counts_inserted hc hpos htick hs m
      omega
    · have hneg : c < 0 := by omega
      obtain ⟨made, hmade, hsched, hcount, hbefore⟩ := counts_omitted hc hneg htick hs periods
      have hall : made = c.natAbs := by
        by_contra hne
        have hrange := (correctionPosition_range hc (j := made + 1) (by omega) (by omega)).2
        have hb := hbefore (by omega)
        omega
      refine ⟨by omega, hall ▸ hsched, fun m hm => ?_⟩
      obtain ⟨k, hk, -, hcount', hbefore'⟩ := counts_omitted hc hneg htick hs m
      by_cases hlast : k = c.natAbs
      · omega
      · have hrange := (correctionPosition_range hc (j := k + 1) (by omega) (by omega)).2
        have hb := hbefore' (by omega)
        omega
  · obtain ⟨hlo, hhi⟩ := correctionPosition_range hc hj hjc
    exact ⟨hlo, hhi, fun h => correctionPosition_apart hc hj h⟩

/-! ## The second mark -/

/-- The remainder a mark leaves (R26). -/
theorem correctionCount_remainder {total : Int} (h : total.natAbs ≤ 300050) : (total - 100 * correctionCount total).natAbs ≤ 50 := by
  obtain ⟨m, hm, hlo, hhi⟩ := roundDiv_magnitude total (d := 100) (by decide)
  unfold correctionCount
  rw [clampInt_eq_max_min (by decide), hm]
  rw [Nat.cast_ofNat] at hlo hhi
  split <;> omega

theorem noticeFor_dropNotice_ne {b c : MarkBlock} (hne : b ≠ c) (ns : List MarkNotice) :
    noticeFor b (dropNotice c ns) = noticeFor b ns := by
  induction ns with
  | nil => rfl
  | cons n ns ih =>
    unfold dropNotice
    split
    next hc =>
      have hskip : ¬ ((n.block == b) = true) := by
        rw [beq_iff_eq, hc]
        exact fun h => hne h.symm
      exact (List.find?_cons_of_neg (p := fun m : MarkNotice => m.block == b) hskip).symm
    · unfold noticeFor at *
      rw [List.find?_cons, List.find?_cons, ih]

/-- Blocks that each have a notice of one mark take them in turn. -/
theorem takeNotices_fold {q : Second} {ep : Epoch} (now : List MarkBlock) (hnodup : now.Nodup) (u : State)
    (hall : ∀ b ∈ now, ∃ n, noticeFor b u.notices = some n ∧ n.second = q ∧ n.epoch = ep) :
    takeNotices now u = now.foldl (fun u b => takeMark b q ep { u with notices := dropNotice b u.notices }) u := by
  unfold takeNotices
  induction now generalizing u with
  | nil => rfl
  | cons b now ih =>
    obtain ⟨n, hn, rfl, rfl⟩ := hall b List.mem_cons_self
    obtain ⟨hfresh, hrest⟩ := List.nodup_cons.mp hnodup
    rw [List.foldl_cons, List.foldl_cons, takeNotice_some hn]
    refine ih hrest _ fun c hc => ?_
    have hne : c ≠ b := fun h => hfresh (h ▸ hc)
    have hkept : (takeMark b n.second n.epoch { u with notices := dropNotice b u.notices }).notices = dropNotice b u.notices := by
      simp
    rw [hkept, noticeFor_dropNotice_ne hne]
    exact hall c (List.mem_cons_of_mem _ hc)

/-- Settles O27. -/
theorem secondMarkFixesRate : Obligations.SecondMarkFixesRate := by
  unfold Obligations.SecondMarkFixesRate
  refine ⟨fun s now hon hno => next_on hon (by rw [marksSecond, hno]; rfl), fun s hon hmark => ?_⟩
  refine ⟨correctionCount (s.tb.trim + s.tb.slew.getD 0 + s.tb.remainder),
    s.tb.trim + s.tb.slew.getD 0 + s.tb.remainder - 100 * correctionCount (s.tb.trim + s.tb.slew.getD 0 + s.tb.remainder), tbMark s,
    clampInt_eq_max_min (by decide) _, by omega, correctionCount_remainder, rfl, next_on hon (marksSecond_nil hmark),
    fun now hnone hnodup => next_on hon ?_⟩
  refine (if_pos hmark).trans (takeNotices_fold now hnodup (tbMark s) fun b _ => ?_)
  obtain ⟨n, hn, hfresh⟩ := tbMark_notice b s
  exact ⟨n, hn, hfresh hnone⟩

/-! ## The label line -/

theorem extendLabel_twice (os ps : List RxOctet) (t : TB) (phase : RxPhase) :
    extendLabel ps { extendLabel os t with labelPhase := phase } = extendLabel (os ++ ps) { t with labelPhase := phase } := by
  unfold extendLabel
  cases hlabel : t.label with
  | some run => simp
  | none =>
    cases htail : t.labelTail with
    | some k => rfl
    | none => rfl

theorem labelLevels_start {t : TB} (h : t.labelPhase = .ready) :
    labelLevels [.dominant] t = extendLabel [] { t with labelPhase := .data [] } := by
  simp [labelLevels, labelSymbol, receiveSymbol, h]

/-- An octet of the label line, from its start bit to its stop bit. -/
theorem labelLevels_octet {t : TB} (h : t.labelPhase = .ready) (l0 l1 l2 l3 l4 l5 l6 l7 stop : Level) :
    labelLevels [.dominant, l0, l1, l2, l3, l4, l5, l6, l7, stop] t
      = extendLabel [⟨octetOfLevels [l0, l1, l2, l3, l4, l5, l6, l7], stop == .dominant⟩]
          { t with labelPhase := if stop = .dominant then .held else .ready } := by
  have hphase : (extendLabel [] { t with labelPhase := .data [] }).labelPhase = .data [] := by
    unfold extendLabel
    split <;> rfl
  have htwice := extendLabel_twice [] [⟨octetOfLevels [l0, l1, l2, l3, l4, l5, l6, l7], stop == .dominant⟩]
    { t with labelPhase := .data [] } (if stop = .dominant then .held else .ready)
  rw [List.nil_append] at htwice
  refine Eq.trans ?_ htwice
  simp [labelLevels, labelSymbol, receiveSymbol, h, hphase]

/-- What LABEL_OCTET_RECEIVED brings: the start bit alone, a whole octet, or one with a framing error. -/
theorem labelLevels_brings {levels : List Level} {new : List RxOctet} {phase : RxPhase} {t : TB} (h : t.labelPhase = .ready)
    (hlevels : (levels = [.dominant] ∧ new = [] ∧ phase = .data [])
      ∨ (∃ o : Octet, levels = octetSymbols o ∧ new = [⟨o, false⟩] ∧ phase = .ready)
      ∨ (∃ o : Octet, levels = (octetSymbols o).take 9 ++ [.dominant] ∧ new = [⟨o, true⟩] ∧ phase = .held)) :
    labelLevels levels t = extendLabel new { t with labelPhase := phase } := by
  rcases hlevels with ⟨rfl, rfl, rfl⟩ | ⟨o, rfl, rfl, rfl⟩ | ⟨o, rfl, rfl, rfl⟩
  · exact labelLevels_start h
  · refine (labelLevels_octet h ..).trans ?_
    rw [octetOfLevels_bits]
    rfl
  · refine (labelLevels_octet h ..).trans ?_
    rw [octetOfLevels_bits]
    rfl

theorem extendLabel_begins {os : List RxOctet} {t : TB} (h : t.label = none) (htail : t.labelTail = none) :
    extendLabel os t = { t with label := some ⟨os, 100000⟩ } := by
  unfold extendLabel
  rw [h, htail]

theorem extendLabel_tail {os : List RxOctet} {t : TB} {k : Nat} (h : t.label = none) (htail : t.labelTail = some k) :
    extendLabel os t = { t with labelTail := some 100000 } := by
  unfold extendLabel
  rw [h, htail]

theorem extendLabel_joins {os new : List RxOctet} {t : TB} {gap : Nat} (h : t.label = some ⟨os, gap⟩) :
    extendLabel new t = { t with label := some ⟨os ++ new, 100000⟩ } := by
  unfold extendLabel
  rw [h]

theorem labelReceiving_true {t : TB} {taken : List Level} (h : t.labelPhase = .data taken) : labelReceiving t = true := by
  unfold labelReceiving
  rw [h]

theorem labelReceiving_false {t : TB} (h : ∀ taken, t.labelPhase ≠ .data taken) : labelReceiving t = false := by
  unfold labelReceiving
  cases hphase : t.labelPhase with
  | data taken => exact absurd hphase (h taken)
  | held | ready => rfl

/-- R32: a valid label run: five good octets, the fifth the sum of the others. -/
theorem labelOf_valid (a b c d : Octet) :
    labelOf [⟨a, false⟩, ⟨b, false⟩, ⟨c, false⟩, ⟨d, false⟩, ⟨a + b + c + d, false⟩] = some (a ++ b ++ c ++ d) := by
  simp [labelOf, octetAt, word32At]

theorem labelOf_eq_none {os : List RxOctet}
    (h : ¬ ∃ a b c d : Octet, os = [⟨a, false⟩, ⟨b, false⟩, ⟨c, false⟩, ⟨d, false⟩, ⟨a + b + c + d, false⟩]) :
    labelOf os = none := by
  refine if_neg ?_
  rintro ⟨hlength, hframing, hsum⟩
  match os, hlength with
  | [⟨a, fa⟩, ⟨b, fb⟩, ⟨c, fc⟩, ⟨d, fd⟩, ⟨e, fe⟩], _ =>
    refine h ⟨a, b, c, d, ?_⟩
    simp [octetAt] at hframing hsum
    simp [hframing, hsum]

theorem endLabelGap_ends {t : TB} (h : ∀ taken, t.labelPhase ≠ .data taken) :
    endLabelGap t = { evaluateLabel t with labelTail := none } := by
  unfold endLabelGap
  rw [labelReceiving_false h]
  rfl

theorem evaluateLabel_idle {t : TB} (h : t.label = none) : evaluateLabel t = t := by
  unfold evaluateLabel
  rw [h]

theorem evaluateLabel_valid {t : TB} {run : LabelRun} {l : Second} (h : t.label = some run) (hl : runLabel run t = some l) :
    evaluateLabel t = { t with
      label := none
      pendingLabel := some l
      labelAge := some 0
      present := presenceOf { t with label := none, pendingLabel := some l, labelAge := some 0 } } := by
  unfold evaluateLabel
  rw [h]
  dsimp only
  rw [hl]

theorem evaluateLabel_invalid {t : TB} {run : LabelRun} (h : t.label = some run) (hl : runLabel run t = none) :
    evaluateLabel t = { t with label := none, labelReject := bump t.labelReject } := by
  unfold evaluateLabel
  rw [h]
  dsimp only
  rw [hl]

theorem runLabel_done {t : TB} (run : LabelRun) (h : ∀ taken, t.labelPhase ≠ .data taken) : runLabel run t = labelOf run.octets := by
  unfold runLabel
  rw [labelReceiving_false h]
  rfl

theorem runLabel_receiving {t : TB} (run : LabelRun) {taken : List Level} (h : t.labelPhase = .data taken) : runLabel run t = none := by
  unfold runLabel
  rw [labelReceiving_true h]
  rfl

theorem exec_label_on {s : State} (levels : List Level) (hon : s.powered = true) (hin : s.sul.image.timePulse = true) :
    exec (.labelOctetReceived levels) s = .next (s.setTb (labelLevels levels s.tb)) :=
  next_on hon (if_pos hin)

theorem exec_label_off {s : State} (levels : List Level) (hon : s.powered = true) (hin : s.sul.image.timePulse = false) :
    exec (.labelOctetReceived levels) s = .next s :=
  next_on hon (if_neg (by rw [hin]; decide))

/-- Settles O28. -/
theorem timebaseTimersEnd : Obligations.TimebaseTimersEnd := by
  unfold Obligations.TimebaseTimersEnd
  refine ⟨fun s hon => ⟨next_on hon rfl, next_on hon rfl, fun e he => next_on hon ?_, fun a ha => next_on hon ?_,
    fun levels hoff => next_on hon ?_, fun levels rest t ht => ?_, fun levels new phase hinput hphase hlevels => ?_,
    fun taken htaken => next_on hon ?_, fun hphase hlabel => next_on hon ?_⟩,
    fun s os gap hon hlabel hphase => ⟨fun a b c d hos => next_on hon ?_, fun hbad => next_on hon ?_⟩⟩
  · unfold passEdgeAge
    rw [he]
    rfl
  · unfold passLabelAge
    rw [ha]
    rfl
  · exact if_neg (by rw [hoff]; decide)
  · cases hin : s.sul.image.timePulse with
    | true =>
      obtain rfl := Host.Outcome.next.inj ((exec_label_on levels hon hin).symm.trans ht)
      rw [exec_label_on (levels ++ rest) hon hin, exec_label_on (s := s.setTb (labelLevels levels s.tb)) rest hon hin]
      exact congrArg (fun t => Host.Outcome.next (s.setTb t)) (List.foldl_append ..).symm
    | false =>
      obtain rfl := Host.Outcome.next.inj ((exec_label_off levels hon hin).symm.trans ht)
      exact (exec_label_off rest hon hin).trans (exec_label_off (levels ++ rest) hon hin).symm
  · have hbrings := labelLevels_brings hphase hlevels
    refine ⟨fun hnone htail => next_on hon ?_, fun k hnone htail => next_on hon ?_, fun os gap hsome => next_on hon ?_⟩
    · rw [if_pos hinput, hbrings]
      exact congrArg s.setTb (extendLabel_begins hnone htail)
    · rw [if_pos hinput, hbrings]
      exact congrArg s.setTb (extendLabel_tail hnone htail)
    · rw [if_pos hinput, hbrings]
      exact congrArg s.setTb (extendLabel_joins hsome)
  · unfold endLabelGap
    rw [labelReceiving_true htaken]
    rfl
  · rw [endLabelGap_ends hphase, evaluateLabel_idle hlabel]
    rfl
  · rw [endLabelGap_ends hphase, evaluateLabel_valid hlabel ((runLabel_done _ hphase).trans (hos ▸ labelOf_valid a b c d))]
    have hpresent : presenceOf { s.tb with label := none, pendingLabel := some (a ++ b ++ c ++ d), labelAge := some 0 }
        = match s.tb.edge with
          | some e => decide (e.age ≤ 15000000)
          | none => false := by
      unfold presenceOf
      cases hedge : s.tb.edge with
      | none => rfl
      | some e => simp
    rw [hpresent]
    rfl
  · rw [endLabelGap_ends hphase, evaluateLabel_invalid hlabel ((runLabel_done _ hphase).trans (labelOf_eq_none hbad))]
    rfl

/-! ## The pulse edge -/

/-- An accepted edge, before its label second is set: stamped, with the run in progress evaluated (R31 to R33). -/
def edgeStamped (t : TB) : TB :=
  evaluateLabel (cutLabel { t with edge := some ⟨clockOf t, 0⟩, edgeWindow := some 9000000 })

theorem acceptEdge_eq (t : TB) : acceptEdge t = { edgeStamped t with
    lastLabel := labelSecond (edgeStamped t)
    pendingLabel := none
    present := presenceOf { edgeStamped t with lastLabel := labelSecond (edgeStamped t), pendingLabel := none } } := rfl

theorem cutLabel_idle {t : TB} (h : t.label = none) : cutLabel t = t := by
  unfold cutLabel
  rw [h]

theorem cutLabel_run {t : TB} {os : List RxOctet} {gap : Nat} (h : t.label = some ⟨os, gap⟩) :
    cutLabel t = { t with labelTail := if gap = 0 then none else some gap } := by
  unfold cutLabel
  rw [h]

theorem edgeStamped_idle {t : TB} (h : t.label = none) :
    edgeStamped t = { t with edge := some ⟨clockOf t, 0⟩, edgeWindow := some 9000000 } :=
  (congrArg evaluateLabel (cutLabel_idle (t := { t with edge := some ⟨clockOf t, 0⟩, edgeWindow := some 9000000 }) h)).trans
    (evaluateLabel_idle h)

theorem edgeStamped_valid {t : TB} {os : List RxOctet} {gap : Nat} {l : Second} (h : t.label = some ⟨os, gap⟩)
    (hphase : ∀ taken, t.labelPhase ≠ .data taken) (hl : labelOf os = some l) : ∃ present,
    edgeStamped t = { t with
      edge := some ⟨clockOf t, 0⟩
      edgeWindow := some 9000000
      label := none
      labelTail := if gap = 0 then none else some gap
      pendingLabel := some l
      labelAge := some 0
      present := present } := by
  have hcut := cutLabel_run (t := { t with edge := some ⟨clockOf t, 0⟩, edgeWindow := some 9000000 }) h
  exact ⟨_, (congrArg evaluateLabel hcut).trans
    (evaluateLabel_valid (run := ⟨os, gap⟩) h ((runLabel_done ⟨os, gap⟩ hphase).trans hl))⟩

theorem runLabel_bad {t : TB} {run : LabelRun} (h : (∃ taken, t.labelPhase = .data taken) ∨ labelOf run.octets = none) :
    runLabel run t = none := by
  rcases h with ⟨taken, htaken⟩ | h
  · exact runLabel_receiving run htaken
  · unfold runLabel
    rw [h]
    exact ite_self _

theorem edgeStamped_invalid {t : TB} {os : List RxOctet} {gap : Nat} (h : t.label = some ⟨os, gap⟩)
    (hbad : (∃ taken, t.labelPhase = .data taken) ∨ labelOf os = none) :
    edgeStamped t = { t with
      edge := some ⟨clockOf t, 0⟩
      edgeWindow := some 9000000
      label := none
      labelTail := if gap = 0 then none else some gap
      labelReject := bump t.labelReject } := by
  have hcut := cutLabel_run (t := { t with edge := some ⟨clockOf t, 0⟩, edgeWindow := some 9000000 }) h
  exact (congrArg evaluateLabel hcut).trans (evaluateLabel_invalid (run := ⟨os, gap⟩) h (runLabel_bad hbad))

/-- The stamped edge over what the run in progress makes of the label (R31 to R33). -/
theorem edgeStamped_base {t base : TB} (hidle : t.label = none → base = t)
    (hrun : ∀ os gap, t.label = some ⟨os, gap⟩ →
      (∀ l, (∀ taken, t.labelPhase ≠ .data taken) → labelOf os = some l → base = { t with
        label := none
        labelTail := if gap = 0 then none else some gap
        pendingLabel := some l
        labelAge := some 0 })
      ∧ ((∃ taken, t.labelPhase = .data taken) ∨ labelOf os = none → base = { t with
        label := none
        labelTail := if gap = 0 then none else some gap
        labelReject := bump t.labelReject })) :
    base.lastLabel = t.lastLabel ∧ base.second = t.second ∧ base.tick = t.tick ∧ ∃ present, edgeStamped t
      = { base with edge := some ⟨clockOf t, 0⟩, edgeWindow := some 9000000, present := present } := by
  cases hlabel : t.label with
  | none =>
    rw [hidle hlabel, edgeStamped_idle hlabel]
    exact ⟨rfl, rfl, rfl, _, rfl⟩
  | some run =>
    obtain ⟨os, gap⟩ := run
    obtain ⟨hvalid, hbad⟩ := hrun os gap hlabel
    by_cases hreceiving : ∃ taken, t.labelPhase = .data taken
    · rw [hbad (.inl hreceiving), edgeStamped_invalid hlabel (.inl hreceiving)]
      exact ⟨rfl, rfl, rfl, _, rfl⟩
    · have hphase : ∀ taken, t.labelPhase ≠ .data taken := fun taken h => hreceiving ⟨taken, h⟩
      cases hl : labelOf os with
      | none =>
        rw [hbad (.inr hl), edgeStamped_invalid hlabel (.inr hl)]
        exact ⟨rfl, rfl, rfl, _, rfl⟩
      | some l =>
        obtain ⟨present, heq⟩ := edgeStamped_valid hlabel hphase hl
        rw [hvalid l hphase hl]
        exact ⟨rfl, rfl, rfl, present, heq⟩

theorem edgeOffset_some {t : TB} {l : Second} (hpresent : t.present = true) (hl : t.lastLabel = some l) :
    edgeOffset t = some (pulseOffset l t.second t.tick) := by
  unfold edgeOffset
  rw [hpresent, hl]

theorem edgeOffset_none {t : TB} (h : t.lastLabel = none ∨ t.present = false) : edgeOffset t = none := by
  unfold edgeOffset
  rcases h with h | h
  · rw [h]
    cases t.present <;> rfl
  · rw [h]

theorem offerPulse_idle {theta : Option Int} {s : State} (h : s.du.reference ≠ some .pulse ∨ theta = none) :
    offerPulse theta s = s := by
  cases theta with
  | none => rfl
  | some th => exact duSample_other th (h.resolve_right (by simp))

theorem presenceOf_stamped {t : TB} {stamp : Stamp} (h : t.edge = some ⟨stamp, 0⟩) :
    presenceOf t = match t.labelAge with
      | some a => decide (a ≤ 30000000)
      | none => false := by
  unfold presenceOf
  rw [h]
  cases t.labelAge <;> simp

/-- Settles O29. -/
theorem pulseEdgeAccepted : Obligations.PulseEdgeAccepted := by
  unfold Obligations.PulseEdgeAccepted
  intro s hon
  refine ⟨fun hoff => next_on hon (if_neg (by rw [hoff]; decide)), fun w hin hw => next_on hon ?_,
    fun base L u hin hw hidle hrun hpending hlast hu => ?_⟩
  · unfold pulseEdgeComes
    rw [if_pos hin, hw]
    rfl
  · obtain ⟨hkeeps, hsecond, htick, present, hstamped⟩ := edgeStamped_base hidle hrun
    have hlabel : labelSecond (edgeStamped s.tb) = L := by
      rw [hstamped]
      unfold labelSecond
      cases hp : base.pendingLabel with
      | some l => exact (hpending l hp).symm
      | none => rw [hlast hp, ← hkeeps]
    have haccepted : s.setTb (acceptEdge s.tb) = u := by
      rw [hu, acceptEdge_eq, hlabel, presenceOf_stamped (by rw [hstamped]), hstamped]
      rfl
    have hedge : pulseEdgeComes s = offerPulse (edgeOffset u.tb) u := by
      rw [← haccepted]
      unfold pulseEdgeComes
      rw [if_pos hin, hw]
    refine ⟨fun hno => next_on hon (hedge.trans ?_), fun l hl hpresent hlate => next_on hon (hedge.trans ?_),
      fun l hl hpresent hearly => next_on hon (hedge.trans ?_)⟩
    · refine offerPulse_idle (hno.imp (fun h => ?_) (fun h => edgeOffset_none (h.imp (fun h => ?_) id)))
      · rwa [hu]
      · rw [hu]
        exact h
    · rw [edgeOffset_some hpresent (by rw [hu]; exact hl)]
      refine congrArg (fun th => duSample .pulse th u) ?_
      rw [hu]
      dsimp only
      rw [hsecond, htick]
      exact if_pos hlate
    · rw [edgeOffset_some hpresent (by rw [hu]; exact hl)]
      refine congrArg (fun th => duSample .pulse th u) ?_
      rw [hu]
      dsimp only
      rw [hsecond, htick]
      exact if_neg (Nat.not_lt_of_le hearly)

end Sys2Proof.Machine
end

section
/-! PROOF. Selection at a mark and the end of holdover (O25, O32). -/

namespace Sys2Proof.Machine

/-! ## DU's own part of a mark -/

theorem findEntry_of_mem {es : List PeerEntry} {e : PeerEntry} (hord : (es.map (fun e => e.id.toNat)).Pairwise (· < ·)) (he : e ∈ es) :
    findEntry e.id es = some e := by
  induction es with
  | nil => cases he
  | cons x xs ih =>
    rw [List.map_cons, List.pairwise_cons] at hord
    obtain ⟨hfirst, hrest⟩ := hord
    rcases List.mem_cons.mp he with rfl | hin
    · exact findEntry_cons_same rfl xs
    · have hlt := hfirst e.id.toNat (List.mem_map.mpr ⟨e, hin, rfl⟩)
      rw [findEntry_cons_ne (fun h => by rw [h] at hlt; exact Nat.lt_irrefl _ hlt)]
      exact ih hrest hin

theorem ageHoldover_other {limit : Nat} {d : DU} (h : d.state ≠ .holdover) : ageHoldover limit d = d := by
  unfold ageHoldover
  split
  next hst => exact absurd hst h
  · rfl

theorem ageHoldover_expires {limit : Nat} {d : DU} (h : d.state = .holdover) (hlimit : limit < d.holdoverAge + 1) :
    ageHoldover limit d = { d with
      state := .freeRoot
      holdoverAge := 0
      boundAtEntry := none
      heldClass := none
      errorBound := 65535 } := by
  unfold ageHoldover
  rw [h]
  exact if_pos hlimit

theorem ageHoldover_ages {limit : Nat} {d : DU} (h : d.state = .holdover) (hlimit : ¬ limit < d.holdoverAge + 1) :
    ageHoldover limit d = { d with holdoverAge := d.holdoverAge + 1 } := by
  unfold ageHoldover
  rw [h]
  refine (if_neg hlimit).trans ?_
  rw [← h]

theorem ageHoldover_eq (limit : Nat) (d : DU) : ageHoldover limit d = { d with
    state := (ageHoldover limit d).state
    holdoverAge := (ageHoldover limit d).holdoverAge
    boundAtEntry := (ageHoldover limit d).boundAtEntry
    heldClass := (ageHoldover limit d).heldClass
    errorBound := (ageHoldover limit d).errorBound } := by
  unfold ageHoldover
  split
  · split <;> rfl
  · rfl

theorem fixAdvertisement_eq (own : StationId) (pt : PT) (d : DU) : fixAdvertisement own pt d = { d with
    cls := (fixAdvertisement own pt d).cls
    root := (fixAdvertisement own pt d).root
    depth := (fixAdvertisement own pt d).depth } := by
  unfold fixAdvertisement
  split
  · split <;> rfl
  · split <;> rfl
  all_goals rfl

theorem fixAdvertisement_root {own : StationId} {pt : PT} {d : DU} (h : d.state = .holdover ∨ d.state = .freeRoot) :
    fixAdvertisement own pt d = { d with cls := rootClass d, root := own, depth := 0 } := by
  unfold fixAdvertisement
  rcases h with h | h <;> rw [h]

theorem fixAdvertisement_pulse {own : StationId} {pt : PT} {d : DU} (h : d.state = .acquire ∨ d.state = .locked)
    (href : d.reference = some .pulse) : fixAdvertisement own pt d = { d with cls := 0, root := own, depth := 0 } := by
  unfold fixAdvertisement
  rcases h with h | h <;> rw [h, href]

theorem fixAdvertisement_peer {own : StationId} {pt : PT} {d : DU} {id : StationId} {e : PeerEntry}
    (h : d.state = .acquire ∨ d.state = .locked) (href : d.reference = some (.peer id)) (he : findEntry id pt.entries = some e) :
    fixAdvertisement own pt d = { d with cls := e.cls, root := e.root, depth := e.depth + 1 } := by
  unfold fixAdvertisement
  rcases h with h | h <;> rw [h, href] <;> dsimp only <;> rw [he]

/-- DU at the end of its mark: the advertisement and the error bound fixed anew (R51, R74). -/
def advertised (own : StationId) (pt : PT) (d : DU) : DU :=
  rebound pt (fixAdvertisement own pt d)

theorem advertised_eq (own : StationId) (pt : PT) (d : DU) : advertised own pt d = { d with
    cls := (advertised own pt d).cls
    root := (advertised own pt d).root
    depth := (advertised own pt d).depth
    errorBound := (advertised own pt d).errorBound } := by
  unfold advertised rebound
  rw [fixAdvertisement_eq]

theorem advertised_bound_out {own : StationId} {pt : PT} {d : DU} (h : d.state = .acquire ∨ d.state = .freeRoot) :
    (advertised own pt d).errorBound = 65535 := by
  have hstate : (fixAdvertisement own pt d).state = d.state := by
    rw [fixAdvertisement_eq]
  unfold advertised rebound boundOf
  dsimp only
  rw [hstate]
  rcases h with h | h <;> rw [h]

theorem advertised_bound_holdover {own : StationId} {pt : PT} {d : DU} (h : d.state = .holdover) :
    (advertised own pt d).errorBound = min 65535 (d.boundAtEntry.getD 0 + d.holdoverAge) := by
  unfold advertised
  rw [fixAdvertisement_root (.inl h), ← satBound_eq_min]
  unfold rebound boundOf
  rw [h]

theorem advertised_bound_pulse {own : StationId} {pt : PT} {d : DU} (h : d.state = .locked) (href : d.reference = some .pulse) :
    (advertised own pt d).errorBound = min 65535 (1 + (d.f.natAbs + 999) / 1000 + 1) := by
  unfold advertised
  rw [fixAdvertisement_pulse (.inr h) href]
  exact rebound_errorBound_pulse pt h href

theorem advertised_bound_peer {own : StationId} {pt : PT} {d : DU} {id : StationId} {e : PeerEntry} (h : d.state = .locked)
    (href : d.reference = some (.peer id)) (he : findEntry id pt.entries = some e) :
    (advertised own pt d).errorBound = min 65535 (e.errorBound + (d.f.natAbs + 999) / 1000 + 1) := by
  unfold advertised
  rw [fixAdvertisement_peer (.inr h) href he]
  exact rebound_errorBound_peer (id := id) h href he

/-- The advertisement of a root (Figure 25). -/
theorem advertised_root {own : StationId} {pt : PT} {d : DU} (h : d.state = .holdover ∨ d.state = .freeRoot) :
    (advertised own pt d).cls = rootClass d ∧ (advertised own pt d).root = own ∧ (advertised own pt d).depth = 0 := by
  unfold advertised rebound
  rw [fixAdvertisement_root h]
  exact ⟨rfl, rfl, rfl⟩

theorem advertised_pulse {own : StationId} {pt : PT} {d : DU} (h : d.state = .acquire ∨ d.state = .locked)
    (href : d.reference = some .pulse) :
    (advertised own pt d).cls = 0 ∧ (advertised own pt d).root = own ∧ (advertised own pt d).depth = 0 := by
  unfold advertised rebound
  rw [fixAdvertisement_pulse h href]
  exact ⟨rfl, rfl, rfl⟩

theorem advertised_peer {own : StationId} {pt : PT} {d : DU} {id : StationId} {e : PeerEntry}
    (h : d.state = .acquire ∨ d.state = .locked) (href : d.reference = some (.peer id)) (he : findEntry id pt.entries = some e) :
    (advertised own pt d).cls = e.cls ∧ (advertised own pt d).root = e.root ∧ (advertised own pt d).depth = e.depth + 1 := by
  unfold advertised rebound
  rw [fixAdvertisement_peer h href he]
  exact ⟨rfl, rfl, rfl⟩

/-! ## The selection of a mark -/

theorem referenceStands_pulse {s : State} (h : s.du.reference = some .pulse) : referenceStands s = pulseCandidate s := by
  unfold referenceStands
  rw [h]

theorem referenceStands_none {s : State} (h : s.du.reference = none) : referenceStands s = true := by
  unfold referenceStands
  rw [h]

theorem referenceStands_peer {s : State} {id : StationId} {e : PeerEntry} (h : s.du.reference = some (.peer id))
    (he : findEntry id s.pt.entries = some e) : referenceStands s = peerCandidate s.sul.stationId e := by
  unfold referenceStands
  rw [h]
  dsimp only
  rw [he]

/-- A peer whose entries are no candidates, or that has none, is no reference to keep (R54). -/
theorem referenceStands_lost {s : State} {id : StationId} (h : s.du.reference = some (.peer id))
    (hno : ∀ e ∈ s.pt.entries, e.id = id → peerCandidate s.sul.stationId e = false) : referenceStands s = false := by
  cases he : findEntry id s.pt.entries with
  | none =>
    unfold referenceStands
    rw [h]
    dsimp only
    rw [he]
  | some e =>
    obtain ⟨hmem, hid⟩ := findEntry_some he
    rw [referenceStands_peer h he]
    exact hno e hmem hid

theorem rootChoice_pulse {s : State} (h : pulseCandidate s = true) : rootChoice s = some .pulse :=
  if_pos h

theorem rootChoice_none {s : State} (h : pulseCandidate s = false) (hb : bestPeer s.sul.stationId s.pt.entries = none) :
    rootChoice s = none := by
  unfold rootChoice
  rw [h, hb]
  rfl

/-- The number a root's key carries as its root id: 16 of a listen-only node (R53). -/
def ownRootNumber (own : StationId) : Nat :=
  if own = 0 then 16 else own.toNat

theorem keyLess_ownRoot (own : StationId) (d : DU) (b : PeerEntry) : keyLess (peerKey b) (ownRootKey own d) = true ↔
    b.cls < rootClass d ∨ (b.cls = rootClass d ∧ b.root.toNat < ownRootNumber own) := by
  rw [keyLess_iff]
  simp only [peerKey, ownRootKey, ownRootNumber]
  omega

theorem rootChoice_peer {s : State} {b : PeerEntry} (h : pulseCandidate s = false)
    (hb : bestPeer s.sul.stationId s.pt.entries = some b)
    (hkey : b.cls < rootClass s.du ∨ (b.cls = rootClass s.du ∧ b.root.toNat < ownRootNumber s.sul.stationId)) :
    rootChoice s = some (.peer b.id) := by
  unfold rootChoice
  rw [h, hb]
  exact if_pos ((keyLess_ownRoot ..).mpr hkey)

theorem rootChoice_stays {s : State} {b : PeerEntry} (h : pulseCandidate s = false)
    (hb : bestPeer s.sul.stationId s.pt.entries = some b)
    (hkey : rootClass s.du < b.cls ∨ (b.cls = rootClass s.du ∧ ownRootNumber s.sul.stationId ≤ b.root.toNat)) :
    rootChoice s = none := by
  unfold rootChoice
  have hno : ¬ (keyLess (peerKey b) (ownRootKey s.sul.stationId s.du) = true) := fun hless => by
    have := (keyLess_ownRoot ..).mp hless
    omega
  rw [h, hb]
  exact if_neg hno

theorem betterReference_pulse {s : State} (h : s.du.reference = some .pulse) : betterReference s = none := by
  unfold betterReference
  rw [h]

theorem betterReference_toPulse {s : State} {id : StationId} (h : s.du.reference = some (.peer id)) (hp : pulseCandidate s = true) :
    betterReference s = some .pulse := by
  unfold betterReference
  rw [h]
  exact if_pos hp

theorem betterReference_toPeer {s : State} {cur b : PeerEntry} (h : s.du.reference = some (.peer cur.id))
    (hp : pulseCandidate s = false) (hcur : findEntry cur.id s.pt.entries = some cur)
    (hb : bestPeer s.sul.stationId s.pt.entries = some b)
    (hless : b.cls < cur.cls ∨ (b.cls = cur.cls ∧ b.root.toNat < cur.root.toNat)) : betterReference s = some (.peer b.id) := by
  unfold betterReference
  rw [h]
  dsimp only
  rw [hp, hcur, hb]
  exact if_pos hless

theorem betterReference_stays {s : State} {cur b : PeerEntry} (h : s.du.reference = some (.peer cur.id))
    (hp : pulseCandidate s = false) (hcur : findEntry cur.id s.pt.entries = some cur)
    (hb : bestPeer s.sul.stationId s.pt.entries = some b)
    (hno : cur.cls < b.cls ∨ (b.cls = cur.cls ∧ cur.root.toNat ≤ b.root.toNat)) : betterReference s = none := by
  have hno : ¬ (b.cls < cur.cls ∨ (b.cls = cur.cls ∧ b.root.toNat < cur.root.toNat)) := by omega
  unfold betterReference
  rw [h]
  dsimp only
  rw [hp, hcur, hb]
  exact if_neg hno

/-- The source a mark chooses: what a followed reference gives way to, or a root's choice (R54). -/
def markChoice (s : State) : Option Reference :=
  if s.du.reference.isSome then betterReference s else rootChoice s

theorem markChoice_follows {s : State} {r : Reference} (h : s.du.reference = some r) : markChoice s = betterReference s := by
  unfold markChoice
  rw [h]
  rfl

theorem markChoice_root {s : State} (h : s.du.reference = none) : markChoice s = rootChoice s := by
  unfold markChoice
  rw [h]
  rfl

/-- DU as its mark finds it: the holdover age advanced (R72), and its reference lost where it is no candidate (R70). -/
def keptOrLost (s : State) : State :=
  if referenceStands s then s else loseReference s

theorem evaluateSelection_chosen {s : State} {r : Reference} (second : Second) (h : markChoice (keptOrLost s) = some r) :
    evaluateSelection second s = selectSource r second (keptOrLost s) := by
  unfold evaluateSelection
  have hchoice : (if (keptOrLost s).du.reference.isSome then betterReference (keptOrLost s) else rootChoice (keptOrLost s)) = some r := h
  unfold keptOrLost at hchoice ⊢
  dsimp only
  rw [hchoice]

theorem evaluateSelection_none {s : State} (second : Second) (h : markChoice (keptOrLost s) = none) :
    evaluateSelection second s = keptOrLost s := by
  unfold evaluateSelection
  have hchoice : (if (keptOrLost s).du.reference.isSome then betterReference (keptOrLost s) else rootChoice (keptOrLost s)) = none := h
  unfold keptOrLost at hchoice ⊢
  dsimp only
  rw [hchoice]

/-- The node with DU's holdover age advanced (R72). -/
def agedNode (s : State) : State :=
  s.setDu (ageHoldover s.sul.image.holdoverLimit s.du)

theorem keptOrLost_stands {s : State} (h : referenceStands s = true) : keptOrLost s = s :=
  if_pos h

theorem keptOrLost_lost {s : State} (h : referenceStands s = false) : keptOrLost s = loseReference s :=
  if_neg (by rw [h]; decide)

theorem keptOrLost_keeps (s : State) : (keptOrLost s).pt = s.pt ∧ (keptOrLost s).sul = s.sul ∧ (keptOrLost s).rs = s.rs
    ∧ ({ (keptOrLost s).tb with slew := some 0 } : TB) = { s.tb with slew := some 0 }
    ∧ pulseCandidate (keptOrLost s) = pulseCandidate s := by
  unfold keptOrLost
  split <;> exact ⟨rfl, rfl, rfl, rfl, rfl⟩

/-- A mark that selects a source. -/
theorem markDu_selects {s : State} {r : Reference} (q : Second) (h : markChoice (keptOrLost (agedNode s)) = some r) :
    (markDu q s).du = advertised s.sul.stationId s.pt (selectDu r (keptOrLost (agedNode s)).du)
      ∧ (markDu q s).tb = { s.tb with slew := some 0 } ∧ (markDu q s).rs = (raiseEvent .referenceChange q s).rs := by
  have hmark : markDu q s = (evaluateSelection q (agedNode s)).setDu
      (rebound (evaluateSelection q (agedNode s)).pt (fixAdvertisement (evaluateSelection q (agedNode s)).sul.stationId
        (evaluateSelection q (agedNode s)).pt (evaluateSelection q (agedNode s)).du)) := rfl
  obtain ⟨hpt, hsul, hrs, htb, -⟩ := keptOrLost_keeps (agedNode s)
  rw [hmark, evaluateSelection_chosen q h]
  refine ⟨?_, ?_, ?_⟩
  · simp only [State.setDu_du, selectSource_frame, hpt, hsul]
    simp only [selectSource, raiseEvent_frame]
    rfl
  · simp only [State.setDu_tb, selectSource, raiseEvent_frame]
    exact htb
  · simp only [State.setDu_rs, selectSource]
    rw [raiseEvent_rs, raiseEvent_rs]
    simp only [State.setTb_sul, State.setDu_sul, State.setTb_rs, State.setDu_rs, hsul, hrs]
    rfl

/-- A mark that leaves the reference, or the root, as it stands. -/
theorem markDu_stands {s : State} (q : Second) (h : referenceStands (agedNode s) = true) (hchoice : markChoice (agedNode s) = none) :
    markDu q s = { s with du := advertised s.sul.stationId s.pt (ageHoldover s.sul.image.holdoverLimit s.du) } := by
  have hkept := keptOrLost_stands h
  have hsel : evaluateSelection q (agedNode s) = agedNode s := (evaluateSelection_none q (hkept.symm ▸ hchoice)).trans hkept
  unfold markDu
  dsimp only
  rw [show s.setDu (ageHoldover s.sul.image.holdoverLimit s.du) = agedNode s from rfl, hsel]
  rfl

/-- A mark that loses the reference and selects nothing. -/
theorem markDu_loses {s : State} (q : Second) (h : referenceStands (agedNode s) = false)
    (hchoice : markChoice (loseReference (agedNode s)) = none) : markDu q s = { s with
      tb := { s.tb with slew := some 0 }
      du := advertised s.sul.stationId s.pt (loseDu s.pt (ageHoldover s.sul.image.holdoverLimit s.du)) } := by
  have hlost := keptOrLost_lost h
  have hsel : evaluateSelection q (agedNode s) = loseReference (agedNode s) :=
    (evaluateSelection_none q (hlost.symm ▸ hchoice)).trans hlost
  unfold markDu
  dsimp only
  rw [show s.setDu (ageHoldover s.sul.image.holdoverLimit s.du) = agedNode s from rfl, hsel]
  rfl

/-- DU after a selection (R71). -/
theorem advertised_selected (own : StationId) (pt : PT) (r : Reference) (d : DU) :
    (advertised own pt (selectDu r d)).state = .acquire ∧ (advertised own pt (selectDu r d)).reference = some r
      ∧ (advertised own pt (selectDu r d)).f = 0 ∧ (advertised own pt (selectDu r d)).lockCount = 0
      ∧ (advertised own pt (selectDu r d)).outlierRun = 0 ∧ (advertised own pt (selectDu r d)).errorBound = 65535
      ∧ (advertised own pt (selectDu r d)).holdoverAge = 0 ∧ (advertised own pt (selectDu r d)).boundAtEntry = none
      ∧ (advertised own pt (selectDu r d)).heldClass = none := by
  have hbound := advertised_bound_out (own := own) (pt := pt) (d := selectDu r d) (.inl rfl)
  rw [hbound, advertised_eq]
  exact ⟨rfl, rfl, rfl, rfl, rfl, rfl, rfl, rfl, rfl⟩

/-- What a mark at DU can change. -/
theorem markDu_changes (q : Second) (s : State) : markDu q s
    = { s with tb := (markDu q s).tb, du := (markDu q s).du, rs := (markDu q s).rs } := by
  rw [State.eq_iff]
  simp

/-! ## O32 -/

theorem markChoice_loseReference (s : State) : markChoice (loseReference s) = rootChoice (loseReference s) := by
  refine markChoice_root ?_
  unfold loseReference loseDu
  dsimp only [State.setDu_du, State.setTb_du]
  split <;> rfl

theorem agedNode_reference (s : State) : (agedNode s).du.reference = s.du.reference := by
  unfold agedNode
  rw [ageHoldover_eq]
  rfl

/-- Settles O32. -/
theorem holdoverEnds : Obligations.HoldoverEnds := by
  unfold Obligations.HoldoverEnds
  intro s hon hst hlimit href
  have hnext : holdoverNext s.sul.image.holdoverLimit s.du = true := by
    unfold holdoverNext
    rw [hst, decide_eq_true hlimit]
    rfl
  have hruns := ownMark_runs .du (due := fun s => holdoverNext s.sul.image.holdoverLimit s.du) hon hnext
  rw [takeOwnMark_eq] at hruns
  generalize hu : ({ s with notices := dropNotice .du s.notices } : State) = u at hruns
  have hroot : (agedNode u).du.reference = none := (agedNode_reference u).trans (hu ▸ href)
  have hstands := referenceStands_none hroot
  refine ⟨fun hpulse hno => ?_, fun hpulse => ⟨_, hruns, ?_⟩⟩
  · refine hruns.trans (congrArg Host.Outcome.next ?_)
    have hchoice : markChoice (agedNode u) = none := by
      rw [markChoice_root hroot]
      exact rootChoice_none (hu ▸ hpulse) (hu ▸ (bestPeer_none_iff _ _).mpr hno)
    refine (markDu_stands _ hstands hchoice).trans ?_
    rw [← hu]
    dsimp only
    rw [ageHoldover_expires hst hlimit]
    unfold advertised
    rw [fixAdvertisement_root (.inr rfl)]
    rfl
  · have hchoice : markChoice (keptOrLost (agedNode u)) = some .pulse := by
      rw [keptOrLost_stands hstands, markChoice_root hroot]
      exact rootChoice_pulse (hu ▸ hpulse)
    obtain ⟨hdu, htb, hrs⟩ := markDu_selects (ownMark .du s).1 hchoice
    obtain ⟨hstate, hreference, -, -, -, hbound, -⟩ :=
      advertised_selected u.sul.stationId u.pt .pulse (keptOrLost (agedNode u)).du
    obtain ⟨hcls, hown, hdepth⟩ := advertised_pulse (own := u.sul.stationId) (pt := u.pt)
      (d := selectDu .pulse (keptOrLost (agedNode u)).du) (.inl rfl) rfl
    have hchanges := markDu_changes (ownMark .du s).1 u
    rw [← hdu] at hstate hreference hbound hcls hown hdepth
    subst hu
    refine ⟨hstate, hreference, hcls, hown, hdepth, hbound, htb, ?_, hchanges⟩
    refine hrs.trans ?_
    unfold ownMark
    rw [raiseEvent_rs, raiseEvent_rs]
    cases noticeFor .du s.notices <;> rfl

/-! ## O25 -/

theorem rootClass_aged {limit : Nat} {d : DU} {ownClass : Nat} (hst : d.state = .freeRoot ∨ d.state = .holdover)
    (hout : d.state ≠ .holdover ∨ (d.state = .holdover ∧ limit < d.holdoverAge + 1) → ownClass = 2)
    (hin : d.state = .holdover → ¬ (d.state = .holdover ∧ limit < d.holdoverAge + 1) →
      ownClass = if d.heldClass = some 2 then 2 else 1) : rootClass (ageHoldover limit d) = ownClass := by
  rcases hst with hst | hst
  · rw [ageHoldover_other (by rw [hst]; decide), hout (.inl (by rw [hst]; decide))]
    unfold rootClass
    rw [hst]
  · by_cases hlimit : limit < d.holdoverAge + 1
    · rw [ageHoldover_expires hst hlimit, hout (.inr ⟨hst, hlimit⟩)]
      rfl
    · rw [ageHoldover_ages hst hlimit, hin hst (fun h => hlimit h.2)]
      unfold rootClass
      dsimp only
      rw [hst]

/-- The class of the root a loss makes (R70, Figure 25). -/
theorem rootClass_lost {pt : PT} {d : DU} {lostClass : Nat}
    (h : (d.state = .locked ∧ lostClass = (if d.cls = 2 then 2 else 1)) ∨ (d.state = .acquire ∧ lostClass = 2)) :
    rootClass (loseDu pt d) = lostClass := by
  unfold loseDu rootClass
  rcases h with ⟨hst, rfl⟩ | ⟨hst, rfl⟩
  · rw [hst]
    simp [rebound]
  · rw [hst]
    rfl

/-- What a mark that selects nothing leaves of DU's own part. -/
theorem advertised_keeps (own : StationId) (pt : PT) (d : DU) : (advertised own pt d).state = d.state
    ∧ (advertised own pt d).reference = d.reference ∧ (advertised own pt d).f = d.f ∧ (advertised own pt d).lockCount = d.lockCount
    ∧ (advertised own pt d).outlierRun = d.outlierRun ∧ (advertised own pt d).holdoverAge = d.holdoverAge
    ∧ (advertised own pt d).boundAtEntry = d.boundAtEntry ∧ (advertised own pt d).heldClass = d.heldClass := by
  rw [advertised_eq]
  exact ⟨rfl, rfl, rfl, rfl, rfl, rfl, rfl, rfl⟩

theorem ageHoldover_keeps (limit : Nat) (d : DU) : (ageHoldover limit d).reference = d.reference ∧ (ageHoldover limit d).f = d.f
    ∧ (ageHoldover limit d).lockCount = d.lockCount ∧ (ageHoldover limit d).outlierRun = d.outlierRun := by
  rw [ageHoldover_eq]
  exact ⟨rfl, rfl, rfl, rfl⟩

/-- The loss of a reference (R70). -/
theorem loseDu_keeps (pt : PT) (d : DU) : (loseDu pt d).reference = none ∧ (loseDu pt d).f = 0 ∧ (loseDu pt d).lockCount = 0
    ∧ (loseDu pt d).outlierRun = 0 := by
  unfold loseDu
  dsimp only
  split <;> exact ⟨rfl, rfl, rfl, rfl⟩

theorem loseDu_locked {pt : PT} {d : DU} (h : d.state = .locked) : (loseDu pt d).state = .holdover ∧ (loseDu pt d).holdoverAge = 0
    ∧ (loseDu pt d).boundAtEntry = some d.errorBound ∧ (loseDu pt d).heldClass = some d.cls := by
  unfold loseDu
  rw [h]
  exact ⟨rfl, rfl, rfl, rfl⟩

theorem loseDu_acquire {pt : PT} {d : DU} (h : d.state = .acquire) : (loseDu pt d).state = .freeRoot := by
  unfold loseDu
  rw [h]
  rfl

/-- Settles O25. -/
theorem selectionAtMark : Obligations.SelectionAtMark := by
  unfold Obligations.SelectionAtMark
  intro s hon hnone hmark hord
  obtain ⟨q, ep, hfresh, hmarks⟩ := marksSecond_one .du hmark
  obtain ⟨rfl, -⟩ := hfresh hnone
  generalize hm : ({ tbMark s with notices := dropNotice .du (tbMark s).notices } : State) = m at hmarks
  have hmdu : m.du = s.du := hm ▸ rfl
  have hmpt : m.pt = s.pt := hm ▸ rfl
  have hmsul : m.sul = s.sul := hm ▸ rfl
  have hmrs : m.rs = s.rs := hm ▸ rfl
  have hmtb : m.tb = markTb s.tb := hm ▸ rfl
  have hmpulse : pulseCandidate m = pulseCandidate s := hm ▸ rfl
  have hframe : ∀ u : State, u = { m with tb := u.tb, du := u.du, rs := u.rs } →
      u = { s with tb := u.tb, notices := u.notices, instants := u.instants, du := u.du, rs := u.rs } := by
    intro u hu
    rw [hu, ← hm]
    rfl
  refine ⟨markDu (s.tb.second + 1) m, next_on hon hmarks, hframe _ (markDu_changes _ _), ?_⟩
  intro chosen stands expires loses lost ownClass hexpires hout hin hchosen hstands hloses hlost
  obtain rfl := propext hexpires
  have hagedRef : (agedNode m).du.reference = s.du.reference := (agedNode_reference m).trans (congrArg DU.reference hmdu)
  have hagedDu : (agedNode m).du = ageHoldover s.sul.image.holdoverLimit s.du := by
    rw [← hmdu, ← hmsul]
    rfl
  have hselected : ∀ r, markChoice (keptOrLost (agedNode m)) = some r → chosen r ∧
      ∀ b ∈ s.pt.entries, r = .peer b.id → (markDu (s.tb.second + 1) m).du.cls = b.cls
        ∧ (markDu (s.tb.second + 1) m).du.root = b.root ∧ (markDu (s.tb.second + 1) m).du.depth = b.depth + 1 := by
    intro r hr
    obtain ⟨hdu, htb, hrs⟩ := markDu_selects (s.tb.second + 1) hr
    rw [hchosen, hdu, htb, hrs, hmtb, hmpt, hmsul, raiseEvent_rs, raiseEvent_rs, hmrs, hmsul]
    obtain ⟨hstate, href, hf, hlock, hrun, hbound, hage, hentry, hheld⟩ :=
      advertised_selected s.sul.stationId s.pt r (keptOrLost (agedNode m)).du
    refine ⟨⟨hstate, href, hf, hlock, hrun, hbound, rfl, hage, hentry, hheld, fun hpulse => ?_, rfl⟩, fun b hb hpeer => ?_⟩
    · subst hpulse
      exact advertised_pulse (.inl rfl) rfl
    · subst hpeer
      exact advertised_peer (id := b.id) (.inl rfl) rfl (findEntry_of_mem hord hb)
  have hstanding : referenceStands (agedNode m) = true → markChoice (agedNode m) = none → stands := by
    intro hst hchoice
    rw [hstands, markDu_stands (s.tb.second + 1) hst hchoice]
    dsimp only
    rw [hmtb, hmrs, hmpt, hmsul, hmdu]
    obtain ⟨hstate, href, hf, hlock, hrun, hage, hentry, hheld⟩ :=
      advertised_keeps s.sul.stationId s.pt (ageHoldover s.sul.image.holdoverLimit s.du)
    obtain ⟨href', hf', hlock', hrun'⟩ := ageHoldover_keeps s.sul.image.holdoverLimit s.du
    refine and_assoc.mp ⟨⟨fun hno => ?_, fun hyes => ?_⟩, fun hhold hno => ?_, fun hhold => ?_, fun hfree => ?_, fun hacq => ?_,
      fun hfollows => ?_, fun hlocked => ?_, href.trans href', hf.trans hf', hlock.trans hlock', hrun.trans hrun', rfl, rfl⟩
    · rw [hstate]
      by_cases hhold : s.du.state = .holdover
      · rw [ageHoldover_ages hhold (fun h => hno (hexpires.mpr ⟨hhold, h⟩))]
      · rw [ageHoldover_other hhold]
    · obtain ⟨hhold, hlimit⟩ := hexpires.mp hyes
      rw [ageHoldover_expires hhold hlimit] at *
      exact ⟨hstate, hage, hentry, hheld, advertised_bound_out (.inr rfl)⟩
    · have hages := ageHoldover_ages hhold (fun h => hno (hexpires.mpr ⟨hhold, h⟩))
      rw [hages] at hage hentry hheld ⊢
      exact ⟨hage, hentry, hheld, advertised_bound_holdover hhold⟩
    · have hclass := rootClass_aged (.inr hhold) hout hin
      rw [← hclass]
      refine advertised_root ?_
      by_cases hlimit : s.sul.image.holdoverLimit < s.du.holdoverAge + 1
      · exact .inr (by rw [ageHoldover_expires hhold hlimit])
      · exact .inl (by rw [ageHoldover_ages hhold hlimit]; exact hhold)
    · rw [ageHoldover_other (by rw [hfree]; decide)]
      obtain ⟨hcls, hroot, hdepth⟩ := advertised_root (own := s.sul.stationId) (pt := s.pt) (.inr hfree)
      refine ⟨hcls.trans ?_, hroot, hdepth, advertised_bound_out (.inr hfree)⟩
      unfold rootClass
      rw [hfree]
    · rw [ageHoldover_other (by rw [hacq]; decide)]
      exact advertised_bound_out (.inl hacq)
    · rw [ageHoldover_other (by rcases hfollows with h | h <;> rw [h] <;> decide)]
      exact ⟨advertised_pulse hfollows, fun e he hpeer => advertised_peer hfollows hpeer (findEntry_of_mem hord he)⟩
    · rw [ageHoldover_other (by rw [hlocked]; decide)]
      exact ⟨advertised_bound_pulse hlocked, fun e he hpeer => advertised_bound_peer hlocked hpeer (findEntry_of_mem hord he)⟩
  have hlosing : referenceStands (agedNode m) = false → markChoice (loseReference (agedNode m)) = none → loses := by
    intro hst hchoice
    rw [hloses, markDu_loses (s.tb.second + 1) hst hchoice]
    dsimp only
    rw [hmtb, hmrs, hmpt, hmsul, hmdu]
    obtain ⟨hstate, href, hf, hlock, hrun, hage, hentry, hheld⟩ :=
      advertised_keeps s.sul.stationId s.pt (loseDu s.pt (ageHoldover s.sul.image.holdoverLimit s.du))
    obtain ⟨href', hf', hlock', hrun'⟩ := loseDu_keeps s.pt (ageHoldover s.sul.image.holdoverLimit s.du)
    refine ⟨href.trans href', hf.trans hf', hlock.trans hlock', hrun.trans hrun', rfl, rfl, fun hlocked => ?_, fun hacq => ?_⟩
    · rw [ageHoldover_other (by rw [hlocked]; decide)] at *
      obtain ⟨hlostState, hlostAge, hlostEntry, hlostHeld⟩ := loseDu_locked (pt := s.pt) hlocked
      obtain ⟨hcls, hroot, hdepth⟩ := advertised_root (own := s.sul.stationId) (pt := s.pt) (.inl hlostState)
      have hbound := advertised_bound_holdover (own := s.sul.stationId) (pt := s.pt) hlostState
      rw [hlostEntry, hlostAge] at hbound
      exact ⟨hstate.trans hlostState, hage.trans hlostAge, hentry.trans hlostEntry, hheld.trans hlostHeld, hbound,
        hcls.trans (rootClass_lost (.inl ⟨hlocked, rfl⟩)), hroot, hdepth⟩
    · rw [ageHoldover_other (by rw [hacq]; decide)] at *
      have hlostState := loseDu_acquire (pt := s.pt) hacq
      obtain ⟨hcls, hroot, hdepth⟩ := advertised_root (own := s.sul.stationId) (pt := s.pt) (.inr hlostState)
      exact ⟨hstate.trans hlostState, hcls.trans (rootClass_lost (.inr ⟨hacq, rfl⟩)), hroot, hdepth,
        advertised_bound_out (.inr hlostState)⟩
  have hgone : lost → referenceStands (agedNode m) = false := by
    intro h
    rcases hlost.mp h with ⟨href, hpulse⟩ | ⟨id, href, hno⟩
    · rw [referenceStands_pulse (hagedRef.trans href)]
      exact hmpulse.trans hpulse
    · exact referenceStands_lost (hagedRef.trans href) (hmpt.symm ▸ hmsul.symm ▸ hno)
  have hlostChoice : lost → markChoice (keptOrLost (agedNode m)) = rootChoice (loseReference (agedNode m)) := by
    intro h
    rw [keptOrLost_lost (hgone h), markChoice_loseReference]
  have hpulseOf : pulseCandidate (agedNode m) = pulseCandidate s := hmpulse
  have hbestOf : ∀ {b}, bestPeer s.sul.stationId s.pt.entries = b → bestPeer (agedNode m).sul.stationId (agedNode m).pt.entries = b := by
    rintro b rfl
    rw [← hmpt, ← hmsul]
    rfl
  have hfindOf : ∀ cur ∈ s.pt.entries, findEntry cur.id (agedNode m).pt.entries = some cur := by
    intro cur hcur
    have hpt : (agedNode m).pt = s.pt := hmpt
    rw [hpt]
    exact findEntry_of_mem hord hcur
  have hcandOf : ∀ e, peerCandidate s.sul.stationId e = true → peerCandidate (agedNode m).sul.stationId e = true := by
    intro e he
    have hsul : (agedNode m).sul = s.sul := hmsul
    rw [hsul]
    exact he
  have hown : ∀ own : Nat, own = (if s.sul.stationId = 0 then 16 else s.sul.stationId.toNat) →
      ownRootNumber (agedNode m).sul.stationId = own := by
    rintro own rfl
    exact congrArg (fun u => ownRootNumber u.stationId) hmsul
  have hrootChoice : s.du.reference = none → markChoice (keptOrLost (agedNode m)) = rootChoice (agedNode m) := by
    intro href
    rw [keptOrLost_stands (referenceStands_none (hagedRef.trans href)), markChoice_root (hagedRef.trans href)]
  have hagedClass : s.du.state = .freeRoot ∨ s.du.state = .holdover → rootClass (agedNode m).du = ownClass := fun hst => by
    rw [hagedDu]
    exact rootClass_aged hst hout hin
  have hlostClass : ∀ {lostClass}, (s.du.state = .locked ∧ lostClass = (if s.du.cls = 2 then 2 else 1))
      ∨ (s.du.state = .acquire ∧ lostClass = 2) → rootClass (loseReference (agedNode m)).du = lostClass := by
    intro lostClass h
    have hdu : (loseReference (agedNode m)).du = loseDu m.pt s.du := by
      refine congrArg (loseDu m.pt) (hagedDu.trans (ageHoldover_other ?_))
      rcases h with ⟨h, -⟩ | ⟨h, -⟩ <;> rw [h] <;> decide
    rw [hdu]
    exact rootClass_lost h
  refine ⟨fun href hpulse hno => ?_, fun h hpulse => ?_, fun b lostClass own h hpulse hbest hclass hownEq => ⟨fun hless => ?_, fun hmore => ?_⟩,
    fun href hpulse => ?_, fun id href hpulse => ?_, fun cur hcur b href hpulse hcand hbest => ⟨fun hless => ?_, fun hmore => ?_⟩,
    fun href hst hpulse => ?_, fun b href hst hpulse hbest own hownEq => ⟨fun hless => ?_, fun hmore => ?_⟩,
    fun href hst hpulse hno => ?_⟩
  · have hl : lost := by
      cases hr : s.du.reference with
      | none => exact absurd hr href
      | some r =>
        cases r with
        | pulse => exact hlost.mpr (.inl ⟨hr, hpulse⟩)
        | peer id => exact hlost.mpr (.inr ⟨id, hr, fun e he _ => hno e he⟩)
    refine hlosing (hgone hl) ?_
    rw [markChoice_loseReference]
    exact rootChoice_none (hpulseOf.trans hpulse) (hbestOf ((bestPeer_none_iff _ _).mpr hno))
  · exact (hselected .pulse ((hlostChoice h).trans (rootChoice_pulse (hpulseOf.trans hpulse)))).1
  · have hkey := hlostClass hclass
    rw [← hkey, ← hown own hownEq] at hless
    have hchoice := rootChoice_peer (s := loseReference (agedNode m)) (hpulseOf.trans hpulse) (hbestOf hbest) hless
    obtain ⟨hc, hpeer⟩ := hselected _ ((hlostChoice h).trans hchoice)
    exact ⟨hc, hpeer b (bestPeer_some hbest).1 rfl⟩
  · have hkey := hlostClass hclass
    rw [← hkey, ← hown own hownEq] at hmore
    refine hlosing (hgone h) ?_
    rw [markChoice_loseReference]
    exact rootChoice_stays (hpulseOf.trans hpulse) (hbestOf hbest) hmore
  · have href' := hagedRef.trans href
    refine hstanding ((referenceStands_pulse href').trans (hpulseOf.trans hpulse)) ?_
    rw [markChoice_follows href', betterReference_pulse href']
  · have href' := hagedRef.trans href
    refine (hselected .pulse ?_).1
    cases hst : referenceStands (agedNode m) with
    | true => rw [keptOrLost_stands hst, markChoice_follows href', betterReference_toPulse href' (hpulseOf.trans hpulse)]
    | false =>
      rw [keptOrLost_lost hst, markChoice_loseReference]
      exact rootChoice_pulse (hpulseOf.trans hpulse)
  · have href' := hagedRef.trans href
    have hfind := hfindOf cur hcur
    have hst := (referenceStands_peer href' hfind).trans (hcandOf cur hcand)
    have hchoice := betterReference_toPeer href' (hpulseOf.trans hpulse) hfind (hbestOf hbest) hless
    obtain ⟨hc, hpeer⟩ := hselected (.peer b.id) (by rw [keptOrLost_stands hst, markChoice_follows href', hchoice])
    exact ⟨hc, hpeer b (bestPeer_some hbest).1 rfl⟩
  · have href' := hagedRef.trans href
    have hfind := hfindOf cur hcur
    have hst := (referenceStands_peer href' hfind).trans (hcandOf cur hcand)
    refine hstanding hst ?_
    rw [markChoice_follows href']
    exact betterReference_stays href' (hpulseOf.trans hpulse) hfind (hbestOf hbest) hmore
  · exact (hselected .pulse ((hrootChoice href).trans (rootChoice_pulse (hpulseOf.trans hpulse)))).1
  · rw [← hagedClass hst, ← hown own hownEq] at hless
    have hchoice := rootChoice_peer (s := agedNode m) (hpulseOf.trans hpulse) (hbestOf hbest) hless
    obtain ⟨hc, hpeer⟩ := hselected _ ((hrootChoice href).trans hchoice)
    exact ⟨hc, hpeer b (bestPeer_some hbest).1 rfl⟩
  · rw [← hagedClass hst, ← hown own hownEq] at hmore
    refine hstanding (referenceStands_none (hagedRef.trans href)) ?_
    rw [markChoice_root (hagedRef.trans href)]
    exact rootChoice_stays (hpulseOf.trans hpulse) (hbestOf hbest) hmore
  · refine hstanding (referenceStands_none (hagedRef.trans href)) ?_
    rw [markChoice_root (hagedRef.trans href)]
    exact rootChoice_none (hpulseOf.trans hpulse) (hbestOf ((bestPeer_none_iff _ _).mpr hno))

end Sys2Proof.Machine
end

section
/-! PROOF. The vector front end (O33 to O37). -/

namespace Sys2Proof.Machine

/-! ## Start, faults and holdoff (O33) -/

theorem markVfe_counts {s : State} (h : s.vfe.state = .faulted) (hfew : s.vfe.holdoff < 9) :
    markVfe s = { s with vfe := { s.vfe with holdoff := s.vfe.holdoff + 1 } } :=
  (if_pos h).trans (if_neg (by omega))

theorem markVfe_starts {s : State} (h : s.vfe.state = .faulted) (hten : 9 ≤ s.vfe.holdoff) :
    markVfe s = enterDriveStart { s with vfe := { s.vfe with holdoff := 10 } } :=
  (if_pos h).trans (if_pos (by omega))

theorem markVfe_still {s : State} (h : s.vfe.state ≠ .faulted) : markVfe s = s :=
  if_neg h

theorem holdoffNext_of {v : VFE} (h : v.state = .faulted) (hten : 9 ≤ v.holdoff) : holdoffNext v = true := by
  unfold holdoffNext
  rw [h, Bool.and_eq_true]
  exact ⟨rfl, decide_eq_true (by omega)⟩

theorem enterDriveStart_waits {s : State} (h : s.pins.driveGood = false) : enterDriveStart s = { s with
    pins := { s.pins with loopGood := false }
    vfe := { s.vfe with
      state := .driveStart
      settings := ⟨⟨0, 0⟩, ⟨0, 0⟩, ⟨0, 0⟩⟩
      excitation := true
      loop := false
      timer := some 5000000 } } :=
  if_neg (by
    rw [Bool.not_eq_true]
    exact h)

theorem enterDriveStart_goesOn {s : State} (h : s.pins.driveGood = true) : enterDriveStart s = { s with
    pins := { s.pins with loopGood := false }
    vfe := { s.vfe with
      state := .loopStart
      settings := ⟨⟨0, 0⟩, ⟨0, 0⟩, ⟨0, 0⟩⟩
      excitation := true
      loop := true
      timer := some 20000000 } } :=
  if_pos h

theorem driveLoses_faults {s : State} (h : s.vfe.state = .loopStart ∨ s.vfe.state = .running ∨ s.vfe.state = .retuning) :
    driveLoses s = enterFaulted .driveLost s := by
  unfold driveLoses
  rcases h with h | h | h <;> rw [h]

theorem loopLoses_faults {s : State} (h : s.vfe.state = .running ∨ s.vfe.state = .retuning) :
    loopLoses s = enterFaulted .loopLost s := by
  unfold loopLoses
  rcases h with h | h <;> rw [h]

/-- Settles O33: the VFE's commands are the entries to its states, and the holdoff its part of a mark. -/
theorem frontEndMoves : Obligations.FrontEndMoves := by
  unfold Obligations.FrontEndMoves
  intro s hon
  refine ⟨fun hst => next_on (s := setDriveGood true s) hon ?_, fun hst hloop => next_on hon ?_, fun hst hten hdrive => ?_,
    fun hst hten hdrive => ?_, fun hmark => ⟨tbMark s, next_on hon (marksSecond_nil hmark), fun hst hfew => next_on hon ?_,
      fun hst hten => ?_, fun hst => next_on hon ?_⟩, _, fun _ _ => rfl, fun hst => next_on hon ?_, fun hst => next_on hon ?_,
    fun hst => next_on (s := setDriveGood false s) hon ?_, fun hst => ⟨?_, ?_⟩⟩
  · unfold driveAppears
    rw [show (setDriveGood true s).vfe.state = .driveStart from hst]
    rfl
  · unfold loopAppears
    rw [if_pos hloop]
    dsimp only
    rw [show (s.setPins { s.pins with loopGood := true }).vfe.state = .loopStart from hst]
    rfl
  · refine (ownMark_runs .vfe (due := fun s => holdoffNext s.vfe) hon (holdoffNext_of hst hten)).trans (congrArg _ ?_)
    rw [takeOwnMark_eq]
    exact (markVfe_starts (s := { s with notices := dropNotice .vfe s.notices }) hst hten).trans (enterDriveStart_waits hdrive)
  · refine (ownMark_runs .vfe (due := fun s => holdoffNext s.vfe) hon (holdoffNext_of hst hten)).trans (congrArg _ ?_)
    rw [takeOwnMark_eq]
    exact (markVfe_starts (s := { s with notices := dropNotice .vfe s.notices }) hst hten).trans (enterDriveStart_goesOn hdrive)
  · rw [marksSecond_own .vfe hmark, takeOwnMark_eq]
    exact markVfe_counts (s := { tbMark s with notices := dropNotice .vfe (tbMark s).notices }) hst hfew
  · exact (next_on hon (marksSecond_own .vfe hmark)).trans
      (ownMark_runs .vfe (due := fun s => holdoffNext s.vfe) (s := tbMark s) hon (holdoffNext_of hst hten)).symm
  · rw [marksSecond_own .vfe hmark, takeOwnMark_eq]
    exact markVfe_still hst
  · unfold driveTimesOut
    rw [hst]
    rfl
  · unfold loopTimesOut
    rw [hst]
    rfl
  · exact driveLoses_faults (s := setDriveGood false s) hst
  · exact next_on (s := s.setPins { s.pins with loopGood := false }) hon (loopLoses_faults hst)
  · exact next_on (s := setDriveGood false (s.setPins { s.pins with loopGood := false })) hon
      (driveLoses_faults (s := setDriveGood false (s.setPins { s.pins with loopGood := false })) (.inr hst))

/-! ## The retune computation (O36) -/

theorem roundDiv_near (a : Int) {d : Int} (hd : 0 < d) : 2 * (roundDiv a d.natAbs * d - a).natAbs ≤ d.natAbs := by
  have h := (roundDivIsNearest a d.natAbs (Int.natAbs_pos.mpr (ne_of_gt hd))).1
  rwa [Int.natAbs_of_nonneg (le_of_lt hd)] at h

/-- A fine setting rounded from what a coarse setting leaves brings the compensation within half a fine step of the target. -/
theorem compOf_near (im : Image) (a : Axis) (target coarse : Int) (hfine : 0 < axisGet im.fineStep a) :
    2 * (compOf im a ⟨coarse, roundDiv (target - coarse * axisGet im.coarseStep a) (axisGet im.fineStep a).natAbs⟩ - target).natAbs
      ≤ (axisGet im.fineStep a).natAbs := by
  have h := roundDiv_near (target - coarse * axisGet im.coarseStep a) hfine
  have heq : compOf im a ⟨coarse, roundDiv (target - coarse * axisGet im.coarseStep a) (axisGet im.fineStep a).natAbs⟩ - target
      = roundDiv (target - coarse * axisGet im.coarseStep a) (axisGet im.fineStep a).natAbs * axisGet im.fineStep a
        - (target - coarse * axisGet im.coarseStep a) := by
    unfold compOf
    dsimp only
    ring
  rw [heq]
  exact h

/-- Settles O36. -/
theorem retuneReachesTarget : Obligations.RetuneReachesTarget := by
  unfold Obligations.RetuneReachesTarget
  rintro im a st new rho target fine coarse other hcoarse hfine hlo hhi htarget hf hc ho rfl
  have hnat : ∀ {d : Int}, 0 < d → d.toNat = d.natAbs := fun h => by omega
  rw [hnat hfine] at hf ho
  rw [hnat hcoarse] at hc
  have hcomp : compOf im a st + rho = target := htarget.symm
  refine ⟨retunedSettings_fit im a rho hlo hhi, fun hmin hmax => ?_, fun hout => ?_⟩
  · have hnew : retunedSettings im a st rho = ⟨st.coarse, fine⟩ := by
      unfold retunedSettings roundDivInt
      dsimp only
      rw [hcomp, ← hf]
      exact if_pos ⟨hmin, hmax⟩
    rw [hnew, hf]
    exact ⟨rfl, compOf_near im a target st.coarse hfine⟩
  · have hnew : retunedSettings im a st rho = ⟨coarse, max (-128) (min 127 other)⟩ := by
      unfold retunedSettings roundDivInt
      dsimp only
      rw [hcomp, ← hf, if_neg (by omega), clampInt_eq_max_min (by decide), clampInt_eq_max_min (by decide), ← hc, ← ho]
    rw [hnew]
    refine ⟨rfl, fun hmin hmax => ?_⟩
    rw [show max (-128) (min 127 other) = other by omega, ho]
    exact compOf_near im a target coarse hfine

/-! ## A residual report (O37) -/

theorem meanResidual_none {im : Image} {v : VFE} {r : ResidualReport} {a : Axis} (h : r.retuned = true ∨ axisGet r.means a = none) :
    meanResidual im v r a = none := by
  unfold meanResidual
  rcases h with h | h
  · exact if_pos h
  · rw [h]
    exact ite_self none

theorem meanResidual_some {im : Image} {v : VFE} {r : ResidualReport} {a : Axis} {m : Int} (hr : r.retuned = false)
    (hm : axisGet r.means a = some m) : meanResidual im v r a = some (m - compOf im a (axisGet v.settings a)) := by
  unfold meanResidual
  rw [hr, hm]
  rfl

theorem retuneResidual_mean {im : Image} {v : VFE} {r : ResidualReport} {a : Axis} {m : Int} (h : meanResidual im v r a = some m) :
    retuneResidual im v r a = some m := by
  unfold retuneResidual
  rw [h]

theorem retuneResidual_clip {im : Image} {v : VFE} {r : ResidualReport} {a : Axis} {sign : Sign} (h : meanResidual im v r a = none)
    (hn : axisGet r.n a = 0) (hclip : 1 ≤ axisGet r.clipped a) (hsign : axisGet v.lastClip a = some sign) :
    retuneResidual im v r a = some (if sign = .negative then -(roundDiv (8000000 * axisGet im.gain a) 65536)
      else roundDiv (8000000 * axisGet im.gain a) 65536) := by
  unfold retuneResidual clipEstimate
  rw [h, if_pos ⟨hn, hclip⟩, hsign]
  cases sign <;> rfl

theorem retuneResidual_none {im : Image} {v : VFE} {r : ResidualReport} {a : Axis} (h : meanResidual im v r a = none)
    (hno : axisGet r.n a ≠ 0 ∨ axisGet r.clipped a = 0 ∨ axisGet v.lastClip a = none) : retuneResidual im v r a = none := by
  unfold retuneResidual
  rw [h]
  dsimp only
  split
  next hclip =>
    obtain ⟨hn, hone⟩ := hclip
    unfold clipEstimate
    rcases hno with hno | hno | hno
    · exact absurd hn hno
    · omega
    · rw [hno]
  · rfl

theorem satInc_eq_min (limit c : Nat) : satInc limit c = min limit (c + 1) := by
  unfold satInc
  split <;> omega

theorem nextBandRun_over {im : Image} {v : VFE} {r : ResidualReport} {a : Axis} {m : Int} (h : meanResidual im v r a = some m)
    (hband : im.retuneBand < (m.natAbs : Int)) : nextBandRun im v r a = min 3 (axisGet v.bandRun a + 1) := by
  unfold nextBandRun
  rw [h]
  exact (if_pos hband).trans (satInc_eq_min _ _)

theorem nextBandRun_within {im : Image} {v : VFE} {r : ResidualReport} {a : Axis}
    (h : ∀ m, meanResidual im v r a = some m → (m.natAbs : Int) ≤ im.retuneBand) : nextBandRun im v r a = 0 := by
  unfold nextBandRun
  split
  next m hm => exact if_neg (by have := h m hm; omega)
  · rfl

theorem nextClipRun_clipped {v : VFE} {r : ResidualReport} {a : Axis} (h : 1 ≤ axisGet r.clipped a) :
    nextClipRun v r a = min 2 (axisGet v.clipRun a + 1) :=
  (if_pos h).trans (satInc_eq_min _ _)

theorem nextClipRun_none {v : VFE} {r : ResidualReport} {a : Axis} (h : axisGet r.clipped a = 0) : nextClipRun v r a = 0 :=
  if_neg (by omega)

/-- The band runs after a report (R86). -/
def bandRuns (r : ResidualReport) (s : State) : Axes Nat :=
  axesOf (nextBandRun s.sul.image s.vfe r)

/-- The clip runs after a report (R87). -/
def clipRuns (r : ResidualReport) (s : State) : Axes Nat :=
  axesOf (nextClipRun s.vfe r)

/-- A band run of 3 while BW is disturbed (R86). -/
def bandInhibited (r : ResidualReport) (s : State) : Bool :=
  anyAxis (fun a => axisGet (bandRuns r s) a == 3) && disturbedFlag s.bw.state

/-- What brings a retune (R88). -/
def retuneTrigger (r : ResidualReport) (s : State) : Bool :=
  (anyAxis (fun a => axisGet (bandRuns r s) a == 3) && !bandInhibited r s)
    || anyAxis (fun a => axisGet (clipRuns r s) a == 2) || (s.vfe.request && allMeans s.sul.image s.vfe r)

/-- The VFE with its runs moved by a report and the band-inhibit counter counted (R86, R87). -/
def judgedVfe (r : ResidualReport) (s : State) : VFE :=
  { s.vfe with
    bandRun := bandRuns r s
    clipRun := clipRuns r s
    bandInhibit := if bandInhibited r s then bump s.vfe.bandInhibit else s.vfe.bandInhibit }

theorem evaluateReport_ignored {r : ResidualReport} {s : State} (hrunning : s.vfe.state ≠ .running) (hretuning : s.vfe.state ≠ .retuning) :
    evaluateReport r s = s := by
  unfold evaluateReport
  split
  next h => exact absurd h hretuning
  next h => exact absurd h hrunning
  · rfl

theorem evaluateReport_retuning {r : ResidualReport} {s : State} (h : s.vfe.state = .retuning) :
    evaluateReport r s = { s with vfe := { s.vfe with bandRun := bandRuns r s, clipRun := clipRuns r s } } := by
  unfold evaluateReport
  rw [h]
  rfl

theorem evaluateReport_running {r : ResidualReport} {s : State} (h : s.vfe.state = .running) : evaluateReport r s =
    if retuneTrigger r s && anyAxis (fun a => (retuneResidual s.sul.image s.vfe r a).isSome) then
      performRetune s.sul.image (judgedVfe r s) r s
    else s.setVfe (judgedVfe r s) := by
  unfold evaluateReport
  rw [h]
  rfl

theorem settingsNotice_eq (st : Axes Settings) (re : RE) : settingsNotice st re = { re with
    latest := some st
    attached := if re.isOpen then some st else re.attached
    sticky := { re.sticky with retuned := re.sticky.retuned || re.isOpen } } := by
  unfold settingsNotice
  split
  next h => simp [h]
  next h => simp [h]

theorem performRetune_eq (r : ResidualReport) (s : State) : performRetune s.sul.image (judgedVfe r s) r s = { s with
    vfe := { s.vfe with
      settings := axesOf (settingsAfter s.sul.image s.vfe r)
      state := .retuning
      blank := 0
      bandRun := ⟨0, 0, 0⟩
      clipRun := clipRuns r s
      request := s.vfe.request && !allMeans s.sul.image s.vfe r
      bandInhibit := if bandInhibited r s then bump s.vfe.bandInhibit else s.vfe.bandInhibit }
    re := { s.re with
      latest := some (axesOf (settingsAfter s.sul.image s.vfe r))
      attached := if s.re.isOpen then some (axesOf (settingsAfter s.sul.image s.vfe r)) else s.re.attached
      sticky := { s.re.sticky with retuned := s.re.sticky.retuned || s.re.isOpen } } } := by
  unfold performRetune
  dsimp only
  rw [settingsNotice_eq]
  rfl

theorem allMeans_iff {im : Image} {v : VFE} {r : ResidualReport} : allMeans im v r = true ↔ ∀ a, meanResidual im v r a ≠ none := by
  unfold allMeans
  rw [allAxes_iff]
  exact forall_congr' fun a => Option.isSome_iff_ne_none

theorem anyRun_iff (runs : Axes Nat) (k : Nat) : anyAxis (fun a => axisGet runs a == k) = true ↔ ∃ a, axisGet runs a = k := by
  rw [anyAxis_iff]
  exact exists_congr fun a => beq_iff_eq

theorem bandInhibited_iff {r : ResidualReport} {s : State} : bandInhibited r s = true
    ↔ (∃ a, axisGet (bandRuns r s) a = 3) ∧ (s.bw.state = .disturbed ∨ s.bw.state = .easing) := by
  unfold bandInhibited
  rw [Bool.and_eq_true, anyRun_iff, disturbedFlag_iff]

theorem retuneTrigger_iff {r : ResidualReport} {s : State} : retuneTrigger r s = true
    ↔ ((∃ a, axisGet (bandRuns r s) a = 3) ∧ ¬ (s.bw.state = .disturbed ∨ s.bw.state = .easing))
      ∨ (∃ a, axisGet (clipRuns r s) a = 2)
      ∨ (s.vfe.request = true ∧ ∀ a, meanResidual s.sul.image s.vfe r a ≠ none) := by
  unfold retuneTrigger
  rw [Bool.or_eq_true, Bool.or_eq_true, Bool.and_eq_true, Bool.and_eq_true, anyRun_iff, anyRun_iff, allMeans_iff, Bool.not_eq_true',
    Bool.eq_false_iff, ne_eq, bandInhibited_iff, or_assoc]
  refine or_congr_left ⟨fun h => ⟨h.1, fun hd => h.2 ⟨h.1, hd⟩⟩, fun h => ⟨h.1, fun hd => h.2 hd.2⟩⟩

/-- Settles O37. -/
theorem reportRetunes : Obligations.ReportRetunes := by
  unfold Obligations.ReportRetunes
  intro r s
  refine ⟨evaluateReport_ignored, meanResidual s.sul.image s.vfe r, retuneResidual s.sul.image s.vfe r, bandRuns r s, clipRuns r s,
    fun a => meanResidual_none, fun a m => meanResidual_some, fun a m => retuneResidual_mean, fun a sign => retuneResidual_clip,
    fun a => retuneResidual_none, fun a ⟨m, hm, hband⟩ => (axisGet_axesOf _ a).trans (nextBandRun_over hm hband),
    fun a h => (axisGet_axesOf _ a).trans (nextBandRun_within h), fun a h => (axisGet_axesOf _ a).trans (nextClipRun_clipped h),
    fun a h => (axisGet_axesOf _ a).trans (nextClipRun_none h), evaluateReport_retuning, fun hst => ?_⟩
  intro disturbed trigger inhibit hdisturbed htrigger hcounts hstands
  obtain rfl := propext hdisturbed
  obtain rfl := propext (htrigger.trans retuneTrigger_iff.symm)
  have hinhibit : (if bandInhibited r s then bump s.vfe.bandInhibit else s.vfe.bandInhibit) = inhibit := by
    split
    next h => exact (hcounts (bandInhibited_iff.mp h).1 (bandInhibited_iff.mp h).2).symm
    next h =>
      refine (hstands ?_).symm
      rw [bandInhibited_iff] at h
      by_cases hband : ∃ a, axisGet (bandRuns r s) a = 3
      · exact .inr fun hd => h ⟨hband, hd⟩
      · exact .inl fun a ha => hband ⟨a, ha⟩
  rw [evaluateReport_running hst, performRetune_eq]
  unfold judgedVfe
  rw [hinhibit]
  refine ⟨fun hno => if_neg ?_, fun htrig hres => ⟨_, fun a rho hrho => ?_, fun a hnone => ?_, _, ?_, if_pos ?_⟩⟩
  · rw [Bool.and_eq_true, anyAxis_iff]
    rintro ⟨htrig, a, ha⟩
    rcases hno with hno | hno
    · exact hno htrig
    · rw [hno a] at ha
      cases ha
  · rw [axisGet_axesOf]
    unfold settingsAfter
    rw [hrho]
  · rw [axisGet_axesOf]
    unfold settingsAfter
    rw [hnone]
  · rw [Bool.and_eq_true, Bool.not_eq_true', Bool.eq_false_iff, ne_eq, allMeans_iff, not_forall]
    exact and_congr_right' (exists_congr fun a => not_not)
  · rw [Bool.and_eq_true, anyAxis_iff]
    obtain ⟨a, ha⟩ := hres
    exact ⟨htrig, a, Option.isSome_iff_ne_none.mpr ha⟩

end Sys2Proof.Machine
end

section
/-! PROOF. What a change of second does (R128, R132 to R136, R178): the record that joins the ring, and RE's next second. -/

namespace Sys2Proof.Machine

/-! ## What the ring keeps of a record while its chains and its ΔF end -/

/-- A record without what its finalization and its own F write into it. -/
def settledPart (r : SecondRecord) : SecondRecord :=
  { r with final := false, magnitude := none, f := none, deltaF := none, reason := none, ownF := none }

/-- The ring without what finalizations and own Fs write into it. -/
def settledRecords (rs : RS) : List SecondRecord :=
  rs.seconds.map settledPart

theorem settledRecords_map {f : SecondRecord → SecondRecord} (hf : ∀ r, settledPart (f r) = settledPart r) (rs : RS) :
    settledRecords { rs with seconds := rs.seconds.map f } = settledRecords rs := by
  unfold settledRecords
  rw [List.map_map]
  exact List.map_congr_left fun r _ => hf r

@[simp] theorem raiseEvent_settled (k : EventKind) (q : Second) (s : State) :
    settledRecords (raiseEvent k q s).rs = settledRecords s.rs := by
  unfold raiseEvent raiseRs
  split
  · rw [State.setRs_rs]
    split <;> rfl
  · rfl

@[simp] theorem raiseOpt_settled (k : Option EventKind) (q : Second) (s : State) :
    settledRecords (raiseOpt k q s).rs = settledRecords s.rs := by
  cases k with
  | none => rfl
  | some k => exact raiseEvent_settled k q s

@[simp] theorem testHeads_settled (k : Nat) (s : State) : settledRecords (testHeads k s).rs = settledRecords s.rs := by
  induction k generalizing s with
  | zero => rfl
  | succ k ih =>
    unfold testHeads
    split
    · rfl
    · split
      · rfl
      · dsimp only
        split
        · split
          · exact ih _
          · rfl
        · rfl

@[simp] theorem testHead_settled (s : State) : settledRecords (testHead s).rs = settledRecords s.rs :=
  testHeads_settled _ s

@[simp] theorem watchDeltaF_settled (d : Option Int) (q : Second) (s : State) :
    settledRecords (watchDeltaF d q s).rs = settledRecords s.rs := by
  unfold watchDeltaF
  split
  · rfl
  · rw [raiseOpt_settled]
    rfl

@[simp] theorem finalize_settled (q : Sequence) (n : Second) (mag f df : Option Int) (reason : DeltaFReason) (s : State) :
    settledRecords (finalize q n mag f df reason s).rs = settledRecords s.rs := by
  simp only [finalize, testHead_settled, watchDeltaF_settled]
  exact settledRecords_map (fun r => by split <;> rfl) s.rs

@[simp] theorem finalizeAll_settled (reason : DeltaFReason) (es : List PendingEntry) (s : State) :
    settledRecords (finalizeAll reason es s).rs = settledRecords s.rs := by
  induction es generalizing s with
  | nil => rfl
  | cons e es ih => exact (ih _).trans (finalize_settled ..)

@[simp] theorem displaceOld_settled (q : Sequence) (s : State) : settledRecords (displaceOld q s).rs = settledRecords s.rs := by
  simp [displaceOld]

@[simp] theorem displaceOldest_settled (s : State) : settledRecords (displaceOldest s).rs = settledRecords s.rs := by
  unfold displaceOldest finalizeAbsent
  split
  · split <;> simp
  · rfl

@[simp] theorem matchRecord_settled (q : Sequence) (ep : Epoch) (n : Second) (v : Axes (Option Int)) (s : State) :
    settledRecords (matchRecord q ep n v s).rs = settledRecords s.rs := by
  unfold matchRecord
  split <;> simp [addEntry]

@[simp] theorem watchRecord_settled (fl : RecordFlags) (v : Axes (Option Int)) (q : Second) (s : State) :
    settledRecords (watchRecord fl v q s).rs = settledRecords s.rs := by
  unfold watchRecord
  dsimp only
  split
  · rfl
  · split
    · rw [raiseOpt_settled]
      rfl
    · rfl

@[simp] theorem chainsEndedNotice_settled (c : ChainRecord) (s : State) :
    settledRecords (chainsEndedNotice c s).rs = settledRecords s.rs := by
  simp [chainsEndedNotice]

@[simp] theorem startAxis_settled (a : Axis) (s : State) : settledRecords (startAxis a s).rs = settledRecords s.rs := by
  simp

theorem settled_foldl {α : Type} {f : State → α → State} (h : ∀ s a, settledRecords (f s a).rs = settledRecords s.rs) (l : List α)
    (s : State) : settledRecords (l.foldl f s).rs = settledRecords s.rs := by
  induction l generalizing s with
  | nil => rfl
  | cons a l ih => exact (ih _).trans (h s a)

@[simp] theorem settleChains_settled (s : State) : settledRecords (settleChains s).rs = settledRecords s.rs := by
  simp [settleChains, endChains, settled_foldl (fun s c => chainsEndedNotice_settled c s)]

@[simp] theorem refusedNotice_settled (c : Option ChainRecord) (s : State) :
    settledRecords (refusedNotice c s).rs = settledRecords s.rs := by
  cases c <;> simp [refusedNotice]

@[simp] theorem applyPendingF_settled (ep : Epoch) (q : Second) (rs : RS) : settledRecords (applyPendingF ep q rs) = settledRecords rs := by
  unfold applyPendingF
  split
  · rfl
  · split
    · exact settledRecords_map (f := fun r => if r.epoch = _ ∧ r.second = _ then { r with ownF := some _ } else r)
        (fun r => by split <;> rfl) rs
    · split <;> rfl

@[simp] theorem takeMinuteKey_settled (k : Minute) (s : State) : settledRecords (takeMinuteKey k s).rs = settledRecords s.rs := by
  unfold takeMinuteKey startMinuteRs
  split
  · rfl
  · split
    · rfl
    · rw [testHead_settled]
      split <;> rfl

theorem enterRecord_settled (r : SecondRecord) (s : State) :
    settledRecords (enterRecord r s).rs = (pushRecord r s.rs.seconds).map settledPart := by
  simp only [enterRecord, takeMinuteKey_settled, State.setRs_rs, applyPendingF_settled, displaceOld_settled]
  rfl

/-! ## What RE keeps of its second while reports are judged and chains end -/

/-- RE without its chain list, its summary and what a settings notice writes into it. -/
def secondPart (re : RE) : RE :=
  { re with latest := none, attached := none, sticky := { re.sticky with retuned := false }, chain := [], summary := none }

theorem secondPart_fields {a b : RE} (h : secondPart a = secondPart b) : a.isOpen = b.isOpen ∧ a.second = b.second
    ∧ a.epoch = b.epoch ∧ a.taken = b.taken ∧ a.sums = b.sums ∧ a.n = b.n ∧ a.clipped = b.clipped ∧ a.blanked = b.blanked
    ∧ a.sticky = { b.sticky with retuned := a.sticky.retuned } := by
  have hsticky := congrArg (fun r : RE => { r.sticky with retuned := a.sticky.retuned }) h
  rw [secondPart, secondPart, RE.mk.injEq] at h
  obtain ⟨hopen, hsecond, hepoch, htaken, hsums, hn, hclipped, hblanked, -⟩ := h
  exact ⟨hopen, hsecond, hepoch, htaken, hsums, hn, hclipped, hblanked, hsticky⟩

@[simp] theorem evaluateReport_second (r : ResidualReport) (s : State) : secondPart (evaluateReport r s).re = secondPart s.re := by
  by_cases hretuning : s.vfe.state = .retuning
  · rw [evaluateReport_retuning hretuning]
  · by_cases hrunning : s.vfe.state = .running
    · rw [evaluateReport_running hrunning, performRetune_eq]
      split <;> rfl
    · rw [evaluateReport_ignored hrunning hretuning]

@[simp] theorem chainsEndedNotice_second (c : ChainRecord) (s : State) :
    secondPart (chainsEndedNotice c s).re = secondPart s.re := by
  simp [chainsEndedNotice, secondPart]

theorem second_foldl {α : Type} {f : State → α → State} (h : ∀ s a, secondPart (f s a).re = secondPart s.re) (l : List α) (s : State) :
    secondPart (l.foldl f s).re = secondPart s.re := by
  induction l generalizing s with
  | nil => rfl
  | cons a l ih => exact (ih _).trans (h s a)

@[simp] theorem giveReports_second (s : State) : secondPart (giveReports s).re = secondPart s.re :=
  second_foldl (fun s c => evaluateReport_second (reportOf c) s) _ _

@[simp] theorem endChains_second (s : State) : secondPart (endChains s).re = secondPart s.re :=
  second_foldl (fun s c => chainsEndedNotice_second c s) _ _

@[simp] theorem settleChains_second (s : State) : secondPart (settleChains s).re = secondPart s.re := by
  simp [settleChains]

@[simp] theorem refusedNotice_second (c : Option ChainRecord) (s : State) : secondPart (refusedNotice c s).re = secondPart s.re := by
  cases c <;> simp [refusedNotice]

@[simp] theorem startAxis_second (a : Axis) (s : State) : secondPart (startAxis a s).re = secondPart s.re := by
  unfold startAxis
  dsimp only
  split <;> simp [secondPart]

/-! ## The change of second -/

/-- The record an OPEN second leaves: ARITH sets where it is refused a chain (R133). -/
def leftRecord (s : State) : SecondRecord :=
  { closedRecord (chooseTemp s) s with
    flags := { (closedRecord (chooseTemp s) s).flags with arith := decide (12 ≤ s.re.chain.length) } }

theorem closeSecond_enters (s : State) : ∃ chain overflow, (closeSecond s).1 = enterRecord (leftRecord s) (s.setRe { s.re with
    held := heldAfter (chooseTemp s) s.re.held
    chain := chain
    chainOverflow := overflow }) := by
  unfold closeSecond leftRecord
  dsimp only
  split
  next hfull =>
    rw [decide_eq_true hfull]
    exact ⟨_, _, rfl⟩
  next hroom =>
    rw [decide_eq_false hroom]
    exact ⟨_, _, rfl⟩

/-- The held correction temperature after a second is left (R137). -/
def heldOnLeaving (s : State) : Option HeldTemp :=
  if s.re.isOpen then heldAfter (chooseTemp s) s.re.held else s.re.held

theorem leaveSecond_held (s : State) : (leaveSecond s).1.re.held = heldOnLeaving s := by
  unfold leaveSecond heldOnLeaving
  split
  · obtain ⟨chain, overflow, h⟩ := closeSecond_enters s
    rw [h]
    simp
  · rfl

/-- The ring after a second is left, but for what finalizations and own Fs write. -/
def recordsOnLeaving (s : State) : List SecondRecord :=
  (if s.re.isOpen then pushRecord (leftRecord s) s.rs.seconds else s.rs.seconds).map settledPart

theorem leaveSecond_records (s : State) : settledRecords (leaveSecond s).1.rs = recordsOnLeaving s := by
  unfold leaveSecond recordsOnLeaving
  split
  · obtain ⟨chain, overflow, h⟩ := closeSecond_enters s
    rw [h, enterRecord_settled]
    rfl
  · rfl

theorem changeSecond_records (q : Second) (ep : Epoch) (fl : StickyFlags) (s : State) :
    settledRecords (changeSecond q ep fl s).rs = recordsOnLeaving s := by
  rw [← leaveSecond_records]
  simp only [changeSecond, settleChains_settled, settled_foldl (fun s a => startAxis_settled a s), refusedNotice_settled]
  rfl

theorem changeSecond_second (q : Second) (ep : Epoch) (fl : StickyFlags) (s : State) :
    secondPart (changeSecond q ep fl s).re = secondPart (openSecond q ep fl (leaveSecond s).1).re := by
  simp only [changeSecond, settleChains_second, second_foldl (fun s a => startAxis_second a s), refusedNotice_second]

theorem changeSecond_held (q : Second) (ep : Epoch) (fl : StickyFlags) (s : State) :
    (changeSecond q ep fl s).re.held = heldOnLeaving s :=
  (congrArg RE.held (changeSecond_second q ep fl s)).trans (leaveSecond_held s)

theorem ringHolds_settled {rs rs' : RS} (h : settledRecords rs = settledRecords rs') (ep : Epoch) (q : Second) :
    ringHolds ep q rs = ringHolds ep q rs' := by
  have hpart : ∀ rs : RS, ringHolds ep q rs = (settledRecords rs).any (fun r => r.epoch == ep && r.second == q) := by
    intro rs
    unfold settledRecords
    rw [List.any_map]
    rfl
  rw [hpart, hpart, h]

/-- The second that opens has nothing taken, and is PASSED where the ring holds its record (R128). -/
theorem changeSecond_opens {q : Second} {ep : Epoch} {fl : StickyFlags} {s t : State} (ht : changeSecond q ep fl s = t) :
    t.re.second = q ∧ t.re.epoch = ep ∧ t.re.taken = [] ∧ t.re.sums = ⟨Sum48.zero, Sum48.zero, Sum48.zero⟩
      ∧ t.re.n = ⟨0, 0, 0⟩ ∧ t.re.clipped = ⟨0, 0, 0⟩ ∧ t.re.blanked = ⟨0, 0, 0⟩
      ∧ t.re.sticky = { fl with retuned := t.re.sticky.retuned }
      ∧ (t.re.isOpen = true ↔ ∀ x ∈ t.rs.seconds, ¬ (x.epoch = ep ∧ x.second = q)) := by
  subst ht
  have h := changeSecond_second q ep fl s
  have hring : ringHolds ep q (leaveSecond s).1.rs = ringHolds ep q (changeSecond q ep fl s).rs :=
    ringHolds_settled ((leaveSecond_records s).trans (changeSecond_records q ep fl s).symm) ep q
  obtain ⟨hopen, hsecond, hepoch, htaken, hsums, hn, hclipped, hblanked, hsticky⟩ := secondPart_fields h
  refine ⟨hsecond, hepoch, htaken, hsums, hn, hclipped, hblanked, hsticky, ?_⟩
  have hvalue : (changeSecond q ep fl s).re.isOpen = !ringHolds ep q (changeSecond q ep fl s).rs := by
    rw [← hring]
    exact hopen
  rw [hvalue, Bool.not_eq_true', ringHolds, List.any_eq_false]
  refine forall_congr' fun x => imp_congr_right fun _ => ?_
  simp

/-- The keys of the records after a change of second, by any projection that finalizations and own Fs leave. -/
theorem changeSecond_map {α : Type} {f : SecondRecord → α} (hf : ∀ r, f (settledPart r) = f r) (q : Second) (ep : Epoch)
    (fl : StickyFlags) (s : State) : (changeSecond q ep fl s).rs.seconds.map f
      = (if s.re.isOpen then pushRecord (leftRecord s) s.rs.seconds else s.rs.seconds).map f := by
  have hmap : ∀ xs : List SecondRecord, xs.map f = (xs.map settledPart).map f := by
    intro xs
    rw [List.map_map]
    exact List.map_congr_left fun r _ => (hf r).symm
  exact (hmap _).trans ((congrArg (List.map f) (changeSecond_records q ep fl s)).trans (hmap _).symm)

theorem changeSecond_map_open {α : Type} {f : SecondRecord → α} (hf : ∀ r, f (settledPart r) = f r) (q : Second) (ep : Epoch)
    (fl : StickyFlags) {s : State} (h : s.re.isOpen = true) : (changeSecond q ep fl s).rs.seconds.map f
      = (s.rs.seconds.drop (if 1024 ≤ s.rs.seconds.length then 1 else 0)).map f ++ [f (leftRecord s)] := by
  rw [changeSecond_map hf, if_pos h]
  unfold pushRecord
  split <;> simp

theorem changeSecond_map_passed {α : Type} {f : SecondRecord → α} (hf : ∀ r, f (settledPart r) = f r) (q : Second) (ep : Epoch)
    (fl : StickyFlags) {s : State} (h : s.re.isOpen = false) :
    (changeSecond q ep fl s).rs.seconds.map f = s.rs.seconds.map f := by
  rw [changeSecond_map hf, h]
  rfl

/-- The newest record after an OPEN second is left is its record. -/
theorem changeSecond_newest (q : Second) (ep : Epoch) (fl : StickyFlags) {s : State} (h : s.re.isOpen = true) :
    ∃ x, (changeSecond q ep fl s).rs.seconds.getLast? = some x ∧ settledPart x = settledPart (leftRecord s) := by
  have hmap := changeSecond_map_open (f := settledPart) (fun _ => rfl) q ep fl h
  have hlast := congrArg List.getLast? hmap
  rw [List.getLast?_map, List.getLast?_append] at hlast
  obtain ⟨x, hx, hpart⟩ := Option.map_eq_some_iff.mp (hlast.trans rfl)
  exact ⟨x, hx, hpart⟩

end Sys2Proof.Machine
end

section
/-! PROOF. Samples and settles (O34, O35) and the close of a second at a mark (O44). -/

namespace Sys2Proof.Machine

/-! ## An instant at the VFE -/

/-- The node whose instant comes about: the residual counts on the pins, the notice or the count taken. -/
def instantNode (r : Axes (BitVec 24)) (tb : TB) (s : State) : State :=
  { s with pins := { s.pins with residual := r }, tb := tb, instants := [] }

/-- An instant whose notice waits, or whose count the present period makes (log 6). -/
def InstantDue (k : Instant) (tb : TB) (s : State) : Prop :=
  (s.instants = [⟨k, s.tb.second, s.tb.epoch⟩] ∧ tb = s.tb)
    ∨ (s.instants = [] ∧ instantPassed s.tb.tick (countTb s.tb).tick = some k ∧ tb = countTb s.tb)

theorem countTb_second (t : TB) : (countTb t).second = t.second ∧ (countTb t).epoch = t.epoch := by
  unfold countTb
  dsimp only
  repeat' split
  all_goals exact ⟨rfl, rfl⟩

theorem emitInstant_due {k : Instant} {tb : TB} {s : State} (r : Axes (BitVec 24)) (h : InstantDue k tb s) :
    emitInstant k r s = vfeInstant ⟨k, s.tb.second, s.tb.epoch⟩ r (instantNode r tb s) := by
  unfold emitInstant
  dsimp only
  rcases h with ⟨hwaits, rfl⟩ | ⟨hnone, hpassed, rfl⟩
  · rw [State.setPins_instants, hwaits, List.find?_cons_of_pos (by exact beq_self_eq_true k)]
    dsimp only
    rw [show dropInstant k [⟨k, s.tb.second, s.tb.epoch⟩] = [] from if_pos rfl]
    rfl
  · obtain ⟨hsecond, hepoch⟩ := countTb_second s.tb
    have hnode : (s.setPins { s.pins with residual := r }).setTb (countTb s.tb) = instantNode r (countTb s.tb) s :=
      congrArg (fun i => { s with pins := { s.pins with residual := r }, tb := countTb s.tb, instants := i }) hnone
    rw [State.setPins_instants, hnone, List.find?_nil]
    dsimp only
    rw [State.setPins_tb, if_pos hpassed, hsecond, hepoch, hnode]

theorem emitInstant_other {k : Instant} {r : Axes (BitVec 24)} {s : State} (hnone : s.instants = [])
    (hpassed : instantPassed s.tb.tick (countTb s.tb).tick ≠ some k) :
    emitInstant k r s = { s with pins := { s.pins with residual := r } } := by
  unfold emitInstant
  dsimp only
  rw [State.setPins_instants, hnone, List.find?_nil]
  dsimp only
  exact (if_neg hpassed).trans (congrArg (fun i => { s with pins := { s.pins with residual := r }, instants := i }) hnone)

theorem vfeInstant_none {n : InstantNotice} {r : Axes (BitVec 24)} {s : State} (hrunning : s.vfe.state ≠ .running)
    (hretuning : s.vfe.state ≠ .retuning) : vfeInstant n r s = s := by
  unfold vfeInstant
  split
  next h => exact absurd h hrunning
  next h => exact absurd h hretuning
  · rfl

/-! ## A sample at RE -/

theorem markAccumulation_same {q : Second} {ep : Epoch} {s : State} (h : s.re.epoch ≠ ep ∨ signedDiff q s.re.second ≤ 0) :
    markAccumulation q ep s = s := by
  refine if_neg ?_
  rintro ⟨hep, hlater⟩
  rcases h with h | h
  · exact h hep.symm
  · exact absurd (of_decide_eq_true hlater) (by omega)

theorem markAccumulation_later {q : Second} {ep : Epoch} {s : State} (hep : s.re.epoch = ep) (h : 0 < signedDiff q s.re.second) :
    markAccumulation q ep s = changeSecond q ep StickyFlags.clear s :=
  if_pos ⟨hep.symm, decide_eq_true h⟩

theorem takeSample_current {n : InstantNotice} {s : State} (ps : Axes Part) (hopen : s.re.isOpen = true) (hsec : s.re.second = n.second)
    (hep : s.re.epoch = n.epoch) : takeSample n ps s = s.setRe (takeParts n.k ps s.re) := by
  have hsame := markAccumulation_same (q := n.second) (ep := n.epoch) (s := s) (.inr (by rw [hsec]; simp [signedDiff]))
  unfold takeSample
  dsimp only
  rw [hsame]
  exact if_pos ⟨hep.symm, hsec.symm, hopen⟩

theorem takeSample_discarded {n : InstantNotice} {s : State} (ps : Axes Part) (h : s.re.epoch ≠ n.epoch
    ∨ signedDiff n.second s.re.second < 0 ∨ (s.re.second = n.second ∧ (s.re.isOpen = false ∨ n.k ∈ s.re.taken))) :
    takeSample n ps s = s := by
  have hsame : markAccumulation n.second n.epoch s = s := by
    refine markAccumulation_same ?_
    rcases h with h | h | ⟨hsec, -⟩
    · exact .inl h
    · exact .inr (le_of_lt h)
    · exact .inr (by rw [hsec]; simp [signedDiff])
  unfold takeSample
  dsimp only
  rw [hsame]
  split
  next hcur =>
    obtain ⟨hep, hsec, hopen⟩ := hcur
    rcases h with h | h | ⟨-, h | h⟩
    · exact absurd hep.symm h
    · rw [hsec] at h
      simp [signedDiff] at h
    · rw [h] at hopen
      cases hopen
    · rw [takeParts, if_pos (by simpa using h)]
      rfl
  · rfl

theorem takeParts_blank {k : Instant} {re : RE} (h : k ∉ re.taken) : takeParts k ⟨.blank, .blank, .blank⟩ re = { re with
    taken := re.taken ++ [k]
    blanked := ⟨re.blanked.x + 1, re.blanked.y + 1, re.blanked.z + 1⟩
    sticky := { re.sticky with blank := true, retuned := true }
    attached := re.latest } := by
  unfold takeParts
  rw [if_neg (by simpa using h)]
  rfl

/-- Settles O35. -/
theorem settleCompletes : Obligations.SettleCompletes := by
  unfold Obligations.SettleCompletes
  intro s k r tb hon hdue hst hopen hsec hep hnew
  have hblanks : emitInstant k r s = vfeInstant ⟨k, s.tb.second, s.tb.epoch⟩ r (instantNode r tb s) := emitInstant_due r hdue
  have htakes := (takeSample_current (n := ⟨k, s.tb.second, s.tb.epoch⟩) (s := instantNode r tb s) ⟨.blank, .blank, .blank⟩
    hopen hsec hep).trans (congrArg (instantNode r tb s).setRe (takeParts_blank (re := s.re) hnew))
  have hinstant : ∀ v, settleStep s.vfe = v → emitInstant k r s
      = if v.state = .running then raiseEvent .retune s.tb.second ((takeSample ⟨k, s.tb.second, s.tb.epoch⟩ ⟨.blank, .blank, .blank⟩
          (instantNode r tb s)).setVfe v)
        else (takeSample ⟨k, s.tb.second, s.tb.epoch⟩ ⟨.blank, .blank, .blank⟩ (instantNode r tb s)).setVfe v := by
    rintro v rfl
    rw [hblanks, htakes]
    unfold vfeInstant
    rw [show (instantNode r tb s).vfe.state = .retuning from hst]
    dsimp only
    rw [htakes]
    exact if_pos hst
  refine ⟨fun hfew => next_on hon ?_, fun hlast => ?_⟩
  · rw [hinstant _ (if_neg (by omega)), htakes]
    exact if_neg (by rw [hst]; decide)
  · have hsettled : emitInstant k r s = _ := hinstant _ (if_pos (by omega))
    have hnext : settleNext s.vfe = true := by
      unfold settleNext
      rw [hst, Bool.and_eq_true]
      exact ⟨rfl, decide_eq_true (by omega)⟩
    have hcomplete := next_on (f := fun s => if settleNext s.vfe then emitInstant k r s else s) hon (if_pos hnext)
    refine ⟨(next_on hon rfl).trans hcomplete.symm, hcomplete.trans (congrArg _ ?_)⟩
    rw [hsettled, htakes]
    rfl

/-! ## A sample in RUNNING (O34) -/

theorem axisSet_axisGet {α : Type} (v : Axes α) (a : Axis) : axisSet v a (axisGet v a) = v := by
  cases a <;> rfl

/-- A sample's part of an axis: a clip with its sign, or a value. -/
def samplePart (clips : Axis → Bool) (sign : Axis → Sign) (value : Axis → Int) (a : Axis) : Part :=
  if clips a then .clip (sign a) else .value (value a)

theorem takePart_sample (clips : Axis → Bool) (sign : Axis → Sign) (value : Axis → Int) (a : Axis) (re : RE) :
    takePart a (samplePart clips sign value a) re = { re with
      sums := axisSet re.sums a (if clips a then axisGet re.sums a else addToSum (axisGet re.sums a) (value a))
      n := axisSet re.n a (axisGet re.n a + (!clips a).toNat)
      clipped := axisSet re.clipped a (axisGet re.clipped a + (clips a).toNat)
      sticky := { re.sticky with clip := re.sticky.clip || clips a } } := by
  unfold samplePart
  cases clips a with
  | true => simp [takePart, axisSet_axisGet]
  | false => simp [takePart, axisSet_axisGet]

/-- The sums after a sample: an axis that clips adds nothing. -/
def sampleSums (clips : Axis → Bool) (value : Axis → Int) (sums : Axes Sum48) : Axes Sum48 :=
  axesOf (fun a => if clips a then axisGet sums a else addToSum (axisGet sums a) (value a))

theorem takeParts_sample {k : Instant} {re : RE} (clips : Axis → Bool) (sign : Axis → Sign) (value : Axis → Int) (h : k ∉ re.taken) :
    takeParts k (axesOf (samplePart clips sign value)) re = { re with
      taken := re.taken ++ [k]
      sums := sampleSums clips value re.sums
      n := axesOf (fun a => axisGet re.n a + (!clips a).toNat)
      clipped := axesOf (fun a => axisGet re.clipped a + (clips a).toNat)
      sticky := { re.sticky with
        clip := re.sticky.clip || decide ((clips .x).toNat + (clips .y).toNat + (clips .z).toNat ≠ 0) } } := by
  have hany : decide ((clips .x).toNat + (clips .y).toNat + (clips .z).toNat ≠ 0) = (clips .x || clips .y || clips .z) := by
    cases clips .x <;> cases clips .y <;> cases clips .z <;> rfl
  unfold takeParts
  rw [if_neg (by simpa using h), hany]
  dsimp only [axesOf]
  rw [takePart_sample, takePart_sample, takePart_sample, ← Bool.or_assoc, ← Bool.or_assoc]
  rfl

theorem sampleSums_value {clips : Axis → Bool} {value : Axis → Int} {sums : Axes Sum48} (hvalue : ∀ a, (value a).natAbs < 2 ^ 31)
    (hsums : ∀ a, (sumValue (axisGet sums a)).natAbs < 2 ^ 46) (a : Axis) : sumValue (axisGet (sampleSums clips value sums) a)
      = sumValue (axisGet sums a) + (if clips a then 0 else value a) := by
  unfold sampleSums
  rw [axisGet_axesOf]
  split
  · rw [Int.add_zero]
  · have hv := hvalue a
    have hs := hsums a
    exact sumValue_addToSum hv (by omega)

theorem bump_eq_min (c : Nat) : bump c = min 65535 (c + 1) :=
  satInc_eq_min 65535 c

theorem noteClip_eq (a : Axis) (r : BitVec 24) {v : VFE} (hv : v.clipped ≤ 65535) : noteClip a r v = { v with
    lastClip := axisSet v.lastClip a (if clips r then some (signOf r) else axisGet v.lastClip a)
    clipped := min 65535 (v.clipped + (clips r).toNat) } := by
  unfold noteClip
  cases clips r with
  | true =>
    rw [bump_eq_min]
    rfl
  | false =>
    rw [show min 65535 (v.clipped + false.toNat) = v.clipped from Nat.min_eq_right hv]
    exact congrArg (fun l => { v with lastClip := l }) (axisSet_axisGet v.lastClip a).symm

/-- The last clip signs after a sample in RUNNING (R83). -/
def notedSigns (r : Axes (BitVec 24)) (v : VFE) : Axes (Option Sign) :=
  axesOf (fun a => if clips (axisGet r a) then some (signOf (axisGet r a)) else axisGet v.lastClip a)

theorem axisGet_notedSigns (r : Axes (BitVec 24)) (v : VFE) (a : Axis) : axisGet (notedSigns r v) a
    = if clips (axisGet r a) then some (if (axisGet r a).toInt < 0 then .negative else .positive) else axisGet v.lastClip a :=
  axisGet_axesOf _ a

/-- The VFE after a sample in RUNNING (R83). -/
def notedVfe (r : Axes (BitVec 24)) (v : VFE) : VFE :=
  noteClip .z r.z (noteClip .y r.y (noteClip .x r.x v))

theorem notedVfe_eq (r : Axes (BitVec 24)) {v : VFE} (hv : v.clipped ≤ 65535) : notedVfe r v = { v with
    lastClip := notedSigns r v
    clipped := min 65535 (v.clipped + ((clips r.x).toNat + (clips r.y).toNat + (clips r.z).toNat)) } := by
  unfold notedVfe
  rw [noteClip_eq .x r.x hv, noteClip_eq .y r.y (Nat.min_le_left _ _), noteClip_eq .z r.z (Nat.min_le_left _ _)]
  have hcount : min 65535 (min 65535 (min 65535 (v.clipped + (clips r.x).toNat) + (clips r.y).toNat) + (clips r.z).toNat)
      = min 65535 (v.clipped + ((clips r.x).toNat + (clips r.y).toNat + (clips r.z).toNat)) := by omega
  exact congrArg (fun c => { v with lastClip := notedSigns r v, clipped := c }) hcount

theorem takeSample_later {n : InstantNotice} {s w : State} (ps : Axes Part) (hep : s.re.epoch = n.epoch)
    (h : 0 < signedDiff n.second s.re.second) (hw : changeSecond n.second n.epoch StickyFlags.clear s = w) :
    takeSample n ps s = if w.re.isOpen then w.setRe (takeParts n.k ps w.re) else w := by
  obtain ⟨hsec, hepoch, -⟩ := changeSecond_opens hw
  unfold takeSample
  dsimp only
  rw [markAccumulation_later hep h, hw, hsec, hepoch]
  simp

theorem heldAfter_cases (choice : TcorrSource × Option TempValue) (old : Option HeldTemp) :
    heldAfter choice old = old ∨ ∃ v c, heldAfter choice old = some ⟨v, c, 0⟩ := by
  unfold heldAfter
  split
  · exact .inr ⟨_, _, rfl⟩
  · exact .inr ⟨_, _, rfl⟩
  · exact .inl rfl

theorem vfeInstant_running {k : Instant} {r : Axes (BitVec 24)} {tb : TB} {s : State} (h : s.vfe.state = .running) :
    vfeInstant ⟨k, s.tb.second, s.tb.epoch⟩ r (instantNode r tb s) = takeSample ⟨k, s.tb.second, s.tb.epoch⟩
      (axesOf (fun a => partOf s.sul.image a (axisGet s.vfe.settings a) (axisGet r a)))
      { instantNode r tb s with vfe := notedVfe r s.vfe } := by
  unfold vfeInstant
  rw [show (instantNode r tb s).vfe.state = .running from h]
  rfl

theorem clear_clip {f : StickyFlags} (h : f = { StickyFlags.clear with retuned := f.retuned }) (b : Bool) :
    ({ f with clip := f.clip || b } : StickyFlags) = { StickyFlags.clear with clip := b, retuned := f.retuned } := by
  cases f
  simp only [StickyFlags.clear, StickyFlags.mk.injEq] at h
  obtain ⟨rfl, rfl, rfl, rfl, -⟩ := h
  rfl

/-- What a sample of a later second leaves of RE's new second. -/
theorem sample_opens {n : InstantNotice} {s : State} {clips : Axis → Bool} {sign : Axis → Sign} {value : Axis → Int} {count : Nat} {t : State}
    (hep : s.re.epoch = n.epoch) (hlater : 0 < signedDiff n.second s.re.second) (hvalue : ∀ a, (value a).natAbs < 2 ^ 31)
    (hcount : count = (clips .x).toNat + (clips .y).toNat + (clips .z).toNat)
    (ht : takeSample n (axesOf (samplePart clips sign value)) s = t) :
    t.rs = (changeSecond n.second n.epoch StickyFlags.clear s).rs
      ∧ t.re.second = n.second ∧ t.re.epoch = n.epoch ∧ t.re.held = heldOnLeaving s
      ∧ (t.re.isOpen = true ↔ ∀ x ∈ t.rs.seconds, ¬ (x.epoch = n.epoch ∧ x.second = n.second))
      ∧ (t.re.isOpen = true → t.re.taken = [n.k] ∧ t.re.blanked = ⟨0, 0, 0⟩
        ∧ t.re.sticky = { StickyFlags.clear with clip := decide (count ≠ 0), retuned := t.re.sticky.retuned }
        ∧ ∀ a, axisGet t.re.n a = (!clips a).toNat ∧ axisGet t.re.clipped a = (clips a).toNat
          ∧ sumValue (axisGet t.re.sums a) = (if clips a then 0 else value a))
      ∧ (t.re.isOpen = false → t.re.taken = [] ∧ ∀ a, axisGet t.re.n a = 0 ∧ axisGet t.re.clipped a = 0) := by
  subst hcount
  generalize hw : changeSecond n.second n.epoch StickyFlags.clear s = w
  have hheld : w.re.held = heldOnLeaving s := hw ▸ changeSecond_held ..
  obtain ⟨hsec, hepoch, htaken, hsums, hn, hclipped, hblanked, hsticky, hopen⟩ := changeSecond_opens hw
  have hzero : ∀ a, axisGet w.re.n a = 0 ∧ axisGet w.re.clipped a = 0 ∧ sumValue (axisGet w.re.sums a) = 0 := by
    intro a
    rw [hn, hclipped, hsums]
    cases a <;> exact ⟨rfl, rfl, rfl⟩
  rw [takeSample_later _ hep hlater hw] at ht
  cases hisOpen : w.re.isOpen with
  | false =>
    rw [hisOpen] at ht
    obtain rfl : w = t := ht
    refine ⟨rfl, hsec, hepoch, hheld, hopen, fun h => ?_, fun _ => ⟨htaken, fun a => ⟨(hzero a).1, (hzero a).2.1⟩⟩⟩
    rw [hisOpen] at h
    cases h
  | true =>
    rw [hisOpen, if_pos rfl, takeParts_sample clips sign value (by rw [htaken]; exact List.not_mem_nil)] at ht
    subst ht
    refine ⟨rfl, hsec, hepoch, hheld, hopen, fun _ => ⟨?_, hblanked, ?_, fun a => ⟨?_, ?_, ?_⟩⟩, fun h => ?_⟩
    · exact congrArg (fun l => l ++ [n.k]) htaken
    · exact clear_clip hsticky _
    · exact (axisGet_axesOf _ a).trans (by rw [(hzero a).1, Nat.zero_add])
    · exact (axisGet_axesOf _ a).trans (by rw [(hzero a).2.1, Nat.zero_add])
    · refine (sampleSums_value hvalue (fun b => ?_) a).trans (by rw [(hzero a).2.2, Int.zero_add])
      rw [(hzero b).2.2]
      decide
    · rw [State.setRe_re] at h
      exact absurd (hisOpen.symm.trans h) (by decide)

/-- Settles O34: an instant is a sample that RE takes, discards, or opens its second for. -/
theorem sampleAccumulates : Obligations.SampleAccumulates := by
  unfold Obligations.SampleAccumulates
  refine ⟨fun s k r hon hnone hpassed => next_on hon (emitInstant_other hnone hpassed), fun s k r tb hon hdue => ⟨fun hrunning hretuning =>
    next_on hon ((emitInstant_due r hdue).trans (vfeInstant_none hrunning hretuning)), ?_⟩⟩
  intro clips value count noted ahead hst hclipped hclips hvalue hsmall hcount hnoted hsigns hahead
  obtain rfl : clips = fun a => Machine.clips (axisGet r a) := funext hclips
  have hsign : noted.lastClip = notedSigns r s.vfe := axes_ext fun a => (hsigns a).trans (axisGet_notedSigns r s.vfe a).symm
  have hvfe : noted = notedVfe r s.vfe := by
    rw [notedVfe_eq r hclipped, hnoted, hsign, hcount]
    rfl
  have hparts : axesOf (fun a => partOf s.sul.image a (axisGet s.vfe.settings a) (axisGet r a))
      = axesOf (samplePart (fun a => Machine.clips (axisGet r a)) (fun a => signOf (axisGet r a)) value) := by
    refine congrArg axesOf (funext fun a => ?_)
    unfold samplePart partOf
    rw [hvalue a]
    rfl
  have hemits := (emitInstant_due r hdue).trans (vfeInstant_running hst)
  rw [hparts, ← hvfe] at hemits
  refine ⟨fun hopen hsec hep hnew hsums => ⟨_, next_on hon (hemits.trans ?_), sampleSums_value hsmall hsums⟩,
    fun hdiscard => next_on hon (hemits.trans ?_), fun hep hlater => ⟨_, next_on hon hemits, ?_⟩⟩
  · rw [hcount, takeSample_current (n := ⟨k, s.tb.second, s.tb.epoch⟩) (s := { instantNode r tb s with vfe := noted }) _ hopen hsec hep]
    exact congrArg ({ instantNode r tb s with vfe := noted } : State).setRe (takeParts_sample _ _ value (re := s.re) hnew)
  · rw [hahead] at hdiscard
    exact takeSample_discarded (n := ⟨k, s.tb.second, s.tb.epoch⟩) (s := { instantNode r tb s with vfe := noted }) _ hdiscard
  · rw [hahead] at hlater
    generalize ht : takeSample ⟨k, s.tb.second, s.tb.epoch⟩ _ _ = t
    obtain ⟨hrs, hsec, hepoch, hheld, hopens, htakes, hpassed⟩ := sample_opens (n := ⟨k, s.tb.second, s.tb.epoch⟩)
      (s := { instantNode r tb s with vfe := noted }) hep hlater hsmall hcount ht
    rw [← hep] at hepoch hopens
    refine ⟨?_, ?_, ?_, hsec, hepoch, hopens, htakes, hpassed, fun hclosed => ?_, fun hopen => ?_, ?_⟩
    · rw [← ht]
      exact (takeSample_frame ..).2.1
    · rw [← ht]
      simp [instantNode]
    · rw [← ht]
      simp [instantNode]
    · rw [hheld]
      exact if_neg (by rw [Bool.not_eq_true]; exact hclosed)
    · rw [hheld, show heldOnLeaving { instantNode r tb s with vfe := noted } = heldAfter _ s.re.held from if_pos hopen]
      exact heldAfter_cases ..
    · rintro key rfl
      rw [hrs]
      exact ⟨fun hclosed => changeSecond_map_passed (fun _ => rfl) _ _ _ (s := { instantNode r tb s with vfe := noted }) hclosed,
        fun hopen => changeSecond_map_open (fun _ => rfl) _ _ _ (s := { instantNode r tb s with vfe := noted }) hopen⟩

/-! ## The mark closes a second (O44) -/

/-- The own SENSOR reading as a correction temperature (R136). -/
def ownTemp (s : State) : Option TempValue :=
  (s.tu.sensor.reading.filter (fun x => decide (x.age ≤ 2 * s.sul.image.acqPeriod))).map (fun x => ⟨x.value, x.clamp⟩)

/-- The substitute peer's temperature as a correction temperature (R136). -/
def peerTemp (s : State) : Option TempValue :=
  if s.sul.image.substitutePeer = 0 then none
  else (((findEntry s.sul.image.substitutePeer s.pt.entries).bind PeerEntry.latestTemp).filter
    (fun v => decide (v.age ≤ 30))).map (fun v => ⟨v.value, .none⟩)

/-- The held correction temperature while it may serve (R136). -/
def heldTemp (s : State) : Option TempValue :=
  (s.re.held.filter (fun h => decide (h.age ≤ 600))).map (fun h => ⟨h.value, h.clamp⟩)

/-- The first of own, peer and held that is there (R136). -/
def pickTemp (own peer held : Option TempValue) : TcorrSource × Option TempValue :=
  match own, peer, held with
  | some t, _, _ => (.localReading, some t)
  | none, some t, _ => (.peer, some t)
  | none, none, some t => (.held, some t)
  | none, none, none => (.none, none)

theorem map_filter_eq_bind {α β : Type} (p : α → Prop) [DecidablePred p] (f : α → β) (o : Option α) :
    (o.filter (fun x => decide (p x))).map f = o.bind (fun x => if p x then some (f x) else none) := by
  cases o with
  | none => rfl
  | some x => by_cases h : p x <;> simp [h]

theorem chooseTemp_eq (s : State) : chooseTemp s = pickTemp (ownTemp s) (peerTemp s) (heldTemp s) := by
  unfold chooseTemp
  refine Eq.trans (b := pickTemp _ _ _) rfl (congr (congrArg₂ pickTemp ?_ ?_) ?_)
  · rw [ownTemp, map_filter_eq_bind]
    cases s.tu.sensor.reading <;> rfl
  · rw [peerTemp, map_filter_eq_bind]
    refine congrArg (fun v => if s.sul.image.substitutePeer = 0 then none else v) ?_
    unfold findEntry
    cases s.pt.entries.find? (fun e => e.id == s.sul.image.substitutePeer) with
    | none => rfl
    | some e => cases he : e.latestTemp <;> simp [he]
  · rw [heldTemp, map_filter_eq_bind]
    cases s.re.held <;> rfl

theorem laterThan_next (q : Second) : 0 < signedDiff (q + 1) q := by
  unfold signedDiff
  rw [BitVec.add_comm, BitVec.add_sub_cancel]
  decide

/-- RE at the mark after an OPEN second. -/
theorem markRe_closes {s : State} {q : Second} {ep : Epoch} (hep : s.re.epoch = ep) (hlater : 0 < signedDiff q s.re.second) :
    markRe q ep s = (changeSecond q ep StickyFlags.clear s).setRe { (changeSecond q ep StickyFlags.clear s).re with
      held := ageHeldTemp (changeSecond q ep StickyFlags.clear s).re.held } := by
  unfold markRe
  rw [markAccumulation_later hep hlater]

theorem thermalFlag_iff (tu : TU) : thermalFlag tu = true ↔ tu.sensor.watch = .excursion ∨ tu.pier.watch = .excursion := by
  simp [thermalFlag]

theorem incompleteFlag_iff (im : Image) (n : Axes Nat) :
    incompleteFlag im n = true ↔ im.vectorRole = true ∧ ∃ a, axisGet n a < im.completeness := by
  unfold incompleteFlag
  rw [Bool.and_eq_true, anyAxis_iff]
  simp

/-- The first temperature that serves, and the held one after the mark (R136, R137). -/
theorem pickTemp_cases (own peer held : Option TempValue) (old : Option HeldTemp) :
    (∀ x, own = some x → pickTemp own peer held = (.localReading, own))
      ∧ (∀ x, own = none → peer = some x → pickTemp own peer held = (.peer, peer))
      ∧ (∀ x, own = none → peer = none → held = some x → pickTemp own peer held = (.held, held))
      ∧ (own = none → peer = none → held = none → pickTemp own peer held = (.none, none))
      ∧ (∀ x, own = some x ∨ (own = none ∧ peer = some x) →
          ageHeldTemp (heldAfter (pickTemp own peer held) old) = some ⟨x.value, x.clamp, 1⟩)
      ∧ (own = none → peer = none → ageHeldTemp (heldAfter (pickTemp own peer held) old)
          = old.map (fun h => { h with age := min 65535 (h.age + 1) })) := by
  refine ⟨?_, ?_, ?_, ?_, ?_, ?_⟩
  · rintro x rfl
    rfl
  · rintro x rfl rfl
    rfl
  · rintro x rfl rfl rfl
    rfl
  · rintro rfl rfl rfl
    rfl
  · rintro x (rfl | ⟨rfl, rfl⟩) <;> rfl
  · rintro rfl rfl
    have hage : ageHeldTemp old = old.map (fun h => { h with age := min 65535 (h.age + 1) }) :=
      congrArg (fun f => old.map f) (funext fun h => congrArg (fun n => { h with age := n }) (bump_eq_min h.age))
    cases held <;> exact hage

/-- Settles O44. -/
theorem markClosesSecond : Obligations.MarkClosesSecond := by
  unfold Obligations.MarkClosesSecond
  intro s hon hnone hmark hopen hep hsec
  obtain ⟨q, ep, hfresh, hmarks⟩ := marksSecond_one .re hmark
  obtain ⟨rfl, rfl⟩ := hfresh hnone
  generalize hm : ({ tbMark s with notices := dropNotice .re (tbMark s).notices } : State) = m at hmarks
  have hmre : m.re = s.re := hm ▸ rfl
  have hmrs : m.rs = s.rs := hm ▸ rfl
  have hmtu : m.tu = s.tu := hm ▸ rfl
  have hmdu : m.du = s.du := hm ▸ rfl
  have hmbw : m.bw = s.bw := hm ▸ rfl
  have hmsul : m.sul = s.sul := hm ▸ rfl
  have hmpt : m.pt = s.pt := hm ▸ rfl
  have hchoice : chooseTemp m = pickTemp (ownTemp s) (peerTemp s) (heldTemp s) := by
    rw [chooseTemp_eq, ownTemp, peerTemp, heldTemp, hmtu, hmsul, hmpt, hmre]
    rfl
  have hlater : 0 < signedDiff (s.tb.second + 1) m.re.second := by
    rw [hmre, ← hsec]
    exact laterThan_next _
  have hcloses := markRe_closes (hmre ▸ hep) hlater
  have hmopen : m.re.isOpen = true := hmre ▸ hopen
  generalize hw : changeSecond (s.tb.second + 1) s.tb.epoch StickyFlags.clear m = w at hcloses
  have hheld : w.re.held = heldAfter (chooseTemp m) s.re.held := by
    rw [← hw, changeSecond_held, ← hmre]
    exact if_pos hmopen
  have hseqs := changeSecond_map_open (f := SecondRecord.sequence) (fun _ => rfl) (s.tb.second + 1) s.tb.epoch StickyFlags.clear hmopen
  obtain ⟨r, hlast, hpart⟩ := changeSecond_newest (s.tb.second + 1) s.tb.epoch StickyFlags.clear hmopen
  have hfield : ∀ {α : Type} (f : SecondRecord → α), (∀ u, f (settledPart u) = f u) → f r = f (leftRecord m) :=
    fun f hf => (hf r).symm.trans ((congrArg f hpart).trans (hf _))
  have hseq : r.sequence = nextSequence (newestSecond s.rs) := (hfield SecondRecord.sequence fun _ => rfl).trans (hmrs ▸ rfl)
  have hsource : r.tsource = (chooseTemp m).1 := hfield SecondRecord.tsource fun _ => rfl
  have htcorr : r.tcorr = (chooseTemp m).2 := hfield SecondRecord.tcorr fun _ => rfl
  rw [hw] at hseqs hlast
  rw [hmrs, ← show r.sequence = (leftRecord m).sequence from hfield SecondRecord.sequence fun _ => rfl] at hseqs
  obtain ⟨hwsec, hwep, htaken, hsums, hn, -, -, -, hopens⟩ := changeSecond_opens hw
  rw [hsec] at hwsec hopens
  rw [← hep] at hwep hopens
  refine ⟨_, r, next_on hon (hmarks.trans hcloses), hlast, hseqs, fun hempty => ?_, fun u hu => ?_,
    (hfield SecondRecord.epoch fun _ => rfl).trans (congrArg RE.epoch hmre),
    (hfield SecondRecord.second fun _ => rfl).trans (congrArg RE.second hmre), fun a => ?_,
    (hfield (fun r => r.flags.clip) fun _ => rfl).trans (congrArg (fun e => e.sticky.clip) hmre),
    (hfield (fun r => r.flags.step) fun _ => rfl).trans (congrArg (fun e => e.sticky.step) hmre),
    (hfield (fun r => r.flags.retuned) fun _ => rfl).trans (congrArg (fun e => e.sticky.retuned) hmre),
    (hfield (fun r => r.flags.blank) fun _ => rfl).trans (congrArg (fun e => e.sticky.blank) hmre),
    (hfield (fun r => r.flags.relabel) fun _ => rfl).trans (congrArg (fun e => e.sticky.relabel) hmre), ?_, ?_, ?_,
    (hfield SecondRecord.settings fun _ => rfl).trans (congrArg (fun e => if e.sticky.retuned then e.attached else none) hmre),
    (hfield SecondRecord.sensor fun _ => rfl).trans (congrArg (fun u : TU => recordReading u.sensor.reading) hmtu),
    (hfield SecondRecord.pier fun _ => rfl).trans (congrArg (fun u : TU => recordReading u.pier.reading) hmtu), ?_,
    (hfield SecondRecord.discipline fun _ => rfl).trans (congrArg DU.state hmdu),
    (hfield SecondRecord.errorBound fun _ => rfl).trans (congrArg DU.errorBound hmdu),
    (hfield SecondRecord.disturbance fun _ => rfl).trans (congrArg BW.state hmbw), hwsec, hwep, htaken, fun a => ?_, hopens, ?_⟩
  · rw [hseq, newestSecond, hempty]
    rfl
  · rw [hseq, newestSecond, hu]
    rfl
  · exact (hfield (fun r => (axisGet r.axes a).n) fun _ => rfl).trans
      ((congrArg AxisField.n (axisGet_axesOf _ a)).trans (congrArg (fun e => axisGet e.n a) hmre))
  · rw [hfield (fun r => r.flags.thermal) fun _ => rfl, ← hmtu]
    exact thermalFlag_iff m.tu
  · rw [hfield (fun r => r.flags.disturbed) fun _ => rfl, ← hmbw]
    exact disturbedFlag_iff m.bw.state
  · rw [hfield (fun r => r.flags.noTcorr) fun _ => rfl, hsource]
    exact beq_iff_eq
  · rw [hfield (fun r => r.flags.incomplete) fun _ => rfl, ← hmre, ← hmsul]
    exact incompleteFlag_iff m.sul.image m.re.n
  · rw [State.setRe_re, hn, hsums]
    cases a <;> exact ⟨rfl, rfl⟩
  · intro own peer held hown hpeer0 hpeer hheldTemp
    obtain rfl : own = ownTemp s := hown
    obtain rfl : held = heldTemp s := hheldTemp
    obtain rfl : peer = peerTemp s := by
      unfold peerTemp
      split
      next h => exact hpeer0 h
      next h => exact hpeer h
    obtain ⟨hO, hP, hH, hN, hnew, hold⟩ := pickTemp_cases (ownTemp s) (peerTemp s) (heldTemp s) s.re.held
    rw [hsource, htcorr, hchoice]
    have hkept : ageHeldTemp w.re.held = ageHeldTemp (heldAfter (pickTemp (ownTemp s) (peerTemp s) (heldTemp s)) s.re.held) := by
      rw [hheld, hchoice]
    refine ⟨fun x hx => ?_, fun x hno hx => ?_, fun x hno hno' hx => ?_, fun hno hno' hno'' => ?_, fun x hx => hkept.trans (hnew x hx),
      fun hno hno' => hkept.trans (hold hno hno')⟩
    · rw [hO x hx]
      exact ⟨rfl, rfl⟩
    · rw [hP x hno hx]
      exact ⟨rfl, rfl⟩
    · rw [hH x hno hno' hx]
      exact ⟨rfl, rfl⟩
    · rw [hN hno hno' hno'']
      refine ⟨rfl, rfl, ?_⟩
      rw [hfield (fun r => r.flags.noTcorr) fun _ => rfl]
      have hnone : (chooseTemp m).1 = .none := by rw [hchoice, hN hno hno' hno'']
      exact beq_iff_eq.mpr hnone

end Sys2Proof.Machine
end

section
/-! PROOF. The scalar and temperature front ends (O38 to O41). -/

namespace Sys2Proof.Machine

/-! ## The stages of a cycle (O38) -/

theorem crossingComes_gate {s : State} (h : s.scn.state = .gate) :
    crossingComes s = s.setScn (crossing ⟨s.tb.second, s.tb.tick, s.tb.epoch⟩ s.scn) := by
  unfold crossingComes
  rw [h]
  rfl

theorem crossing_first {now : Stamp} {c : SCN} (h : c.first = none) : crossing now c = { c with first := some now, last := some now } := by
  unfold crossing
  rw [h]

theorem crossing_later {now f : Stamp} {c : SCN} (h : c.first = some f) :
    crossing now c = { c with last := some now, n := satInc 4000 c.n, t := ticksBetween f now } := by
  unfold crossing
  rw [h]

theorem ticksBetween_same {f now : Stamp} (h : now.second = f.second) (hle : f.tick ≤ now.tick) :
    ticksBetween f now = now.tick - f.tick := by
  unfold ticksBetween signedDiff
  rw [h, BitVec.sub_self, BitVec.toInt_zero]
  omega

theorem ticksBetween_next {f now : Stamp} (h : now.second = f.second + 1) (hle : f.tick ≤ 10000000) :
    ticksBetween f now = 10000000 - f.tick + now.tick := by
  have hone : signedDiff now.second f.second = 1 := by
    unfold signedDiff
    rw [h, BitVec.add_comm, BitVec.add_sub_cancel]
    decide
  unfold ticksBetween
  rw [hone]
  omega

theorem enterGate_signal {s : State} (h : s.pins.signalDetect = true) :
    enterGate s = { s with scn := { s.scn with state := .gate, timer := some (s.sul.image.gateTime * 100000) } } :=
  if_pos h

theorem enterGate_noSignal {s : State} (h : s.pins.signalDetect = false) : enterGate s = { s with scn := { s.scn with
    current := false
    timer := none
    latestF := none
    outcome := some .noSignal
    absent := bump s.scn.absent
    state := .wait } } :=
  if_neg (by
    rw [Bool.not_eq_true]
    exact h)

/-- Settles O38. -/
theorem cycleStages : Obligations.CycleStages := by
  unfold Obligations.CycleStages
  refine ⟨fun s hon => ⟨fun hst => next_on hon ?_, fun hst => ⟨next_on hon ?_, fun absent => ?_⟩, fun hst hsignal => next_on hon ?_,
    fun hst hsignal => next_on hon ?_⟩, fun s hon hst => ?_, fun s hon => ⟨fun hst => ?_, fun hst => ?_⟩⟩
  · unfold polarizeEnds
    rw [hst]
    rfl
  · unfold crossingComes
    rw [hst]
  · refine next_on (s := s.setPins { s.pins with signalDetect := !absent }) hon ?_
    unfold signalIndication
    rw [show (s.setPins { s.pins with signalDetect := !absent }).scn.state = .dead from hst]
    cases absent <;> rfl
  · unfold deadEnds
    rw [hst]
    exact enterGate_signal hsignal
  · unfold deadEnds
    rw [hst]
    exact enterGate_noSignal hsignal
  · have hcrossing : ∀ c, crossing ⟨s.tb.second, s.tb.tick, s.tb.epoch⟩ s.scn = c → exec .risingCrossing s = .next { s with scn := c } :=
      fun c hc => next_on hon ((crossingComes_gate hst).trans (congrArg s.setScn hc))
    refine ⟨fun hnone => hcrossing _ (crossing_first hnone), fun f hf hfew hsec hle => hcrossing _ ?_,
      fun f hf hfew hsec hle => hcrossing _ ?_, fun f hf hfull hsec hle => hcrossing _ ?_⟩
    · rw [crossing_later hf, ticksBetween_same hsec hle, satInc, if_neg (by omega)]
    · rw [crossing_later hf, ticksBetween_next hsec hle, satInc, if_neg (by omega)]
    · rw [crossing_later hf, ticksBetween_same hsec hle, satInc, if_pos hfull]
  · refine next_on (s := s.setPins { s.pins with polarizeFault := true }) hon ?_
    unfold polarizeIndication
    rw [show (s.setPins { s.pins with polarizeFault := true }).scn.state = .polarize from hst]
    rfl
  · refine next_on (s := s.setPins { s.pins with signalDetect := !true }) hon ?_
    unfold signalIndication
    rw [show (s.setPins { s.pins with signalDetect := !true }).scn.state = .gate from hst]
    rfl

/-! ## The gate closes (O39) -/

theorem roundDiv_half (t : Nat) : (roundDiv t 2).toNat = (t + 1) / 2 := by
  unfold roundDiv
  dsimp only
  rw [Int.natAbs_natCast, if_neg (by omega)]
  split <;> omega

/-- The midpoint of a gate lies in the second of its first crossing or in the next (R106). -/
theorem midpointOf_eq {f : Stamp} {t : Nat} (hf : f.tick < 10000000) (ht : t < 10000000) :
    midpointOf f t = (if f.tick + (t + 1) / 2 < 10000000 then f.second else f.second + 1, f.epoch) := by
  unfold midpointOf
  dsimp only
  rw [roundDiv_half]
  split
  next h =>
    rw [Nat.div_eq_of_lt h]
    exact congrArg (fun q => (q, f.epoch)) (BitVec.add_zero f.second)
  next h => rw [show (f.tick + (t + 1) / 2) / 10000000 = 1 by omega]; rfl

/-- A request placed with an idle DRU begins at once (R143). -/
theorem place_idle {c : Client} {op : Operation} {s : State} (hc : s.dru.current = none) (hq : s.dru.queue = []) :
    place c op s = { s with dru := { s.dru with current := some ⟨⟨c, op⟩, opPeriods op⟩ } } := by
  have hidle : (s.dru.current.isNone && s.dru.queue.isEmpty) = true := by
    rw [hc, hq]
    rfl
  exact congrArg s.setDru (if_pos hidle)

/-- Settles O39. -/
theorem gateCloses : Obligations.GateCloses := by
  unfold Obligations.GateCloses
  intro s hon hst
  have hcloses : gateEnds s = closeGate s := by
    unfold gateEnds
    rw [hst]
  refine ⟨fun o => endCycle o s, fun o => rfl, fun hfew => next_on hon (hcloses.trans (if_pos hfew)),
    fun hmany hout => next_on hon (hcloses.trans ?_), fun f hmany hlo hhi hf htick ht hc hq => next_on hon (hcloses.trans ?_)⟩
  · refine (if_neg (by omega)).trans (if_pos ?_)
    unfold outsideBand
    rwa [Bool.or_eq_true, decide_eq_true_iff, decide_eq_true_iff]
  · have hin : ¬ (outsideBand s.scn.n s.scn.t = true) := by
      unfold outsideBand
      rw [Bool.or_eq_true, decide_eq_true_iff, decide_eq_true_iff]
      omega
    refine (if_neg (by omega)).trans ((if_neg hin).trans ?_)
    dsimp only
    rw [hf, Option.map_some, midpointOf_eq htick ht]
    exact place_idle (s := s.setScn _) hc hq

/-! ## Marks at SCN and TU (O40) -/

theorem markScn_stands {q : Second} {s : State}
    (h : ¬ (q.toNat % s.sul.image.cyclePeriod = 0 ∧ (s.scn.state = .wait ∨ s.scn.state = .faulted))) : markScn q s = s := by
  unfold markScn startMark
  split
  next hstart =>
    have hperiod := beq_iff_eq.mp hstart
    split
    next hst => exact absurd ⟨hperiod, .inl hst⟩ h
    next hst => exact absurd ⟨hperiod, .inr hst⟩ h
    · rfl
  · rfl

theorem markScn_starts {q : Second} {s : State} (hperiod : q.toNat % s.sul.image.cyclePeriod = 0)
    (hst : s.scn.state = .wait ∨ s.scn.state = .faulted) : markScn q s = enterPolarize s := by
  unfold markScn startMark
  rw [if_pos (beq_iff_eq.mpr hperiod)]
  rcases hst with hst | hst <;> rw [hst]

theorem enterPolarize_good {s : State} (h : s.pins.polarizeFault = false) :
    enterPolarize s = { s with scn := polarizeScn s.sul.image s.scn } :=
  if_neg (by
    rw [Bool.not_eq_true]
    exact h)

theorem enterPolarize_faults {s : State} (h : s.pins.polarizeFault = true) :
    enterPolarize s = polarizeFaults { s with scn := polarizeScn s.sul.image s.scn } :=
  if_pos h

theorem ageReading_eq (c : TempChannel) : ageReading c = { c with
    reading := c.reading.map (fun x => { x with age := if 255 ≤ x.age then 255 else x.age + 1 }) } :=
  rfl

theorem markTu_off {q : Second} {s : State} (h : s.tu.state = .off) : markTu q s = s :=
  if_pos h

theorem markTu_ages {q : Second} {s : State} (hon : s.tu.state ≠ .off)
    (h : s.tu.state ≠ .wait ∨ q.toNat % s.sul.image.acqPeriod ≠ 0) :
    markTu q s = { s with tu := { s.tu with sensor := ageReading s.tu.sensor, pier := ageReading s.tu.pier } } := by
  refine (if_neg hon).trans (if_neg ?_)
  rintro ⟨hstart, hst⟩
  rcases h with h | h
  · exact h hst
  · exact h (beq_iff_eq.mp hstart)

theorem markTu_starts {q : Second} {s : State} (hst : s.tu.state = .wait) (hperiod : q.toNat % s.sul.image.acqPeriod = 0) :
    markTu q s = { s with tu := ⟨.settle, some 2500000, true, ageReading s.tu.sensor, ageReading s.tu.pier⟩ } :=
  (if_neg (by rw [hst]; decide)).trans (if_pos ⟨beq_iff_eq.mpr hperiod, hst⟩)

/-- Settles O40. -/
theorem startMarksBegin : Obligations.StartMarksBegin := by
  unfold Obligations.StartMarksBegin
  intro s hon hnone hmark
  refine ⟨?_, ?_⟩
  · obtain ⟨q, ep, hfresh, hmarks⟩ := marksSecond_one .scn hmark
    obtain ⟨rfl, rfl⟩ := hfresh hnone
    refine ⟨_, next_on hon hmarks, fun starts hstarts => ?_⟩
    generalize hm : ({ tbMark s with notices := dropNotice .scn (tbMark s).notices } : State) = m
    have hmscn : m.scn = s.scn := hm ▸ rfl
    have hmrs : m.rs = s.rs := hm ▸ rfl
    have hmsul : m.sul = s.sul := hm ▸ rfl
    have hmpins : m.pins = s.pins := hm ▸ rfl
    have hmsec : m.tb.second = s.tb.second + 1 := hm ▸ rfl
    rw [← hmscn, ← hmsul] at hstarts
    change (¬ starts → (markScn (s.tb.second + 1) m).scn = s.scn ∧ (markScn (s.tb.second + 1) m).rs = s.rs)
      ∧ (starts → _ → (markScn (s.tb.second + 1) m).rs = _ ∧ (markScn (s.tb.second + 1) m).scn = _)
      ∧ (starts → _ → (markScn (s.tb.second + 1) m).rs = _ ∧ (markScn (s.tb.second + 1) m).scn = _)
    refine ⟨fun hno => ?_, fun hs hfault => ?_, fun hs hfault => ?_⟩
    · rw [markScn_stands (fun h => hno (hstarts.mpr h))]
      exact ⟨hmscn, hmrs⟩
    · obtain ⟨hperiod, hst⟩ := hstarts.mp hs
      rw [markScn_starts hperiod hst, enterPolarize_good (hmpins ▸ hfault), ← hmrs, ← hmscn, ← hmsul]
      exact ⟨rfl, rfl⟩
    · obtain ⟨hperiod, hst⟩ := hstarts.mp hs
      rw [markScn_starts hperiod hst, enterPolarize_faults (hmpins ▸ hfault), raiseEvent_rs, ← hmrs, ← hmscn, ← hmsul, ← hmsec]
      exact ⟨raiseEvent_rs .frontEndFault m.tb.second _, (raiseEvent_frame ..).2.2.2.2.2.2.2.2.2.2.2.1⟩
  · obtain ⟨q, ep, hfresh, hmarks⟩ := marksSecond_one .tu hmark
    obtain ⟨rfl, rfl⟩ := hfresh hnone
    refine ⟨_, next_on hon hmarks, fun hoff => ?_, fun aged haged => ⟨fun hnoff hother => ?_, fun hst hperiod => ?_⟩⟩
    · exact (congrArg State.tu (markTu_off (s := { tbMark s with notices := dropNotice .tu (tbMark s).notices }) hoff)).trans rfl
    · rw [haged, haged]
      exact congrArg State.tu (markTu_ages (s := { tbMark s with notices := dropNotice .tu (tbMark s).notices }) hnoff hother)
    · rw [haged, haged]
      exact congrArg State.tu (markTu_starts (s := { tbMark s with notices := dropNotice .tu (tbMark s).notices }) hst hperiod)

/-! ## An acquisition completes (O41) -/

theorem codeFaulted_iff (code : BitVec 16) : codeFaulted code = true ↔ code.toNat < 500 ∨ 65000 < code.toNat := by
  unfold codeFaulted
  rw [Bool.or_eq_true, decide_eq_true_iff, decide_eq_true_iff]

theorem channelAfter_faulted {im : Image} {ch : Channel} {code : BitVec 16} {q : Second} {ep : Epoch} {c : TempChannel}
    (h : codeFaulted code = true) : channelAfter im ch code q ep c
      = ((faultedReading { c with code := some code }).1, if (faultedReading { c with code := some code }).2 then some .sensorFault else none) :=
  if_pos h

/-- The third faulted reading in a row (R116). -/
theorem faultedReading_third {c : TempChannel} (hrun : c.faultRun = 2) (hgood : c.faulted = false) :
    faultedReading c = ({ c with
      faultedReadings := bump c.faultedReadings
      faultRun := 3
      faulted := true
      reading := none }, true) :=
  if_pos ⟨hrun, hgood⟩

theorem faultedReading_other {c : TempChannel} (h : c.faultRun ≠ 2 ∨ c.faulted = true) :
    faultedReading c = ({ c with
      faultedReadings := bump c.faultedReadings
      faultRun := min 3 (c.faultRun + 1) }, false) := by
  refine (if_neg ?_).trans ?_
  · rintro ⟨hrun, hgood⟩
    rcases h with h | h
    · exact h hrun
    · exact absurd (h.symm.trans hgood) (by decide)
  · rw [satInc_eq_min]

theorem convertCode_eq {slope intercept v w : Int} {code : BitVec 16} (hv : v = intercept + roundDiv ((code.toNat : Int) * slope) 65536)
    (hw : w = max (-4000) (min 8500 v)) : convertCode slope intercept code
      = ⟨w, if v < -4000 then .low else if 8500 < v then .high else .none⟩ := by
  unfold convertCode
  dsimp only
  rw [← hv]
  split
  next h => exact congrArg (fun x => (⟨x, .low⟩ : TempValue)) (by omega)
  next h =>
    split
    next h' => exact congrArg (fun x => (⟨x, .high⟩ : TempValue)) (by omega)
    next h' => exact congrArg (fun x => (⟨x, .none⟩ : TempValue)) (by omega)

/-- The excursion watch after a good reading (R122, Figure 57). -/
theorem moveWatch_cases {q : Nat} {hot cool v : Int} {c new : TempChannel} {event : Option EventKind}
    (h : moveWatch q hot cool v c = (new, event)) :
    (c.watch = .normal → v ≤ hot → new.watch = .normal ∧ new.queue = c.queue ∧ event = none)
      ∧ (c.watch = .normal → hot < v → q ≤ 1 → new.watch = .excursion ∧ new.queue = 0 ∧ event = some .thermalStart)
      ∧ (c.watch = .normal → hot < v → 1 < q → new.watch = .counting ∧ new.queue = 1 ∧ event = none)
      ∧ (c.watch = .counting → hot < v → q ≤ c.queue + 1 → new.watch = .excursion ∧ new.queue = 0 ∧ event = some .thermalStart)
      ∧ (c.watch = .counting → hot < v → c.queue + 1 < q → new.watch = .counting ∧ new.queue = c.queue + 1 ∧ event = none)
      ∧ (c.watch = .counting → v ≤ hot → new.watch = .normal ∧ new.queue = 0 ∧ event = none)
      ∧ (c.watch = .excursion → v < cool → new.watch = .normal ∧ new.queue = 0 ∧ event = some .thermalEnd)
      ∧ (c.watch = .excursion → cool ≤ v → new.watch = .excursion ∧ new.queue = c.queue ∧ event = none) := by
  unfold moveWatch at h
  refine ⟨fun hw hv => ?_, fun hw hv hq => ?_, fun hw hv hq => ?_, fun hw hv hq => ?_, fun hw hv hq => ?_, fun hw hv => ?_, fun hw hv => ?_,
    fun hw hv => ?_⟩ <;> rw [hw] at h <;> dsimp only at h
  · rw [if_neg (by omega)] at h
    cases h
    exact ⟨hw, rfl, rfl⟩
  · rw [if_pos hv, if_pos hq] at h
    cases h
    exact ⟨rfl, rfl, rfl⟩
  · rw [if_pos hv, if_neg (by omega)] at h
    cases h
    exact ⟨rfl, rfl, rfl⟩
  · rw [if_pos hv, if_pos hq] at h
    cases h
    exact ⟨rfl, rfl, rfl⟩
  · rw [if_pos hv, if_neg (by omega)] at h
    cases h
    exact ⟨rfl, rfl, rfl⟩
  · rw [if_neg (by omega)] at h
    cases h
    exact ⟨rfl, rfl, rfl⟩
  · rw [if_pos hv] at h
    cases h
    exact ⟨rfl, rfl, rfl⟩
  · rw [if_neg (by omega)] at h
    cases h
    exact ⟨hw, rfl, rfl⟩

/-- What the watch leaves of a channel. -/
theorem moveWatch_keeps (q : Nat) (hot cool v : Int) (c : TempChannel) :
    (moveWatch q hot cool v c).1 = { c with watch := (moveWatch q hot cool v c).1.watch, queue := (moveWatch q hot cool v c).1.queue } := by
  unfold moveWatch
  repeat' split
  all_goals rfl

theorem raiseEvent_setTu (k : EventKind) (q : Second) (v : TU) (s : State) :
    raiseEvent k q (s.setTu v) = (raiseEvent k q s).setTu v := by
  unfold raiseEvent
  rw [State.setTu_sul]
  split <;> rfl

theorem raiseEvent_setPins (k : EventKind) (q : Second) (v : Pins) (s : State) :
    raiseEvent k q (s.setPins v) = (raiseEvent k q s).setPins v := by
  unfold raiseEvent
  rw [State.setPins_sul]
  split <;> rfl

theorem raiseEvent_eq (k : EventKind) (q : Second) (s : State) : raiseEvent k q s = { s with rs := (raiseEvent k q s).rs } := by
  unfold raiseEvent
  split <;> rfl

theorem raiseOpt_setTu (k : Option EventKind) (q : Second) (v : TU) (s : State) : raiseOpt k q (s.setTu v) = (raiseOpt k q s).setTu v := by
  cases k with
  | none => rfl
  | some k => exact raiseEvent_setTu k q v s

theorem raiseOpt_setPins (k : Option EventKind) (q : Second) (v : Pins) (s : State) :
    raiseOpt k q (s.setPins v) = (raiseOpt k q s).setPins v := by
  cases k with
  | none => rfl
  | some k => exact raiseEvent_setPins k q v s

theorem raiseOpt_eq (k : Option EventKind) (q : Second) (s : State) : raiseOpt k q s = { s with rs := (raiseOpt k q s).rs } := by
  cases k with
  | none => rfl
  | some k => exact raiseEvent_eq k q s

/-- A channel's code handled on a node whose TU has been set: the event is raised of the node as it stood. -/
theorem handleCode_setTu (ch : Channel) (code : BitVec 16) (q : Second) (ep : Epoch) (v : TU) (s : State) :
    handleCode ch code q ep (s.setTu v)
      = (raiseOpt (channelAfter s.sul.image ch code q ep (getChannel ch v)).2 q s).setTu
          (setChannel ch (channelAfter s.sul.image ch code q ep (getChannel ch v)).1 v) :=
  raiseOpt_setTu _ q _ s

theorem conversionEnds_eq {c p : BitVec 16} {s : State} {x y : TempChannel × Option EventKind} (hst : s.tu.state = .convert)
    (hx : channelAfter s.sul.image .sensor c s.tb.second s.tb.epoch s.tu.sensor = x)
    (hy : channelAfter s.sul.image .pier p s.tb.second s.tb.epoch s.tu.pier = y) : conversionEnds c p s
      = ((if s.ties.sensorFirst then raiseOpt y.2 s.tb.second (raiseOpt x.2 s.tb.second s)
          else raiseOpt x.2 s.tb.second (raiseOpt y.2 s.tb.second s)).setPins { s.pins with sensorCode := c, pierCode := p }).setTu
        ⟨.wait, none, false, x.1, y.1⟩ := by
  unfold conversionEnds
  rw [hst]
  unfold completeAcquisition
  dsimp only
  rw [State.setTu_ties, State.setPins_ties, handleCode_setTu, handleCode_setTu, handleCode_setTu, handleCode_setTu]
  simp only [raiseOpt_frame, State.setPins_sul, State.setTu_tb, State.setPins_tb, State.setPins_tu]
  dsimp only [getChannel, setChannel]
  rw [hx, hy]
  split <;> simp only [raiseOpt_setPins]

/-- Settles O41. -/
theorem acquisitionCompletes : Obligations.AcquisitionCompletes := by
  unfold Obligations.AcquisitionCompletes
  refine ⟨fun s c p hon => ⟨fun hst => next_on hon ?_, fun hst => ?_⟩, fun im ch code second epoch old new event h => ?_⟩
  · unfold tuSettleEnds
    rw [hst]
    rfl
  · refine ⟨_, _, _, next_on hon rfl, rfl, rfl, ?_⟩
    generalize hx : channelAfter s.sul.image .sensor c s.tb.second s.tb.epoch s.tu.sensor = x
    generalize hy : channelAfter s.sul.image .pier p s.tb.second s.tb.epoch s.tu.pier = y
    rw [conversionEnds_eq hst hx hy]
    cases s.ties.sensorFirst with
    | true =>
      refine ⟨?_, rfl⟩
      rw [if_pos rfl, raiseOpt_eq y.2, raiseOpt_eq x.2]
      rfl
    | false =>
      refine ⟨?_, rfl⟩
      rw [if_neg (by decide), raiseOpt_eq x.2, raiseOpt_eq y.2]
      rfl
  · cases hbad : codeFaulted code with
    | true =>
      have hrange := (codeFaulted_iff code).mp hbad
      rw [channelAfter_faulted hbad] at h
      by_cases hthird : old.faultRun = 2 ∧ old.faulted = false
      · obtain ⟨hrun, hgood⟩ := hthird
        rw [faultedReading_third (c := { old with code := some code }) hrun hgood] at h
        cases h
        refine ⟨rfl, fun _ => ⟨rfl, rfl, rfl, fun _ _ => ⟨rfl, rfl, rfl, rfl⟩, fun hno => ?_⟩, fun v w hlo hhi => by omega⟩
        rcases hno with hno | hno
        · exact absurd hrun hno
        · exact absurd (hgood.symm.trans hno) (by decide)
      · have hno : old.faultRun ≠ 2 ∨ old.faulted = true := by
          rw [Decidable.not_and_iff_or_not, Bool.not_eq_false] at hthird
          exact hthird
        rw [faultedReading_other (c := { old with code := some code }) hno] at h
        cases h
        exact ⟨rfl, fun _ => ⟨rfl, rfl, rfl, fun hrun hgood => absurd ⟨hrun, hgood⟩ hthird, fun _ => ⟨rfl, rfl, rfl, rfl⟩⟩,
          fun v w hlo hhi => by omega⟩
    | false =>
      have hrange : ¬ (code.toNat < 500 ∨ 65000 < code.toNat) := by
        rw [← codeFaulted_iff, hbad]
        decide
      have hmoves : moveWatch (queueDepth (channelGet im.queueCode ch)) (channelGet im.hot ch) (channelGet im.cool ch)
          (convertCode (channelGet im.slope ch) (channelGet im.intercept ch) code).value
          (goodReading (convertCode (channelGet im.slope ch) (channelGet im.intercept ch) code) second epoch
            { old with code := some code }) = (new, event) := by
        rw [← h]
        exact (if_neg (by rw [hbad]; decide)).symm
      have hkeeps := moveWatch_keeps (queueDepth (channelGet im.queueCode ch)) (channelGet im.hot ch) (channelGet im.cool ch)
          (convertCode (channelGet im.slope ch) (channelGet im.intercept ch) code).value
          (goodReading (convertCode (channelGet im.slope ch) (channelGet im.intercept ch) code) second epoch
            { old with code := some code })
      rw [hmoves] at hkeeps
      refine ⟨congrArg TempChannel.code hkeeps, fun hout => absurd hout hrange, fun v w hlo hhi hv hw => ?_⟩
      rw [convertCode_eq hv hw] at hmoves hkeeps
      refine ⟨congrArg TempChannel.faulted hkeeps, congrArg TempChannel.faultRun hkeeps, congrArg TempChannel.reading hkeeps,
        (congrArg TempChannel.clampedReadings hkeeps).trans ?_, fun q hq => ?_⟩
      · refine if_congr ?_ rfl rfl
        split
        next h => exact iff_of_false (fun hnone => by cases hnone) (by omega)
        next h =>
          split
          next h' => exact iff_of_false (fun hnone => by cases hnone) (by omega)
          next h' => exact iff_of_true rfl (by omega)
      · rw [hq]
        exact moveWatch_cases (c := goodReading _ second epoch { old with code := some code }) hmoves

end Sys2Proof.Machine
end

section
/-! PROOF. The minute builder and the divisions (O45, O46). -/

namespace Sys2Proof.Machine

/-! ## What the minute builder gathers (O46) -/

theorem sumOf_eq_sum (vs : List Int) : sumOf vs = vs.sum := by
  have hfrom : ∀ (vs : List Int) (a : Int), vs.foldl (· + ·) a = a + vs.sum := by
    intro vs
    induction vs with
    | nil => exact fun a => (Int.add_zero a).symm
    | cons v vs ih =>
      intro a
      rw [List.foldl_cons, ih, List.sum_cons, Int.add_assoc]
  exact (hfrom vs 0).trans (Int.zero_add _)

theorem mem_divisionFor {q : Quantity} {need : Nat} {vs : List Int} {d : MinuteDivision} :
    d ∈ divisionFor q need vs ↔ need ≤ vs.length ∧ d = ⟨q, vs.sum, vs.length⟩ := by
  unfold divisionFor
  rw [sumOf_eq_sum]
  split
  next h => simp [h]
  next h => simp [h]

theorem divisionFor_quantity (q : Quantity) (need : Nat) (vs : List Int) :
    ((divisionFor q need vs).map MinuteDivision.quantity).Sublist [q] := by
  unfold divisionFor
  split
  · exact List.Sublist.refl _
  · exact List.nil_sublist _

theorem minuteF_eq (r : SecondRecord) : minuteF r = r.f.or r.ownF := by
  unfold minuteF
  cases r.f <;> rfl

/-- A division of the minute is that of an axis with 45 present values, of F with one, or of ΔF with one (R180). -/
theorem mem_todo {m : Minute} {recs : List SecondRecord} {d : MinuteDivision} : d ∈ (gatherMinute m recs).todo ↔
    (∃ a, 45 ≤ (axisValues a recs).length ∧ d = ⟨.axis a, (axisValues a recs).sum, (axisValues a recs).length⟩)
      ∨ (1 ≤ (recs.filterMap minuteF).length
        ∧ d = ⟨.f, (recs.filterMap minuteF).sum, (recs.filterMap minuteF).length⟩)
      ∨ (1 ≤ (recs.filterMap SecondRecord.deltaF).length
        ∧ d = ⟨.deltaF, (recs.filterMap SecondRecord.deltaF).sum, (recs.filterMap SecondRecord.deltaF).length⟩) := by
  unfold gatherMinute
  simp only [List.mem_append, mem_divisionFor]
  constructor
  · rintro ((((h | h) | h) | h) | h)
    · exact .inl ⟨.x, h⟩
    · exact .inl ⟨.y, h⟩
    · exact .inl ⟨.z, h⟩
    · exact .inr (.inl h)
    · exact .inr (.inr h)
  · rintro (⟨a, h⟩ | h | h)
    · cases a with
      | x => exact .inl (.inl (.inl (.inl h)))
      | y => exact .inl (.inl (.inl (.inr h)))
      | z => exact .inl (.inl (.inr h))
    · exact .inl (.inr h)
    · exact .inr h

theorem foldl_unionFlags {p : RecordFlags → Bool} (hp : ∀ a b, p (unionFlags a b) = (p a || p b)) (recs : List SecondRecord)
    (acc : RecordFlags) : p (recs.foldl (fun acc r => unionFlags acc r.flags) acc) = true ↔ p acc = true ∨ ∃ r ∈ recs, p r.flags = true := by
  induction recs generalizing acc with
  | nil => simp
  | cons r recs ih =>
    rw [List.foldl_cons, ih, hp, Bool.or_eq_true]
    simp [or_assoc]

theorem minuteFlag_iff {p : RecordFlags → Bool} (hp : ∀ a b, p (unionFlags a b) = (p a || p b)) (hno : p noFlags = false) (m : Minute)
    (recs : List SecondRecord) : p (gatherMinute m recs).body.flags = true ↔ ∃ r ∈ recs, p r.flags = true := by
  refine (foldl_unionFlags hp recs noFlags).trans ?_
  rw [hno]
  simp

/-! ## The head of the build list -/

theorem testHead_empty {s : State} (h : s.rs.buildList = []) : testHead s = s := by
  unfold testHead
  rw [h]
  rfl

theorem testHead_waits {s : State} {m : Minute} {rest : List Minute} (h : s.rs.buildList = m :: rest)
    (hopen : ∃ r ∈ minuteRecords m s.rs, r.final = false) : testHead s = s := by
  have hnot : ¬ ((minuteRecords m s.rs).all SecondRecord.final = true) := by
    obtain ⟨r, hr, hfinal⟩ := hopen
    rw [List.all_eq_true]
    intro hall
    exact absurd (hall r hr) (by rw [hfinal]; decide)
  unfold testHead
  rw [h, List.length_cons]
  unfold testHeads
  split
  · rfl
  · rw [h]
    exact if_neg hnot

theorem testHead_builds {s : State} {m : Minute} {rest : List Minute} {d : MinuteDivision} {ds : List MinuteDivision}
    (h : s.rs.buildList = m :: rest) (hbuild : s.rs.build = none) (hdiscard : s.rs.discard = false)
    (hfinal : ∀ r ∈ minuteRecords m s.rs, r.final = true) (htodo : (gatherMinute m (minuteRecords m s.rs)).todo = d :: ds) :
    testHead s = placeMinute d (s.setRs { s.rs with build := some (gatherMinute m (minuteRecords m s.rs)) }) := by
  unfold testHead
  rw [h, List.length_cons]
  unfold testHeads
  rw [hbuild, hdiscard, h]
  dsimp only
  rw [if_pos (List.all_eq_true.mpr hfinal), htodo]
  rfl

/-! ## A MINUTE result -/

/-- DIVIDE_COMPLETE with a divisor other than 0 hands its client the quotient (R144, R145). -/
theorem exec_divideComplete {s : State} {c : Client} {a : Int} {d left : Nat} (hon : s.powered = true) (hd : d ≠ 0)
    (hcurrent : s.dru.current = some ⟨⟨c, .divide a d⟩, left⟩) :
    exec .divideComplete s = .next (deliverQuotient c (some (roundDiv a d)) (s.setDru (beginNext s.dru))) := by
  refine next_on hon ?_
  unfold divideEnds
  rw [hcurrent]
  dsimp only
  rw [quotient, if_neg hd, countFault, if_neg hd]

theorem exec_divideComplete_idle {s : State} {c : Client} {a : Int} {d left : Nat} (hon : s.powered = true) (hd : d ≠ 0)
    (hcurrent : s.dru.current = some ⟨⟨c, .divide a d⟩, left⟩) (hqueue : s.dru.queue = []) : exec .divideComplete s
      = .next (deliverQuotient c (some (roundDiv a d)) { s with dru := { s.dru with current := none } }) := by
  rw [exec_divideComplete hon hd hcurrent, beginNext_of_queue_nil hqueue]
  rfl

theorem deliverMinute_discards {v : Option Int} {s : State} (h : s.rs.discard = true) :
    deliverMinute v s = testHead (s.setRs { s.rs with discard := false }) :=
  if_pos h

theorem deliverMinute_goesOn {v : Option Int} {s : State} {body : MinuteBody} {e f : MinuteDivision} {rest : List MinuteDivision}
    (h : s.rs.discard = false) (hbuild : s.rs.build = some ⟨body, e :: f :: rest⟩) :
    deliverMinute v s = placeMinute f (s.setRs { s.rs with build := some ⟨setMean e.quantity v body, f :: rest⟩ }) := by
  unfold deliverMinute
  rw [h, hbuild]
  rfl

theorem deliverMinute_ends {v : Option Int} {s : State} {body : MinuteBody} {e : MinuteDivision} (h : s.rs.discard = false)
    (hbuild : s.rs.build = some ⟨body, [e]⟩) :
    deliverMinute v s = testHead (s.setRs (enterMinute (setMean e.quantity v body) s.rs)) := by
  unfold deliverMinute
  rw [h, hbuild]
  rfl

theorem nextSequence_minute {rs : RS} {q : Sequence} (hempty : rs.minutes = [] → q = 0)
    (hlast : ∀ u, rs.minutes.getLast? = some u → q = u.sequence + 1) : nextSequence (newestMinute rs) = q := by
  unfold newestMinute
  cases h : rs.minutes.getLast? with
  | none => exact (hempty (List.getLast?_eq_none_iff.mp h)).symm
  | some u => exact (hlast u h).symm

theorem drop_if {α : Type} (limit : Nat) (xs : List α) :
    (if limit ≤ xs.length then xs.drop 1 else xs) = xs.drop (if limit ≤ xs.length then 1 else 0) := by
  split
  · rfl
  · exact List.drop_zero.symm

/-- A record of another minute starts the current one (R180). -/
theorem takeMinuteKey_starts {key m : Minute} {s : State} (hm : s.rs.current = some m) (hne : m ≠ key) :
    takeMinuteKey key s = testHead (s.setRs { startMinuteRs m s.rs with current := some key }) := by
  unfold takeMinuteKey
  rw [hm]
  exact if_neg hne

/-- Settles O46. -/
theorem minuteMeansDelivered : Obligations.MinuteMeansDelivered := by
  unfold Obligations.MinuteMeansDelivered
  refine ⟨fun m recs b hb => ?_, fun s a d left hon hd hqueue hcurrent => ⟨fun hdiscard hlist => ?_, fun body e f rest hdiscard hbuild => ?_,
    fun body e head hdiscard hbuild hlist q hempty hlast => ?_⟩, fun key s => ⟨fun hnone => ?_, fun hsame => ?_, fun m hm hne =>
    ⟨fun old hold hroom hopen => ?_, fun hlist hbuild hdiscard hfinal d rest htodo => ?_, fun old next rest hlist hfull hopen => ?_⟩⟩⟩
  · subst hb
    refine ⟨rfl, rfl, fun a values hvalues => ⟨?_, fun d hd => ?_⟩, fun values hvalues => ⟨?_, fun d hd => ?_⟩,
      fun values hvalues => ⟨?_, fun d hd => ?_⟩, ?_, minuteFlag_iff (fun _ _ => rfl) rfl m recs,
      minuteFlag_iff (p := RecordFlags.arith) (fun _ _ => rfl) rfl m recs⟩
    · rw [← hvalues]
      exact axisGet_axesOf _ a
    · rw [mem_todo]
      constructor
      · rintro (⟨a', hlen, rfl⟩ | ⟨-, rfl⟩ | ⟨-, rfl⟩)
        · cases hd
          rw [← hvalues]
          exact ⟨hlen, rfl⟩
        · cases hd
        · cases hd
      · rintro ⟨hlen, rfl⟩
        rw [← hvalues] at hlen ⊢
        exact .inl ⟨a, hlen, rfl⟩
    · rw [← hvalues, ← funext minuteF_eq]
      rfl
    · rw [← funext minuteF_eq] at hvalues
      rw [mem_todo, hvalues]
      constructor
      · rintro (⟨a', -, rfl⟩ | h | ⟨-, rfl⟩)
        · cases hd
        · exact h
        · cases hd
      · exact fun h => .inr (.inl h)
    · rw [← hvalues]
      rfl
    · rw [mem_todo, hvalues]
      constructor
      · rintro (⟨a', -, rfl⟩ | ⟨-, rfl⟩ | h)
        · cases hd
        · cases hd
        · exact h
      · exact fun h => .inr (.inr h)
    · unfold gatherMinute
      simp only [List.map_append]
      exact ((((divisionFor_quantity ..).append (divisionFor_quantity ..)).append (divisionFor_quantity ..)).append
        (divisionFor_quantity ..)).append (divisionFor_quantity ..)
  · rw [exec_divideComplete_idle hon hd hcurrent hqueue]
    exact congrArg _ ((deliverMinute_discards (s := { s with dru := { s.dru with current := none } }) hdiscard).trans (testHead_empty hlist))
  · rw [exec_divideComplete_idle hon hd hcurrent hqueue]
    refine congrArg _ ((deliverMinute_goesOn (s := { s with dru := { s.dru with current := none } }) hdiscard hbuild).trans ?_)
    exact place_idle (s := { s with dru := _, rs := _ }) rfl hqueue
  · rw [exec_divideComplete_idle hon hd hcurrent hqueue]
    refine congrArg _ ((deliverMinute_ends (s := { s with dru := { s.dru with current := none } }) hdiscard hbuild).trans ((testHead_empty ?_).trans ?_))
    · exact congrArg (List.drop 1) hlist
    · unfold enterMinute
      dsimp only
      rw [drop_if, nextSequence_minute hempty hlast, hlist]
      rfl
  · unfold takeMinuteKey
    rw [hnone]
    rfl
  · unfold takeMinuteKey
    rw [hsame]
    exact if_pos rfl
  · have hstart : startMinuteRs m s.rs = { s.rs with buildList := s.rs.buildList ++ [m] } := if_neg (by omega)
    rw [takeMinuteKey_starts hm hne, hstart]
    obtain ⟨rest, hlist⟩ : ∃ rest, s.rs.buildList = old :: rest := by
      cases hl : s.rs.buildList with
      | nil =>
        rw [hl] at hold
        cases hold
      | cons x xs =>
        rw [hl] at hold
        cases hold
        exact ⟨xs, rfl⟩
    exact testHead_waits (s := s.setRs { s.rs with buildList := s.rs.buildList ++ [m], current := some key })
      (by rw [State.setRs_rs, hlist]; rfl) hopen
  · have hstart : startMinuteRs m s.rs = { s.rs with buildList := [m] } := by
      unfold startMinuteRs
      rw [hlist]
      rfl
    rw [takeMinuteKey_starts hm hne, hstart]
    exact (testHead_builds (s := s.setRs { s.rs with buildList := [m], current := some key }) rfl hbuild hdiscard hfinal htodo).trans rfl
  · have hstart : startMinuteRs m s.rs = { s.rs with
        buildList := next :: rest ++ [m]
        minuteLost := bump s.rs.minuteLost
        discard := s.rs.discard || s.rs.build.isSome
        build := none } := by
      unfold startMinuteRs
      rw [hlist]
      exact if_pos (by simp [hfull])
    rw [takeMinuteKey_starts hm hne, hstart]
    exact testHead_waits (rest := rest ++ [m]) rfl hopen

end Sys2Proof.Machine
end

section
/-! PROOF. Finalizing records: a taken F (O48) and the marks of the pending entries (O49). -/

namespace Sys2Proof.Machine

/-! ## The record a finalization writes -/

@[simp] theorem raiseEvent_seconds (k : EventKind) (q : Second) (s : State) : (raiseEvent k q s).rs.seconds = s.rs.seconds := by
  unfold raiseEvent raiseRs
  split
  · rw [State.setRs_rs]
    split <;> rfl
  · rfl

@[simp] theorem watchDeltaF_seconds (d : Option Int) (q : Second) (s : State) : (watchDeltaF d q s).rs.seconds = s.rs.seconds := by
  unfold watchDeltaF raiseOpt
  dsimp only
  split
  · rfl
  · split
    · rw [raiseEvent_seconds]
      rfl
    · rfl

@[simp] theorem testHeads_seconds (k : Nat) (s : State) : (testHeads k s).rs.seconds = s.rs.seconds := by
  induction k generalizing s with
  | zero => rfl
  | succ k ih =>
    unfold testHeads
    split
    · rfl
    · split
      · rfl
      · dsimp only
        split
        · split
          · exact ih _
          · rfl
        · rfl

theorem finalize_seconds (q : Sequence) (n : Second) (mag f df : Option Int) (reason : DeltaFReason) (s : State) :
    (finalize q n mag f df reason s).rs.seconds
      = s.rs.seconds.map (fun r => if r.sequence = q then finalRecord mag f df reason r else r) := by
  simp only [finalize, testHead, testHeads_seconds, watchDeltaF_seconds]
  rfl

/-- Writes under distinct sequences: each record written last as its own write left it. -/
theorem foldl_writes {α : Type} {F : State → α → State} {seq : α → Sequence} {w : α → SecondRecord → SecondRecord}
    (hF : ∀ s a, (F s a).rs.seconds = s.rs.seconds.map (fun r => if r.sequence = seq a then w a r else r))
    (hw : ∀ a r, (w a r).sequence = r.sequence) {e : α} {es : List α} (hnodup : (es.map seq).Nodup) (he : e ∈ es) (s : State) :
    ∀ r ∈ (es.foldl F s).rs.seconds, r.sequence = seq e → ∃ u, r = w e u := by
  have hkeeps : ∀ (xs : List α), seq e ∉ xs.map seq → ∀ s : State,
      (∀ r ∈ s.rs.seconds, r.sequence = seq e → ∃ u, r = w e u) →
      ∀ r ∈ (xs.foldl F s).rs.seconds, r.sequence = seq e → ∃ u, r = w e u := by
    intro xs
    induction xs with
    | nil => exact fun _ s h => h
    | cons x xs ih =>
      intro hnot s h
      rw [List.map_cons, List.mem_cons, not_or] at hnot
      refine ih hnot.2 (F s x) fun r hr hseq => ?_
      rw [hF] at hr
      obtain ⟨u, hu, rfl⟩ := List.mem_map.mp hr
      split at hseq
      next hx => exact absurd (hseq.symm.trans ((hw x u).trans hx)) hnot.1
      next hx =>
        rw [if_neg hx]
        exact h u hu hseq
  induction es generalizing s with
  | nil => cases he
  | cons x xs ih =>
    rw [List.map_cons, List.nodup_cons] at hnodup
    rcases List.mem_cons.mp he with rfl | hin
    · refine hkeeps xs hnodup.1 (F s e) fun r hr hseq => ?_
      rw [hF] at hr
      obtain ⟨u, hu, rfl⟩ := List.mem_map.mp hr
      split at hseq
      next hx =>
        rw [if_pos hx]
        exact ⟨u, rfl⟩
      next hx => exact absurd hseq hx
    · exact ih hnodup.2 hin (F s x)

/-! ## Entries resolved -/

/-- What a resolution writes into the record of an entry with |B| (R156). -/
def resolvedRecord (f : Int) (e : PendingEntry) (r : SecondRecord) : SecondRecord :=
  match e.magnitude with
  | some m => finalRecord (some m) (some f) (some (m - f)) .matched r
  | none => r

/-- One step of `resolveAll`. -/
def resolveOne (f : Int) (s : State) (e : PendingEntry) : State :=
  match e.magnitude with
  | some m => resolve e m f s
  | none => s

theorem resolveAll_eq_foldl (f : Int) (es : List PendingEntry) (s : State) : resolveAll f es s = es.foldl (resolveOne f) s := by
  unfold resolveAll
  refine congrFun (congrFun (congrArg List.foldl (funext fun s => funext fun e => ?_)) s) es
  unfold resolveOne
  cases e.magnitude <;> rfl

theorem resolveOne_seconds (f : Int) (s : State) (e : PendingEntry) : (resolveOne f s e).rs.seconds
    = s.rs.seconds.map (fun r => if r.sequence = e.sequence then resolvedRecord f e r else r) := by
  unfold resolveOne resolvedRecord
  cases e.magnitude with
  | some m => exact finalize_seconds ..
  | none => simp

theorem resolvedRecord_sequence (f : Int) (e : PendingEntry) (r : SecondRecord) : (resolvedRecord f e r).sequence = r.sequence := by
  unfold resolvedRecord
  split <;> rfl

theorem resolve_mdm (e : PendingEntry) (m f : Int) (s : State) : (resolve e m f s).mdm = { s.mdm with
    list := s.mdm.list.filter (fun x => x.sequence != e.sequence)
    matched := bump s.mdm.matched } := by
  simp [resolve]

theorem resolveAll_mdm {f : Int} {es : List PendingEntry} (h : ∀ e ∈ es, e.magnitude ≠ none) (s : State) :
    (resolveAll f es s).mdm.list = s.mdm.list.filter (fun x => decide (∀ e ∈ es, x.sequence ≠ e.sequence))
      ∧ (resolveAll f es s).mdm.latestF = s.mdm.latestF ∧ (resolveAll f es s).mdm.heldF = s.mdm.heldF := by
  rw [resolveAll_eq_foldl]
  induction es generalizing s with
  | nil => exact ⟨by simp, rfl, rfl⟩
  | cons e es ih =>
    obtain ⟨m, hm⟩ := Option.ne_none_iff_exists'.mp (h e List.mem_cons_self)
    have hone : resolveOne f s e = resolve e m f s := by
      unfold resolveOne
      rw [hm]
    obtain ⟨hlist, hlatest, hheld⟩ := ih (fun x hx => h x (List.mem_cons_of_mem e hx)) (resolve e m f s)
    rw [List.foldl_cons, hone]
    rw [resolve_mdm] at hlist hlatest hheld
    refine ⟨hlist.trans ?_, hlatest, hheld⟩
    rw [List.filter_filter]
    refine List.filter_congr fun x _ => ?_
    rw [Bool.eq_iff_iff]
    simp [and_comm]

theorem resolveAll_frame_eq (f : Int) (es : List PendingEntry) (s : State) : resolveAll f es s = { s with
    mdm := (resolveAll f es s).mdm
    rs := (resolveAll f es s).rs
    bw := (resolveAll f es s).bw
    dru := (resolveAll f es s).dru } := by
  rw [State.eq_iff]
  simp

/-! ## A taken F (R155, R156) -/

theorem takeF_rejected {f : Int} {q : Second} {s : State} (h : f < 1 ∨ 200000000 < f) :
    takeF f q s = { s with mdm := { s.mdm with rejected := bump s.mdm.rejected } } :=
  if_pos h

theorem takeF_taken {f : Int} {q : Second} {s : State} (hlo : 1 ≤ f) (hhi : f ≤ 200000000) :
    takeF f q s = matchF f q (s.setMdm { s.mdm with latestF := some ⟨f, q, s.mdm.source⟩ }) :=
  if_neg (by omega)

theorem hits_empty {q : Second} {es : List PendingEntry} (h : ∀ e ∈ es, e.second ≠ q) :
    (es.filter (fun e => e.second == q)).isEmpty = true := by
  rw [List.isEmpty_iff, List.filter_eq_nil_iff]
  intro e he
  simpa using h e he

theorem hits_some {q : Second} {es : List PendingEntry} (h : ∃ e ∈ es, e.second = q) :
    ¬ ((es.filter (fun e => e.second == q)).isEmpty = true) := by
  obtain ⟨e, he, hq⟩ := h
  rw [List.isEmpty_iff, List.filter_eq_nil_iff]
  exact fun hno => hno e he (beq_iff_eq.mpr hq)

theorem matchF_held {f : Int} {q : Second} {s : State} (h : ∀ e ∈ s.mdm.list, 0 < signedDiff q e.second) :
    matchF f q s = s.setMdm { s.mdm with heldF := some ⟨f, q, 8⟩ } := by
  have hno : ∀ e ∈ s.mdm.list, e.second ≠ q := by
    rintro e he rfl
    have := h e he
    simp [signedDiff] at this
  refine (if_pos (hits_empty hno)).trans (if_pos ?_)
  rw [List.all_eq_true]
  exact fun e he => decide_eq_true (h e he)

theorem matchF_unmatched {f : Int} {q : Second} {s : State} (hno : ∀ e ∈ s.mdm.list, e.second ≠ q)
    (h : ∃ e ∈ s.mdm.list, signedDiff q e.second ≤ 0) :
    matchF f q s = s.setMdm { s.mdm with unmatched := bump s.mdm.unmatched } := by
  refine (if_pos (hits_empty hno)).trans (if_neg ?_)
  rw [List.all_eq_true]
  obtain ⟨e, he, hle⟩ := h
  exact fun hall => absurd (of_decide_eq_true (hall e he)) (by omega)

theorem matchF_hits {f : Int} {q : Second} {s : State} (h : ∃ e ∈ s.mdm.list, e.second = q) : matchF f q s
    = resolveAll f (s.mdm.list.filter (fun e => e.second == q)) (s.setMdm { s.mdm with list := s.mdm.list.map (giveEarly q f) }) :=
  if_neg (hits_some h)

theorem resolveAll_none {f : Int} {es : List PendingEntry} (h : ∀ e ∈ es, e.magnitude = none) (s : State) : resolveAll f es s = s := by
  rw [resolveAll_eq_foldl]
  induction es generalizing s with
  | nil => rfl
  | cons e es ih =>
    have hone : resolveOne f s e = s := by
      unfold resolveOne
      rw [h e List.mem_cons_self]
    rw [List.foldl_cons, hone]
    exact ih (fun x hx => h x (List.mem_cons_of_mem e hx)) s

theorem matchF_early {f : Int} {q : Second} {s : State} (h : ∃ e ∈ s.mdm.list, e.second = q)
    (hnone : ∀ e ∈ s.mdm.list, e.second = q → e.magnitude = none) : matchF f q s = s.setMdm { s.mdm with
      list := s.mdm.list.map (fun e => if e.second = q then { e with earlyF := some f } else e) } := by
  rw [matchF_hits h, resolveAll_none]
  · refine congrArg (fun l => s.setMdm { s.mdm with list := l }) (List.map_congr_left fun e he => ?_)
    unfold giveEarly
    by_cases hq : e.second = q
    · rw [if_pos hq, if_pos ⟨hq, by rw [hnone e he hq]; rfl⟩]
    · rw [if_neg hq, if_neg (fun h => hq h.1)]
  · intro e he
    obtain ⟨hin, hq⟩ := List.mem_filter.mp he
    exact hnone e hin (beq_iff_eq.mp hq)

theorem matchF_resolves {f : Int} {q : Second} {s : State} (h : ∃ e ∈ s.mdm.list, e.second = q)
    (hsome : ∀ e ∈ s.mdm.list, e.second = q → e.magnitude ≠ none) :
    matchF f q s = resolveAll f (s.mdm.list.filter (fun e => e.second == q)) s := by
  have hlist : s.mdm.list.map (giveEarly q f) = s.mdm.list := by
    refine (List.map_congr_left fun e he => ?_).trans (List.map_id _)
    unfold giveEarly
    refine if_neg ?_
    rintro ⟨hq, hnone⟩
    exact hsome e he hq (Option.isNone_iff_eq_none.mp hnone)
  rw [matchF_hits h, hlist]
  rfl

/-- With distinct sequences, the entries resolved are those of the second. -/
theorem filter_hits {q : Second} {es : List PendingEntry} (hnodup : (es.map PendingEntry.sequence).Nodup) :
    es.filter (fun x : PendingEntry => decide (∀ e ∈ es.filter (fun e : PendingEntry => e.second == q), x.sequence ≠ e.sequence))
      = es.filter (fun e => decide (e.second ≠ q)) := by
  refine List.filter_congr fun x hx => ?_
  rw [Bool.eq_iff_iff, decide_eq_true_iff, decide_eq_true_iff]
  constructor
  · intro h hq
    exact h x (List.mem_filter.mpr ⟨hx, beq_iff_eq.mpr hq⟩) rfl
  · intro hq e he hseq
    obtain ⟨hin, heq⟩ := List.mem_filter.mp he
    obtain rfl := List.inj_on_of_nodup_map hnodup hx hin hseq
    exact hq (beq_iff_eq.mp heq)

/-! ## The own F in the ring (R179) -/

theorem storeOwnF_writes {f : FValue} {rs : RS} (h : ∃ r ∈ rs.seconds, r.epoch = f.epoch ∧ r.second = f.second) :
    storeOwnF f rs = writeOwnF f rs := by
  refine if_pos ?_
  unfold ringHolds
  rw [List.any_eq_true]
  obtain ⟨r, hr, hep, hsec⟩ := h
  exact ⟨r, hr, by simp [hep, hsec]⟩

theorem ringHolds_false {ep : Epoch} {q : Second} {rs : RS} (h : ∀ r ∈ rs.seconds, ¬ (r.epoch = ep ∧ r.second = q)) :
    ¬ (ringHolds ep q rs = true) := by
  unfold ringHolds
  rw [List.any_eq_true]
  rintro ⟨r, hr, hkey⟩
  exact h r hr (by simpa using hkey)

theorem newestOfEpoch_none {ep : Epoch} {rs : RS} (h : ∀ r ∈ rs.seconds, r.epoch ≠ ep) : newestOfEpoch ep rs = none := by
  unfold newestOfEpoch
  rw [List.find?_eq_none.mpr]
  · rfl
  · intro r hr
    simpa using h r (List.mem_reverse.mp hr)

theorem newestOfEpoch_some {ep : Epoch} {rs : RS} {before after : List SecondRecord} {newest : SecondRecord}
    (hrs : rs.seconds = before ++ newest :: after) (hep : newest.epoch = ep) (hlater : ∀ r ∈ after, r.epoch ≠ ep) :
    newestOfEpoch ep rs = some newest.second := by
  have hnone : after.reverse.find? (fun r => r.epoch == ep) = none := by
    rw [List.find?_eq_none]
    intro r hr
    simpa using hlater r (List.mem_reverse.mp hr)
  have hnewest : (newest.epoch == ep) = true := beq_iff_eq.mpr hep
  unfold newestOfEpoch
  rw [hrs, List.reverse_append, List.reverse_cons, List.append_assoc, List.find?_append, hnone, Option.none_or,
    List.singleton_append,
    List.find?_cons_of_pos (p := fun r : SecondRecord => r.epoch == ep) hnewest]
  rfl

/-! ## A root that finds an early F -/

theorem deliverRoot_of_early {s : State} {e : PendingEntry} {f : Int} (v : Int) (hlist : s.mdm.list = [e])
    (hroot : s.mdm.root = some e.sequence) (hearly : e.earlyF = some f) : deliverRoot v s
      = resolve { e with magnitude := some v } v f (s.setMdm { s.mdm with root := none, list := [{ e with magnitude := some v }] }) := by
  have hgone : ∀ x ∈ (resolve { e with magnitude := some v } v f
      (s.setMdm { s.mdm with root := none, list := [{ e with magnitude := some v }] })).mdm.list, x.magnitude ≠ none := by
    rw [resolve_mdm]
    intro x hx
    obtain ⟨hin, hseq⟩ := List.mem_filter.mp hx
    rw [List.mem_singleton.mp hin] at hseq
    simp at hseq
  refine Eq.trans ?_ (placeRoot_of_all_present hgone)
  simp [deliverRoot, hroot, hlist, hearly, State.setMdm]

/-- Settles O48. -/
theorem takenFMatched : Obligations.TakenFMatched := by
  unfold Obligations.TakenFMatched
  refine ⟨fun f q s => ⟨takeF_rejected, fun hlo hhi hall => (takeF_taken hlo hhi).trans (matchF_held hall),
    fun hlo hhi hno hex => (takeF_taken hlo hhi).trans (matchF_unmatched hno hex),
    fun hlo hhi hex hnone => (takeF_taken hlo hhi).trans (matchF_early hex hnone), fun hlo hhi hex hsome hnodup => ?_⟩,
    fun f rs => ⟨storeOwnF_writes, fun hno => ?_, fun before newest after hrs hep hafter hfree => ⟨fun hlater => ?_, fun hearlier => ?_⟩⟩,
    fun s x left e f hon hcurrent hlist hroot hearly => ?_⟩
  · have htakes := (takeF_taken hlo hhi (q := q) (s := s)).trans (matchF_resolves hex hsome)
    have hhits : ∀ e ∈ s.mdm.list.filter (fun e => e.second == q), e.magnitude ≠ none := by
      intro e he
      obtain ⟨hin, hq⟩ := List.mem_filter.mp he
      exact hsome e hin (beq_iff_eq.mp hq)
    obtain ⟨hlist, hlatest, hheld⟩ := resolveAll_mdm (f := f) hhits (s.setMdm { s.mdm with latestF := some ⟨f, q, s.mdm.source⟩ })
    refine ⟨_, htakes, hlist.trans (filter_hits hnodup), hlatest, hheld, fun e he => ?_, fun e he m hq hm r hr hseq => ?_, ?_⟩
    · have hone : s.mdm.list.filter (fun e => e.second == q) = [e] := he
      have hmem : e ∈ s.mdm.list.filter (fun e => e.second == q) := by
        rw [hone]
        exact List.mem_cons_self
      obtain ⟨m, hm⟩ := Option.ne_none_iff_exists'.mp (hhits e hmem)
      rw [State.setMdm_mdm, hone, resolveAll_eq_foldl, List.foldl_cons, List.foldl_nil, resolveOne, hm]
      exact congrArg MDM.matched (resolve_mdm ..)
    · have hmem : e ∈ s.mdm.list.filter (fun e => e.second == q) := List.mem_filter.mpr ⟨he, beq_iff_eq.mpr hq⟩
      rw [resolveAll_eq_foldl] at hr
      obtain ⟨u, rfl⟩ := foldl_writes (seq := PendingEntry.sequence) (resolveOne_seconds f) (resolvedRecord_sequence f)
        (hnodup.sublist (List.filter_sublist.map _)) hmem _ r hr hseq
      unfold resolvedRecord
      rw [hm]
      exact ⟨rfl, rfl, rfl, rfl, rfl⟩
    · exact resolveAll_frame_eq ..
  · refine (if_neg (ringHolds_false fun r hr hkey => hno r hr hkey.1)).trans ?_
    rw [newestOfEpoch_none hno]
  · refine (if_neg (ringHolds_false hfree)).trans ?_
    rw [newestOfEpoch_some hrs hep hafter]
    exact if_pos (decide_eq_true hlater)
  · refine (if_neg (ringHolds_false hfree)).trans ?_
    rw [newestOfEpoch_some hrs hep hafter]
    exact if_neg (fun h => absurd (of_decide_eq_true h) (by omega))
  · rw [exec_rootComplete hon hcurrent, deliverRoot_of_early _ (s := s.setDru (beginNext s.dru)) hlist hroot hearly]
    refine ⟨_, rfl, ?_, congrArg MDM.matched (resolve_mdm ..), fun r hr hseq => ?_, ?_⟩
    · rw [resolve_mdm]
      simp
    · unfold resolve at hr
      rw [finalize_seconds] at hr
      obtain ⟨u, -, rfl⟩ := List.mem_map.mp hr
      split at hseq
      next hu =>
        rw [if_pos hu]
        exact ⟨rfl, rfl, rfl, rfl, rfl⟩
      next hu => exact absurd hseq hu
    · rw [State.eq_iff]
      simp

/-! ## The mark at MDM (O49) -/

/-- The source evaluated at a mark, and the held F a change of source discards (R154). -/
theorem reevaluateSource_eq {s : State} {source : Source} (hfixed : automaticMode s.sul.image s.sul.stationId = false → source = s.mdm.source)
    (hauto : automaticMode s.sul.image s.sul.stationId = true → source = automaticSource s.pt) : reevaluateSource s
      = s.setMdm { s.mdm with source := source, heldF := if source = s.mdm.source then s.mdm.heldF else none } := by
  unfold reevaluateSource
  split
  next h =>
    rw [← hauto h]
    dsimp only
    split
    next hsame =>
      rw [hsame]
      rfl
    · rfl
  next h =>
    rw [hfixed (Bool.not_eq_true _ ▸ h), if_pos rfl]
    rfl

theorem ageHeld_eq (h : Option HeldF) :
    ageHeld h = h.bind (fun h => if h.marks ≤ 1 then none else some { h with marks := h.marks - 1 }) := by
  cases h <;> rfl

/-- An entry after a mark (R158). -/
def agedEntry (e : PendingEntry) : PendingEntry :=
  { e with marks := e.marks - 1 }

/-- The entries whose last mark this is, with no mark left. -/
def expiredEntries (m : MDM) : List PendingEntry :=
  (m.list.map agedEntry).filter (fun e => e.marks == 0)

theorem kept_entries (es : List PendingEntry) : (es.map agedEntry).filter (fun e => e.marks != 0)
    = (es.filter (fun e => decide (2 ≤ e.marks))).map agedEntry := by
  rw [List.filter_map]
  refine congrArg (List.map agedEntry) (List.filter_congr fun e _ => ?_)
  rw [Bool.eq_iff_iff]
  simp only [Function.comp_apply, agedEntry, bne_iff_ne, decide_eq_true_iff]
  omega

theorem expireEntries_eq (s : State) : expireEntries s = finalizeAll .noF (expiredEntries s.mdm) (s.setMdm { s.mdm with
    list := (s.mdm.list.filter (fun e => decide (2 ≤ e.marks))).map agedEntry
    expired := addSat s.mdm.expired (expiredEntries s.mdm).length }) := by
  rw [← kept_entries]
  rfl

theorem expiredEntries_none {m : MDM} (h : ∀ e ∈ m.list, 2 ≤ e.marks) : expiredEntries m = [] := by
  unfold expiredEntries
  rw [List.filter_eq_nil_iff]
  intro e he
  obtain ⟨x, hx, rfl⟩ := List.mem_map.mp he
  have := h x hx
  simp only [agedEntry, beq_iff_eq]
  omega

theorem addSat_zero {c : Nat} (h : c ≤ 65535) : addSat c 0 = c := by
  unfold addSat
  split <;> omega

/-- A mark that is no entry's last. -/
theorem expireEntries_none {s : State} (h : ∀ e ∈ s.mdm.list, 2 ≤ e.marks) (hcount : s.mdm.expired ≤ 65535) :
    expireEntries s = s.setMdm { s.mdm with list := s.mdm.list.map agedEntry } := by
  have hall : s.mdm.list.filter (fun e => decide (2 ≤ e.marks)) = s.mdm.list := by
    rw [List.filter_eq_self]
    exact fun e he => decide_eq_true (h e he)
  rw [expireEntries_eq, expiredEntries_none h, hall, List.length_nil, addSat_zero hcount]
  rfl

theorem finalizeAll_records {reason : DeltaFReason} {es : List PendingEntry} (hnodup : (es.map PendingEntry.sequence).Nodup) (s : State)
    {e : PendingEntry} (he : e ∈ es) {r : SecondRecord} (hr : r ∈ (finalizeAll reason es s).rs.seconds) (hseq : r.sequence = e.sequence) :
    r.final = true ∧ r.magnitude = e.magnitude ∧ r.f = none ∧ r.deltaF = none ∧ r.reason = some reason := by
  obtain ⟨u, rfl⟩ := foldl_writes (F := fun s e => finalizeAbsent reason e s) (seq := PendingEntry.sequence)
    (w := fun e => finalRecord e.magnitude none none reason) (fun s e => finalize_seconds ..) (fun _ _ => rfl) hnodup he s r hr hseq
  exact ⟨rfl, rfl, rfl, rfl, rfl⟩

theorem finalizeAll_last (reason : DeltaFReason) (es : List PendingEntry) (ns : List MarkNotice) (m : MDM) (s : State) :
    finalizeAll reason es { s with notices := ns, mdm := m } = { s with
      notices := ns
      mdm := (finalizeAll reason es { s with notices := ns, mdm := m }).mdm
      rs := (finalizeAll reason es { s with notices := ns, mdm := m }).rs
      bw := (finalizeAll reason es { s with notices := ns, mdm := m }).bw
      dru := (finalizeAll reason es { s with notices := ns, mdm := m }).dru } := by
  rw [State.eq_iff]
  simp

/-- MDM's mark with the source it chooses. -/
theorem markMdm_eq {s : State} {source : Source} (hfixed : automaticMode s.sul.image s.sul.stationId = false → source = s.mdm.source)
    (hauto : automaticMode s.sul.image s.sul.stationId = true → source = automaticSource s.pt) : markMdm s
      = expireEntries (s.setMdm { s.mdm with
        source := source
        heldF := ageHeld (if source = s.mdm.source then s.mdm.heldF else none) }) := by
  unfold markMdm
  rw [reevaluateSource_eq hfixed hauto]
  rfl

/-- Settles O49. -/
theorem pendingEntriesExpire : Obligations.PendingEntriesExpire := by
  unfold Obligations.PendingEntriesExpire
  intro s source hon hfixed hauto hnodup
  have hmark : ∀ u : State, u.sul = s.sul → u.pt = s.pt → u.mdm = s.mdm → markMdm u = expireEntries (u.setMdm { s.mdm with
      source := source
      heldF := ageHeld (if source = s.mdm.source then s.mdm.heldF else none) }) := by
    intro u hsul hpt hmdm
    rw [← hsul, ← hmdm] at hfixed
    rw [← hsul, ← hpt] at hauto
    rw [markMdm_eq hfixed hauto, hmdm]
  have hexpires : (∃ e ∈ s.mdm.list, e.marks ≤ 1) → expiryNext s.mdm = true := by
    rintro ⟨e, he, hlast⟩
    exact List.any_eq_true.mpr ⟨e, he, decide_eq_true hlast⟩
  refine ⟨fun hlast => ?_, fun hcount => ⟨tbMark s, next_on hon (marksSecond_nil hcount), fun hlast => ?_, fun hfar hroom => next_on hon ?_⟩,
    fun h hheld hlapses hempty hroom => ?_⟩
  · obtain ⟨m, hlist, hsource, htakes⟩ : ∃ m : MDM, m.list = (s.mdm.list.filter (fun e => decide (2 ≤ e.marks))).map agedEntry
        ∧ m.source = source ∧ takeOwnMark .mdm s
          = finalizeAll .noF (expiredEntries s.mdm) { s with notices := dropNotice .mdm s.notices, mdm := m } := by
      refine ⟨_, ?_, ?_, (takeOwnMark_eq ..).trans ((hmark { s with notices := dropNotice .mdm s.notices } rfl rfl rfl).trans
        (expireEntries_eq _))⟩ <;> rfl
    refine ⟨_, ownMark_runs .mdm (due := fun s => expiryNext s.mdm) hon (hexpires hlast), ?_⟩
    rw [htakes]
    have hkeeps : (finalizeAll .noF (expiredEntries s.mdm) { s with notices := dropNotice .mdm s.notices, mdm := m }).mdm = m := by simp
    refine ⟨(congrArg MDM.list hkeeps).trans hlist, (congrArg MDM.source hkeeps).trans hsource, fun e he hone r hr hseq => ?_, finalizeAll_last ..⟩
    have hgone : agedEntry e ∈ expiredEntries s.mdm := by
      refine List.mem_filter.mpr ⟨List.mem_map.mpr ⟨e, he, rfl⟩, ?_⟩
      simp only [agedEntry, beq_iff_eq]
      omega
    have hsequences : ((expiredEntries s.mdm).map PendingEntry.sequence).Nodup := by
      refine List.Nodup.sublist (List.filter_sublist.map _) ?_
      rw [List.map_map]
      exact hnodup
    exact finalizeAll_records hsequences _ hgone hr hseq
  · exact (next_on hon (marksSecond_own .mdm hcount)).trans
      (ownMark_runs .mdm (due := fun s => expiryNext s.mdm) (s := tbMark s) hon (hexpires hlast)).symm
  · rw [marksSecond_own .mdm hcount, takeOwnMark_eq]
    refine (hmark { tbMark s with notices := dropNotice .mdm (tbMark s).notices } rfl rfl rfl).trans ?_
    refine Eq.trans (expireEntries_none ?_ ?_) ?_
    · exact hfar
    · exact hroom
    · rw [ageHeld_eq]
      split <;> rfl
  · have hdue : lapseNext s.mdm = true := by
      unfold lapseNext
      rw [hheld]
      exact decide_eq_true hlapses
    have hgone : ageHeld (if source = s.mdm.source then s.mdm.heldF else none) = none := by
      rw [hheld]
      split
      · exact if_pos hlapses
      · rfl
    have hfar : ∀ e ∈ s.mdm.list, 2 ≤ e.marks := by
      rw [hempty]
      exact fun e he => by cases he
    refine (ownMark_runs .mdm (due := fun s => lapseNext s.mdm) hon hdue).trans (congrArg _ ?_)
    rw [takeOwnMark_eq]
    refine (hmark { s with notices := dropNotice .mdm s.notices } rfl rfl rfl).trans ?_
    rw [hgone]
    refine Eq.trans (expireEntries_none ?_ ?_) ?_
    · exact hfar
    · exact hroom
    rw [State.setMdm_mdm, hempty]
    exact congrArg (fun l => { s with notices := dropNotice .mdm s.notices, mdm := { s.mdm with list := l, source := source, heldF := none } })
      hempty.symm

end Sys2Proof.Machine
end

section
/-! PROOF. What the divisions deliver (O45). -/

namespace Sys2Proof.Machine

/-! ## What a consequence leaves of the DRU -/

/-- Requests may join the queue or begin on an idle unit; the fault counter and the request in progress stand. -/
def DruQueues (s t : State) : Prop :=
  t.dru.divideFault = s.dru.divideFault ∧ ∀ r, s.dru.current = some r → t.dru.current = some r

theorem DruQueues.of_eq {s t : State} (h : t.dru = s.dru) : DruQueues s t := by
  unfold DruQueues
  rw [h]
  exact ⟨rfl, fun _ hr => hr⟩

theorem DruQueues.trans {s t u : State} (h : DruQueues s t) (k : DruQueues t u) : DruQueues s u := by
  obtain ⟨hfault, hcurrent⟩ := h
  obtain ⟨hfault', hcurrent'⟩ := k
  exact ⟨hfault'.trans hfault, fun r hr => hcurrent' r (hcurrent r hr)⟩

theorem DruQueues.foldl {α : Type} {f : State → α → State} (h : ∀ s a, DruQueues s (f s a)) (l : List α) (s : State) :
    DruQueues s (l.foldl f s) := by
  induction l generalizing s with
  | nil => exact .of_eq rfl
  | cons a l ih => exact (h s a).trans (ih (f s a))

theorem place_queues (c : Client) (op : Operation) (s : State) : DruQueues s (place c op s) := by
  unfold DruQueues place placeDru
  rw [State.setDru_dru]
  split
  next hidle =>
    refine ⟨rfl, fun r hr => ?_⟩
    rw [hr] at hidle
    cases hidle
  next => exact ⟨rfl, fun r hr => hr⟩

theorem testHeads_queues (k : Nat) (s : State) : DruQueues s (testHeads k s) := by
  induction k generalizing s with
  | zero => exact .of_eq rfl
  | succ k ih =>
    unfold testHeads
    split
    · exact .of_eq rfl
    · split
      · exact .of_eq rfl
      · dsimp only
        split
        · split
          · exact ih (s.setRs _)
          · exact place_queues _ _ (s.setRs _)
        · exact .of_eq rfl

theorem finalize_queues (q : Sequence) (n : Second) (mag f df : Option Int) (reason : DeltaFReason) (s : State) :
    DruQueues s (finalize q n mag f df reason s) :=
  (DruQueues.of_eq (t := watchDeltaF df n (s.setRs (writeRecord q (finalRecord mag f df reason) s.rs))) (by simp)).trans
    (testHeads_queues _ _)

theorem placeRoot_queues (s : State) : DruQueues s (placeRoot s) := by
  unfold placeRoot
  split
  · exact .of_eq rfl
  · split
    · exact .of_eq rfl
    · exact place_queues _ _ (s.setMdm _)

theorem displaceOldest_queues (s : State) : DruQueues s (displaceOldest s) := by
  unfold displaceOldest
  split
  · split
    · exact .of_eq rfl
    · exact finalize_queues _ _ _ _ _ _ (s.setMdm _)
  · exact .of_eq rfl

theorem matchRecord_queues (q : Sequence) (ep : Epoch) (n : Second) (v : Axes (Option Int)) (s : State) :
    DruQueues s (matchRecord q ep n v s) := by
  unfold matchRecord
  split
  · exact (displaceOldest_queues s).trans (placeRoot_queues ((displaceOldest s).setMdm _))
  · exact finalize_queues ..

theorem watchRecord_queues (fl : RecordFlags) (v : Axes (Option Int)) (q : Second) (s : State) : DruQueues s (watchRecord fl v q s) :=
  .of_eq (by simp)

theorem chainsEndedNotice_queues (c : ChainRecord) (s : State) : DruQueues s (chainsEndedNotice c s) := by
  unfold chainsEndedNotice
  refine DruQueues.trans ?_ (watchRecord_queues ..)
  refine DruQueues.trans ?_ (matchRecord_queues ..)
  exact .of_eq rfl

theorem settleChains_queues (s : State) : DruQueues s (settleChains s) := by
  have hreports : DruQueues s (giveReports s) :=
    DruQueues.foldl (fun s c => .of_eq (t := evaluateReport (reportOf c) s) (by simp)) _ (s.setRe _)
  exact hreports.trans (DruQueues.foldl (fun s c => chainsEndedNotice_queues c s) _ ((giveReports s).setRe _))

theorem startAxis_queues (a : Axis) (s : State) : DruQueues s (startAxis a s) := by
  unfold startAxis
  dsimp only
  split
  · exact place_queues _ _ (s.setRe _)
  · exact .of_eq rfl

theorem resolve_queues (e : PendingEntry) (m f : Int) (s : State) : DruQueues s (resolve e m f s) :=
  finalize_queues _ _ _ _ _ _ (s.setMdm _)

theorem takeF_queues (f : Int) (q : Second) (s : State) : DruQueues s (takeF f q s) := by
  unfold takeF matchF
  split
  · exact .of_eq rfl
  · dsimp only
    split
    · split <;> exact .of_eq rfl
    · rw [resolveAll_eq_foldl]
      refine DruQueues.trans (t := State.setMdm _ _) (.of_eq rfl) (DruQueues.foldl (fun s e => ?_) _ _)
      unfold resolveOne
      split
      · exact resolve_queues ..
      · exact .of_eq rfl

/-! ## SCALAR (R107) -/

/-- SCN once it has its F (R107). -/
def deliveredScn (f : Int) (m : Second × Epoch) (c : SCN) : SCN :=
  { c with
    latestF := some ⟨f, m.1, m.2⟩
    outcome := some .f
    fCount := bump c.fCount
    state := .wait }

/-- The node whose SCN has its F, with the DRU that goes on. -/
def scalarTaken (f : Int) (m : Second × Epoch) (d : DRU) (s : State) : State :=
  { s with scn := deliveredScn f m s.scn, dru := d }

theorem deliverScalar_f {f : Int} {m : Second × Epoch} {d : DRU} {s : State} (hst : s.scn.state = .compute) (hmid : s.scn.mid = some m) :
    deliverScalar (some f) (s.setDru d) = (takeOwnF f m.1 (scalarTaken f m d s)).setRs
      (storeOwnF ⟨f, m.1, m.2⟩ (takeOwnF f m.1 (scalarTaken f m d s)).rs) := by
  unfold deliverScalar
  rw [State.setDru_scn, hst, hmid]
  rfl

theorem takeOwnF_queues (f : Int) (q : Second) (s : State) : DruQueues s (takeOwnF f q s) := by
  unfold takeOwnF
  split
  · exact takeF_queues ..
  · exact .of_eq rfl

theorem takeOwnF_own {f : Int} {q : Second} {s : State} (h : s.mdm.source = .own) : takeOwnF f q s = takeF f q s :=
  if_pos h

theorem takeOwnF_other {f : Int} {q : Second} {s : State} (h : s.mdm.source ≠ .own) : takeOwnF f q s = s :=
  if_neg h

theorem beginNext_fault (d : DRU) : (beginNext d).divideFault = d.divideFault ∧ (beginNext d).queue = d.queue.drop 1 := by
  unfold beginNext
  split
  next h =>
    exact ⟨rfl, by rw [h]; rfl⟩
  next h =>
    rw [h]
    exact ⟨rfl, rfl⟩

/-! ## The axis chains (R139 to R141, R146) -/

theorem activeRecord_ended {a : Axis} {c : ChainRecord} {cs : List ChainRecord} (h : axisGet c.steps a = .ended) :
    activeRecord a (c :: cs) = activeRecord a cs := by
  conv_lhs => unfold activeRecord
  rw [h]

theorem activeRecord_active {a : Axis} {c : ChainRecord} {cs : List ChainRecord} (h : axisGet c.steps a ≠ .ended) :
    activeRecord a (c :: cs) = some c := by
  unfold activeRecord
  split
  next hend => exact absurd hend h
  · rfl

theorem updateActive_ended {a : Axis} {f : ChainRecord → ChainRecord} {c : ChainRecord} {cs : List ChainRecord}
    (h : axisGet c.steps a = .ended) : updateActive a f (c :: cs) = c :: updateActive a f cs := by
  conv_lhs => unfold updateActive
  rw [h]

theorem updateActive_active {a : Axis} {f : ChainRecord → ChainRecord} {c : ChainRecord} {cs : List ChainRecord}
    (h : axisGet c.steps a ≠ .ended) : updateActive a f (c :: cs) = f c :: cs := by
  unfold updateActive
  split
  next hend => exact absurd hend h
  · rfl

theorem activeRecord_step {a : Axis} {cs : List ChainRecord} {c : ChainRecord} (h : activeRecord a cs = some c) :
    axisGet c.steps a ≠ .ended := by
  induction cs with
  | nil => cases h
  | cons x xs ih =>
    by_cases hx : axisGet x.steps a = .ended
    · rw [activeRecord_ended hx] at h
      exact ih h
    · rw [activeRecord_active hx] at h
      obtain rfl := Option.some.inj h
      exact hx

theorem activeRecord_updateActive {a : Axis} {f : ChainRecord → ChainRecord} {cs : List ChainRecord} {c : ChainRecord}
    (h : activeRecord a cs = some c) (hf : axisGet (f c).steps a ≠ .ended) : activeRecord a (updateActive a f cs) = some (f c) := by
  induction cs with
  | nil => cases h
  | cons x xs ih =>
    by_cases hx : axisGet x.steps a = .ended
    · rw [updateActive_ended hx, activeRecord_ended hx]
      rw [activeRecord_ended hx] at h
      exact ih h
    · rw [activeRecord_active hx] at h
      obtain rfl := Option.some.inj h
      rw [updateActive_active hx, activeRecord_active hf]

theorem dueReports_same (cs : List ChainRecord) :
    List.Forall₂ (fun c d : ChainRecord => ∃ b, d = { c with reported := b }) cs (dueReports cs).1 := by
  induction cs with
  | nil => exact .nil
  | cons c cs ih =>
    unfold dueReports
    split
    · exact .cons ⟨c.reported, rfl⟩ ih
    · split
      · exact .cons ⟨true, rfl⟩ ih
      · exact List.forall₂_same.mpr fun x _ => ⟨x.reported, rfl⟩

/-- The chain of an axis in progress survives the reports and the end of other records' chains. -/
theorem activeRecord_settled {a : Axis} {cs : List ChainRecord} {c : ChainRecord} (h : activeRecord a cs = some c) :
    ∃ b, activeRecord a ((dueReports cs).1.filter (fun c => !chainsEnded c)) = some { c with reported := b } := by
  have hsame := dueReports_same cs
  generalize (dueReports cs).1 = ds at hsame
  induction hsame with
  | nil => cases h
  | @cons x y xs ys hxy _ ih =>
    obtain ⟨b, rfl⟩ := hxy
    by_cases hx : axisGet x.steps a = .ended
    · rw [activeRecord_ended hx] at h
      rw [List.filter_cons]
      split
      · rw [activeRecord_ended (c := { x with reported := b }) hx]
        exact ih h
      · exact ih h
    · rw [activeRecord_active hx] at h
      obtain rfl := Option.some.inj h
      have hgoes : (!chainsEnded { x with reported := b }) = true := by
        rw [Bool.not_eq_true', Bool.eq_false_iff, ne_eq, chainsEnded, allAxes_iff]
        intro hall
        exact hx (beq_iff_eq.mp (hall a))
      rw [List.filter_cons, if_pos hgoes, activeRecord_active (c := { x with reported := b }) hx]
      exact ⟨b, rfl⟩

/-- What an axis client does with a result, step by step (R139 to R141, R146). -/
theorem deliverAxis_without {a : Axis} {c : ChainRecord} {s : State} (h : activeRecord a s.re.chain = some c)
    (hwaits : axisGet c.steps a ≠ .waiting) : deliverAxis a none s = settleChains (endWithout a c.sequence s) := by
  have hend := activeRecord_step h
  unfold deliverAxis
  rw [h]
  dsimp only
  cases hst : axisGet c.steps a with
  | waiting => exact absurd hst hwaits
  | ended => exact absurd hst hend
  | mean => rfl
  | scale m => rfl
  | offset m sc => rfl

theorem deliverAxis_scales {a : Axis} {c : ChainRecord} {s : State} {t m : Int} (h : activeRecord a s.re.chain = some c)
    (hst : axisGet c.steps a = .mean) (ht : c.tcorr = some t) : deliverAxis a (some m) s = settleChains (nextDivision a (.scale m)
      (.divide (m * axisGet s.sul.image.ks a * (t - s.sul.image.t0)) 100000000000) (s.setRe { s.re with
        chain := updateActive a (fun c => { c with means := axisSet c.means a (some m) }) s.re.chain })) := by
  unfold deliverAxis
  rw [h]
  dsimp only
  rw [hst, ht]
  rfl

theorem deliverAxis_plain {a : Axis} {c : ChainRecord} {s : State} {m : Int} (h : activeRecord a s.re.chain = some c)
    (hst : axisGet c.steps a = .mean) (ht : c.tcorr = none) : deliverAxis a (some m) s = settleChains (endWithValue a c.sequence m
      (s.setRe { s.re with chain := updateActive a (fun c => { c with means := axisSet c.means a (some m) }) s.re.chain })) := by
  unfold deliverAxis
  rw [h]
  dsimp only
  rw [hst, ht]

theorem deliverAxis_offsets {a : Axis} {c : ChainRecord} {s : State} {t m sc : Int} (h : activeRecord a s.re.chain = some c)
    (hst : axisGet c.steps a = .scale m) (ht : c.tcorr = some t) : deliverAxis a (some sc) s
      = nextDivision a (.offset m sc) (.divide (axisGet s.sul.image.ko a * (t - s.sul.image.t0)) 100) s := by
  unfold deliverAxis
  rw [h]
  dsimp only
  rw [hst, ht]

theorem deliverAxis_ends {a : Axis} {c : ChainRecord} {s : State} {m sc off : Int} (h : activeRecord a s.re.chain = some c)
    (hst : axisGet c.steps a = .offset m sc) :
    deliverAxis a (some off) s = settleChains (endWithValue a c.sequence (m - sc - off) s) := by
  unfold deliverAxis
  rw [h]
  dsimp only
  rw [hst]

/-- A record of the ring as it was before finalizations and own Fs. -/
theorem mem_settled {rs rs' : RS} (h : settledRecords rs' = settledRecords rs) {r : SecondRecord} (hr : r ∈ rs'.seconds) :
    ∃ u ∈ rs.seconds, settledPart u = settledPart r := by
  have hmem : settledPart r ∈ settledRecords rs := h ▸ List.mem_map.mpr ⟨r, hr, rfl⟩
  obtain ⟨u, hu, heq⟩ := List.mem_map.mp hmem
  exact ⟨u, hu, heq⟩

/-- What is written into a record when an axis chain ends stands in it once the chains have settled. -/
theorem settled_write {q : Sequence} {g : SecondRecord → SecondRecord} {p : SecondRecord → Prop} {s t : State}
    (ht : settledRecords t.rs = settledRecords (writeRecord q g s.rs)) (hp : ∀ u v, settledPart u = settledPart v → p u → p v)
    (hg : ∀ u, p (g u)) {r : SecondRecord} (hr : r ∈ t.rs.seconds) (hseq : r.sequence = q) : p r := by
  obtain ⟨u, hu, hpart⟩ := mem_settled ht hr
  obtain ⟨w, -, rfl⟩ := List.mem_map.mp hu
  refine hp _ r hpart ?_
  split
  · exact hg w
  next hne =>
    rw [if_neg hne] at hpart
    exact absurd ((congrArg SecondRecord.sequence hpart).trans hseq) hne

theorem settledPart_axes {u v : SecondRecord} (h : settledPart u = settledPart v) : u.axes = v.axes ∧ u.flags = v.flags :=
  ⟨show (settledPart u).axes = (settledPart v).axes by rw [h], show (settledPart u).flags = (settledPart v).flags by rw [h]⟩

theorem endWithValue_record {a : Axis} {q : Sequence} {v : Int} {s : State} {r : SecondRecord}
    (hr : r ∈ (settleChains (endWithValue a q v s)).rs.seconds) (hseq : r.sequence = q) :
    (axisGet r.axes a).value = some (max (-100000000) (min 100000000 v))
      ∧ (100000000 < v.natAbs → r.flags.range = true) := by
  have hrs : settledRecords (settleChains (endWithValue a q v s)).rs = settledRecords (writeRecord q (fun r => { r with
      axes := axisSet r.axes a { axisGet r.axes a with value := some (clampField v) }
      flags := { r.flags with range := r.flags.range || outOfRange v } }) s.rs) := by
    rw [settleChains_settled]
    unfold endWithValue
    dsimp only
    rw [startAxis_settled]
    rfl
  refine settled_write hrs (p := fun r => (axisGet r.axes a).value = some (max (-100000000) (min 100000000 v))
    ∧ (100000000 < v.natAbs → r.flags.range = true)) (fun u w huw hu => ?_) (fun u => ⟨?_, fun hbig => ?_⟩) hr hseq
  · obtain ⟨haxes, hflags⟩ := settledPart_axes huw
    rwa [← haxes, ← hflags]
  · dsimp only
    rw [axisGet_axisSet, if_pos rfl, clampField, clampInt_eq_max_min (by decide)]
  · have hout : outOfRange v = true := by
      unfold outOfRange
      rw [Bool.or_eq_true, decide_eq_true_iff, decide_eq_true_iff]
      omega
    exact (congrArg (u.flags.range || ·) hout).trans (Bool.or_true _)

theorem endWithout_record {a : Axis} {q : Sequence} {s : State} {r : SecondRecord}
    (hr : r ∈ (settleChains (endWithout a q s)).rs.seconds) (hseq : r.sequence = q) :
    (axisGet r.axes a).value = none ∧ r.flags.arith = true := by
  have hrs : settledRecords (settleChains (endWithout a q s)).rs = settledRecords (writeRecord q (fun r => { r with
      axes := axisSet r.axes a { axisGet r.axes a with value := none }
      flags := { r.flags with arith := true } }) s.rs) := by
    rw [settleChains_settled]
    unfold endWithout
    dsimp only
    rw [startAxis_settled]
    rfl
  refine settled_write hrs (p := fun r => (axisGet r.axes a).value = none ∧ r.flags.arith = true)
    (fun u w huw hu => ?_) (fun u => ⟨?_, rfl⟩) hr hseq
  · obtain ⟨haxes, hflags⟩ := settledPart_axes huw
    rwa [← haxes, ← hflags]
  · dsimp only
    rw [axisGet_axisSet, if_pos rfl]

theorem endWithout_queues (a : Axis) (q : Sequence) (s : State) : DruQueues s (endWithout a q s) := by
  unfold endWithout
  refine DruQueues.trans ?_ (startAxis_queues ..)
  exact .of_eq rfl

/-- The request an axis places with an idle DRU is in progress at once. -/
theorem nextDivision_current {a : Axis} {step : ChainStep} {op : Operation} {s : State} (hc : s.dru.current = none)
    (hq : s.dru.queue = []) : (nextDivision a step op s).dru.current = some ⟨⟨.axis a, op⟩, opPeriods op⟩ := by
  unfold nextDivision
  rw [place_idle]
  · exact hc
  · exact hq

theorem nextDivision_chain (a : Axis) (step : ChainStep) (op : Operation) (s : State) : (nextDivision a step op s).re.chain
    = updateActive a (fun c => { c with steps := axisSet c.steps a step }) s.re.chain := by
  simp [nextDivision]

/-- Settles O45. -/
theorem divisionDelivered : Obligations.DivisionDelivered := by
  unfold Obligations.DivisionDelivered
  intro s a d left hon
  refine ⟨fun m hcurrent hd hst hmid => ?_, fun ax c tc hcurrent hqueue hactive htc hd => ⟨fun hmean => ?_, fun m hscale => ?_⟩,
    fun ax c hcurrent hactive hwaits hend hd => ?_, fun ax c m sc hcurrent hactive hoffset hd => ?_,
    fun ax c hcurrent hactive hmean htc hd => ?_⟩
  · obtain ⟨hfault, hqueue⟩ := beginNext_fault s.dru
    rw [exec_divideComplete hon hd hcurrent]
    have hscn : ((takeOwnF (roundDiv a d) m.1 (scalarTaken (roundDiv a d) m (beginNext s.dru) s)).setRs (storeOwnF ⟨roundDiv a d, m.1, m.2⟩
        (takeOwnF (roundDiv a d) m.1 (scalarTaken (roundDiv a d) m (beginNext s.dru) s)).rs)).scn = deliveredScn (roundDiv a d) m s.scn := by
      simp [scalarTaken]
    refine ⟨_, congrArg _ (deliverScalar_f hst hmid), hscn, ?_, fun hsource hnone => ⟨scalarTaken (roundDiv a d) m (beginNext s.dru) s,
      takeF (roundDiv a d) m.1 (scalarTaken (roundDiv a d) m (beginNext s.dru) s), ?_, rfl, ?_⟩, fun hsource => ?_⟩
    · exact (takeOwnF_queues _ _ (scalarTaken _ m _ s)).1.trans hfault
    · rw [hscn, ← beginNext_of_queue_nil hnone]
      rfl
    · rw [takeOwnF_own (s := scalarTaken _ m _ s) hsource]
      rfl
    · rw [takeOwnF_other (s := scalarTaken _ m _ s) hsource]
      exact ⟨rfl, hqueue, rfl⟩
  · rw [exec_divideComplete_idle hon hd hcurrent hqueue]
    have hmeans := activeRecord_updateActive (f := fun c => { c with means := axisSet c.means ax (some (roundDiv a d)) }) hactive
      (show axisGet c.steps ax ≠ .ended from activeRecord_step hactive)
    have hscaled := activeRecord_updateActive (f := fun c => { c with steps := axisSet c.steps ax (.scale (roundDiv a d)) }) hmeans
      (by rw [axisGet_axisSet, if_pos rfl]; exact ChainStep.noConfusion)
    obtain ⟨b, hsettled⟩ := activeRecord_settled hscaled
    refine ⟨_, { c with
        means := axisSet c.means ax (some (roundDiv a d))
        steps := axisSet c.steps ax (.scale (roundDiv a d))
        reported := b },
      congrArg _ (deliverAxis_scales (s := { s with dru := { s.dru with current := none } }) hactive hmean htc), ?_, rfl, ?_, ?_, ?_⟩
    · rw [(settleChains_chain _).1, nextDivision_chain]
      exact hsettled
    · exact (axisGet_axisSet ..).trans (if_pos rfl)
    · exact (axisGet_axisSet ..).trans (if_pos rfl)
    · exact (settleChains_queues _).2 _ (nextDivision_current rfl hqueue)
  · rw [exec_divideComplete_idle hon hd hcurrent hqueue]
    have hoffset := activeRecord_updateActive (f := fun c => { c with steps := axisSet c.steps ax (.offset m (roundDiv a d)) }) hactive
      (by rw [axisGet_axisSet, if_pos rfl]; exact ChainStep.noConfusion)
    refine ⟨_, _, congrArg _ (deliverAxis_offsets (s := { s with dru := { s.dru with current := none } }) hactive hscale htc), hoffset, rfl,
      ?_, nextDivision_current rfl hqueue⟩
    exact (axisGet_axisSet ..).trans (if_pos rfl)
  · have hends : divideEnds s = deliverAxis ax none (s.setDru { beginNext s.dru with divideFault := bump s.dru.divideFault }) := by
      unfold divideEnds
      rw [hcurrent]
      dsimp only
      rw [quotient, if_pos hd, countFault, if_pos hd, (beginNext_fault s.dru).1]
      rfl
    refine ⟨_, next_on hon (hends.trans (deliverAxis_without (s := s.setDru _) hactive hwaits)), ?_, fun r hr hseq => endWithout_record hr hseq⟩
    exact ((endWithout_queues ..).trans (settleChains_queues _)).1
  · rw [exec_divideComplete hon hd hcurrent]
    refine ⟨_, congrArg _ (deliverAxis_ends (s := s.setDru (beginNext s.dru)) hactive hoffset), fun r hr hseq => endWithValue_record hr hseq⟩
  · rw [exec_divideComplete hon hd hcurrent]
    exact ⟨_, congrArg _ (deliverAxis_plain (s := s.setDru (beginNext s.dru)) hactive hmean htc),
      fun r hr hseq => (endWithValue_record hr hseq).1⟩

end Sys2Proof.Machine
end

section
/-! PROOF. A step or a relabel of the clock with all it brings (R36 to R38, R63, R134, R135). -/

namespace Sys2Proof.Machine

/-! ## The clock -/

theorem clock_carry (q : BitVec 32) (k x : Int) (hx : 0 ≤ x) (hlt : x < 10000000) :
    ((q.toNat : Int) * 10000000 + (k * 10000000 + x)) % (4294967296 * 10000000)
      = ((q + BitVec.ofInt 32 k).toNat : Int) * 10000000 + x := by
  rw [BitVec.toNat_add, BitVec.toNat_ofInt]
  omega

theorem fmod_add_fdiv_seconds (n : Int) : n = Int.fdiv n 10000000 * 10000000 + Int.fmod n 10000000 := by
  have h := Int.fmod_add_mul_fdiv n 10000000
  omega

theorem stepTb_clock {theta : Int} {t : TB} (htheta : theta.natAbs < 1000000000) (ht : t.tick < 10000000) :
    ((t.second.toNat : Int) * 10000000 + t.tick + ticksOf theta) % (4294967296 * 10000000)
      = ((stepTb theta t).second.toNat : Int) * 10000000 + (stepTb theta t).tick := by
  have hticks : (ticksOf theta).natAbs ≤ 10000000 := by
    unfold ticksOf
    rw [roundDiv_natAbs]
    split <;> omega
  have hsecond := clock_carry t.second
  unfold stepTb
  dsimp only
  split
  next h =>
    have hcarry := hsecond 1 (t.tick + ticksOf theta - 10000000) (by omega) (by omega)
    have hone : (BitVec.ofInt 32 1) = 1 := by decide
    rw [hone] at hcarry
    dsimp only
    omega
  · split
    next h =>
      have hcarry := hsecond (-1) (t.tick + ticksOf theta + 10000000) (by omega) (by omega)
      have hone : BitVec.ofInt 32 (-1) = -1 := by decide
      rw [hone, ← BitVec.sub_eq_add_neg] at hcarry
      dsimp only
      omega
    · have hcarry := hsecond 0 (t.tick + ticksOf theta) (by omega) (by omega)
      have hzero : t.second + BitVec.ofInt 32 0 = t.second := BitVec.add_zero _
      rw [hzero] at hcarry
      dsimp only
      omega

theorem relabelTb_clock (theta : Int) (t : TB) :
    ((t.second.toNat : Int) * 10000000 + t.tick + ticksOf theta) % (4294967296 * 10000000)
      = ((relabelTb theta t).second.toNat : Int) * 10000000 + (relabelTb theta t).tick := by
  have hmod := Int.fmod_lt_of_pos ((t.tick : Int) + ticksOf theta) (b := 10000000) (by decide)
  have hnonneg := Int.fmod_nonneg_of_pos ((t.tick : Int) + ticksOf theta) (b := 10000000) (by decide)
  have hcarry := clock_carry t.second (Int.fdiv ((t.tick : Int) + ticksOf theta) 10000000) _ hnonneg hmod
  rw [← fmod_add_fdiv_seconds, ← Int.add_assoc] at hcarry
  rw [hcarry]
  change _ = _ + (((Int.fmod ((t.tick : Int) + ticksOf theta) 10000000).toNat : Nat) : Int)
  rw [Int.toNat_of_nonneg hnonneg]
  rfl

/-- The clock a move by θ leaves (R36, R37). -/
theorem movedTb_clock {b : Bool} {theta : Int} {t : TB} (hb : b = false → theta.natAbs < 1000000000) (ht : t.tick < 10000000) :
    (movedTb b theta t).tick < 10000000
      ∧ ((t.second.toNat : Int) * 10000000 + t.tick + roundDiv theta 100) % (4294967296 * 10000000)
          = ((movedTb b theta t).second.toNat : Int) * 10000000 + (movedTb b theta t).tick := by
  cases b with
  | true => exact ⟨relabelTb_tick theta t, relabelTb_clock theta t⟩
  | false => exact ⟨stepTb_tick (hb rfl) ht, stepTb_clock (hb rfl) ht⟩

theorem stepTb_schedule (theta : Int) (t : TB) : (stepTb theta t).schedule = none ∧ (stepTb theta t).epoch = t.epoch := by
  unfold stepTb
  dsimp only
  repeat' split
  all_goals exact ⟨rfl, rfl⟩

theorem movedTb_keeps (b : Bool) (theta : Int) (t : TB) :
    (movedTb b theta t).epoch = (if b then t.epoch + 1 else t.epoch) ∧ (movedTb b theta t).slew = some 0
      ∧ (movedTb b theta t).trim = t.trim ∧ (movedTb b theta t).schedule = none
      ∧ (movedTb b theta t).remainder = t.remainder := by
  cases b with
  | true => exact ⟨rfl, rfl, rfl, rfl, rfl⟩
  | false =>
    obtain ⟨htrim, -, hremainder, -⟩ := stepTb_frame theta t
    obtain ⟨hschedule, hepoch⟩ := stepTb_schedule theta t
    exact ⟨hepoch, rfl, htrim, hschedule, hremainder⟩

/-! ## RE's and SCN's part -/

/-- RE with the flag of a move set on its current second (R134, R135). -/
def flaggedRe (b : Bool) (re : RE) : RE :=
  { re with sticky := { re.sticky with step := re.sticky.step || !b, relabel := re.sticky.relabel || b } }

/-- A step that does not carry the clock past RE's second sets STEP on it and does no more (R134). -/
theorem moveNotice_stays {s : State} (h : signedDiff s.tb.second s.re.second ≤ 0) :
    moveNotice false s = s.setRe { s.re with sticky := { s.re.sticky with step := true } } := by
  have hlater : laterThan s.tb.second s.re.second = false := decide_eq_false (by omega)
  have hnot : ¬ laterThan s.tb.second s.re.second = true := by rw [hlater]; decide
  exact if_neg hnot

/-- A later step and every relabel leave RE's second (R134, R135). -/
theorem moveNotice_leaves {b : Bool} {s : State} (h : b = true ∨ 0 < signedDiff s.tb.second s.re.second) :
    moveNotice b s = changeSecond s.tb.second (if b then s.tb.epoch else s.re.epoch)
      { StickyFlags.clear with step := !b, relabel := b } (s.setRe (flaggedRe b s.re)) := by
  unfold flaggedRe
  cases b with
  | true =>
    rw [Bool.not_true, Bool.or_false, Bool.or_true]
    rfl
  | false =>
    have hlater : laterThan s.tb.second s.re.second = true := decide_eq_true (h.resolve_left (by decide))
    rw [Bool.not_false, Bool.or_false, Bool.or_true]
    exact if_pos hlater

theorem abortCycle_aborts {s : State} (h : s.scn.state = .polarize ∨ s.scn.state = .dead ∨ s.scn.state = .gate) :
    abortCycle s = endCycle .stepAbort s := by
  unfold abortCycle
  rcases h with h | h | h <;> rw [h]

theorem abortCycle_stands {s : State} (hp : s.scn.state ≠ .polarize) (hd : s.scn.state ≠ .dead) (hg : s.scn.state ≠ .gate) :
    abortCycle s = s := by
  unfold abortCycle
  split
  next h => exact absurd h hp
  next h => exact absurd h hd
  next h => exact absurd h hg
  · rfl

theorem abortCycle_scn {s t : State} (h : s.scn = t.scn) : (abortCycle s).scn = (abortCycle t).scn := by
  unfold abortCycle
  rw [h]
  split
  next => exact congrArg (endCycleScn .stepAbort .wait) h
  next => exact congrArg (endCycleScn .stepAbort .wait) h
  next => exact congrArg (endCycleScn .stepAbort .wait) h
  next => exact h

/-- The node as RE acts on a move: with DU before or after its own change, as `ties` says (log 5). -/
def asReActs (b : Bool) (s : State) : State :=
  s.setDu (if s.ties.closeBeforeDu then s.du else movedDu b s.du)

theorem setDu_own {s : State} {d : DU} (h : s.du = d) : s.setDu d = s := by
  subst h
  rfl

theorem moveTaken_eq (b : Bool) (s : State) : moveTaken b s = (moveNotice b (asReActs b s)).setDu (movedDu b s.du) := by
  unfold moveTaken asReActs
  split
  · have hdu : (moveNotice b s).du = s.du := by simp
    rw [hdu]
    rfl
  · have hdu : (moveNotice b (s.setDu (movedDu b s.du))).du = movedDu b s.du := by simp
    exact (setDu_own hdu).symm

/-! ## The announce point a move brings -/

/-- The node after a move, before the announce point the move may bring. -/
def movedNode (b : Bool) (theta : Int) (s : State) : State :=
  raiseEvent .clockStep (movedTb b theta s.tb).second (abortCycle (moveTaken b (clockMoved b theta s)))

theorem announceWhenDue_waits {s : State} (h : s.tb.tick < 3000000 ∨ s.tb.second ∈ s.lc.announced) : announceWhenDue s = s := by
  refine if_neg fun ⟨htick, hdue⟩ => ?_
  rcases h with h | h
  · omega
  · exact absurd hdue (by rw [announceDue_eq_false h]; decide)

theorem announceWhenDue_falls {s : State} (htick : 3000000 ≤ s.tb.tick) (h : s.tb.second ∉ s.lc.announced) :
    announceWhenDue s = announceNow s :=
  if_pos ⟨htick, announceDue_eq_true h⟩

theorem announceNow_parts (s : State) : (announceNow s).lc.announced = s.tb.second :: s.lc.announced
    ∧ (composing s = false → announceNow s = s.setLc { s.lc with announced := s.tb.second :: s.lc.announced })
    ∧ (composing s = true → (announceNow s).lc.announceSeq = s.lc.announceSeq + 1)
    ∧ announceNow s = { s with lc := (announceNow s).lc, draws := (announceNow s).draws } := by
  by_cases h : composing s = true
  · obtain ⟨hseq, hannounced, hframe⟩ := placeAnnouncement_keeps (composeAnnouncement s) (announcing s)
    rw [announceNow_composes h]
    exact ⟨hannounced, fun hno => absurd h (by rw [hno]; decide), fun _ => hseq, hframe⟩
  · have hidle : announceNow s = s.setLc { s.lc with announced := s.tb.second :: s.lc.announced } := if_neg h
    rw [hidle]
    exact ⟨rfl, fun _ => rfl, fun hyes => absurd hyes h, rfl⟩


/-! ## What a move leaves of each block -/

/-- A sample of a second or more, of 1 ms or more in ACQUIRE, or the third outlier in a row in LOCKED moves the clock; DU has at most
counted the outlier before (R63 to R66). -/
theorem duSample_moves {r : Reference} {theta : Int} {s : State} {b : Bool} (href : s.du.reference = some r)
    (hmoves : (1000000000 ≤ theta.natAbs ∧ (s.du.state = .acquire ∨ s.du.state = .locked))
      ∨ (1000000 ≤ theta.natAbs ∧ (s.du.state = .acquire ∨ s.du.state = .locked ∧ 2 ≤ s.du.outlierRun)))
    (hb : b = true ↔ 1000000000 ≤ theta.natAbs) :
    ∃ outliers run, duSample r theta s = moveClock b theta (s.setDu { s.du with outliers := outliers, outlierRun := run }) := by
  have hsame : s.setDu { s.du with outliers := s.du.outliers, outlierRun := s.du.outlierRun } = s := rfl
  have hlarge : 1000000 ≤ theta.natAbs := by omega
  have hrelabel : ∀ h : 1000000000 ≤ theta.natAbs, b = true := hb.mpr
  have hstep : ¬ 1000000000 ≤ theta.natAbs → b = false := fun h => Bool.eq_false_iff.mpr fun hyes => h (hb.mp hyes)
  unfold duSample
  rw [if_pos href]
  cases hst : s.du.state with
  | acquire =>
    refine ⟨s.du.outliers, s.du.outlierRun, ?_⟩
    change sampleAcquire theta s = _
    unfold sampleAcquire
    rw [hsame]
    split
    next h => rw [hrelabel h]
    next h => rw [hstep h]
  | locked =>
    change ∃ _ _, sampleLocked theta s = _
    unfold sampleLocked
    split
    next h =>
      rw [hrelabel h]
      exact ⟨s.du.outliers, s.du.outlierRun, rfl⟩
    next h =>
      have hrun : 2 ≤ s.du.outlierRun := by
        rw [hst] at hmoves
        simpa [h, hlarge] using hmoves
      rw [hstep h]
      exact ⟨_, _, if_pos hrun⟩
  | freeRoot => simp [hst] at hmoves
  | holdover => simp [hst] at hmoves

/-- What a move leaves of the blocks that RE's part can reach, of SCN and of LC. -/
theorem moveClock_blocks {b : Bool} {theta : Int} {s t w : State} (ht : moveClock b theta s = t)
    (hw : w = moveNotice b (asReActs b (clockMoved b theta s))) :
    t.re = w.re ∧ t.vfe = w.vfe ∧ t.dru = w.dru ∧ t.mdm = w.mdm ∧ t.bw = w.bw
      ∧ t.rs = (raiseEvent .clockStep t.tb.second w).rs ∧ t.scn = (abortCycle s).scn := by
  have htb : t.tb = movedTb b theta s.tb := ht ▸ moveClock_tb b theta s
  have hscn : (moveNotice b (asReActs b (clockMoved b theta s))).scn = s.scn := by
    simp [asReActs, clockMoved]
  rw [htb, ← ht, moveClock_eq, moveTaken_eq, ← hw]
  rw [← hw] at hscn
  have habort := abortCycle_scn (s := w.setDu (movedDu b (clockMoved b theta s).du)) (t := s) hscn
  simp [raiseEvent_rs, habort]


/-- The second a move opens has nothing taken and carries the move's flag (R134, R135). -/
theorem moveNotice_opens {b : Bool} {c w : State} (h : b = true ∨ 0 < signedDiff c.tb.second c.re.second) (hw : w = moveNotice b c) :
    w.re.second = c.tb.second ∧ w.re.epoch = (if b then c.tb.epoch else c.re.epoch) ∧ w.re.taken = []
      ∧ w.re.n = ⟨0, 0, 0⟩ ∧ w.re.clipped = ⟨0, 0, 0⟩ ∧ w.re.blanked = ⟨0, 0, 0⟩
      ∧ (∀ a, sumValue (axisGet w.re.sums a) = 0)
      ∧ w.re.sticky.clip = false ∧ w.re.sticky.blank = false ∧ w.re.sticky.step = !b ∧ w.re.sticky.relabel = b
      ∧ (w.re.isOpen = true ↔ ∀ x ∈ w.rs.seconds, ¬ (x.epoch = w.re.epoch ∧ x.second = w.re.second))
      ∧ (c.re.isOpen = false →
          w.rs.seconds.map (fun x => (x.epoch, x.second)) = c.rs.seconds.map (fun x => (x.epoch, x.second))) := by
  rw [moveNotice_leaves h] at hw
  obtain ⟨hsecond, hepoch, htaken, hsums, hn, hclipped, hblanked, hsticky, hopens⟩ := changeSecond_opens hw.symm
  rw [← hsecond, ← hepoch] at hopens
  refine ⟨hsecond, hepoch, htaken, hn, hclipped, hblanked, fun a => ?_, congrArg StickyFlags.clip hsticky,
    congrArg StickyFlags.blank hsticky, congrArg StickyFlags.step hsticky, congrArg StickyFlags.relabel hsticky, hopens, fun hpassed => ?_⟩
  · rw [hsums]
    cases a <;> rfl
  · rw [hw]
    exact changeSecond_map_passed (fun _ => rfl) _ _ _ hpassed

/-- The record of an OPEN second that a move leaves (R133 to R135). -/
theorem moveNotice_record {b : Bool} {c w : State} (h : b = true ∨ 0 < signedDiff c.tb.second c.re.second) (hw : w = moveNotice b c)
    (hopen : c.re.isOpen = true) : ∃ x, w.rs.seconds.getLast? = some x
      ∧ w.rs.seconds.map (fun x => (x.epoch, x.second))
          = (c.rs.seconds.drop (if 1024 ≤ c.rs.seconds.length then 1 else 0)).map (fun x => (x.epoch, x.second))
              ++ [(c.re.epoch, c.re.second)]
      ∧ (∀ a, (axisGet x.axes a).n = axisGet c.re.n a)
      ∧ x.flags.step = (c.re.sticky.step || !b) ∧ x.flags.relabel = (c.re.sticky.relabel || b)
      ∧ x.disturbance = c.bw.state ∧ x.discipline = c.du.state ∧ x.errorBound = c.du.errorBound := by
  rw [moveNotice_leaves h] at hw
  obtain ⟨x, hlast, hpart⟩ := changeSecond_newest (s := c.setRe (flaggedRe b c.re)) c.tb.second (if b then c.tb.epoch else c.re.epoch)
    { StickyFlags.clear with step := !b, relabel := b } hopen
  have hkeys := changeSecond_map_open (s := c.setRe (flaggedRe b c.re)) (f := fun x => (x.epoch, x.second)) (fun _ => rfl) c.tb.second
    (if b then c.tb.epoch else c.re.epoch) { StickyFlags.clear with step := !b, relabel := b } hopen
  have hfield : ∀ {α : Type} (f : SecondRecord → α), (∀ u, f (settledPart u) = f u) →
      f x = f (leftRecord (c.setRe (flaggedRe b c.re))) :=
    fun f hf => (hf x).symm.trans ((congrArg f hpart).trans (hf _))
  rw [← hw] at hlast hkeys
  exact ⟨x, hlast, hkeys,
    fun a => (hfield (fun r => (axisGet r.axes a).n) fun _ => rfl).trans (congrArg AxisField.n (axisGet_axesOf _ a)),
    hfield (fun r => r.flags.step) fun _ => rfl, hfield (fun r => r.flags.relabel) fun _ => rfl,
    hfield SecondRecord.disturbance fun _ => rfl, hfield SecondRecord.discipline fun _ => rfl,
    hfield SecondRecord.errorBound fun _ => rfl⟩

/-- The node after a move, before its announce point: LC and the draws, and what the announce point reads. -/
theorem movedNode_keeps (b : Bool) (theta : Int) (s : State) :
    (movedNode b theta s).lc = preMoveLc (if b then newEpochLc s.lc else s.lc) ∧ (movedNode b theta s).draws = s.draws
      ∧ (movedNode b theta s).tb = movedTb b theta s.tb ∧ (movedNode b theta s).sul = s.sul
      ∧ (movedNode b theta s).powered = s.powered := by
  unfold movedNode
  rw [moveTaken_eq]
  simp [clockMoved, asReActs]

theorem raiseRs_newest (k : EventKind) (q : Second) (rs : RS) : (raiseRs k q rs).events.getLast? = some ⟨k, q⟩ := by
  unfold raiseRs
  split <;> exact List.getLast?_append

theorem composing_of_same {s t : State} (hsul : s.sul = t.sul) (hjoin : s.lc.joinListen = t.lc.joinListen)
    (hduplicate : s.lc.duplicateId = t.lc.duplicateId) : composing s = composing t := by
  unfold composing listenOnly
  rw [hsul, hjoin, hduplicate]

/-- LC after a move: every arrival stamp is pre-move, and the announce point falls where it is due (R18, R47). -/
theorem moveClock_line {b : Bool} {theta : Int} {s t : State} {announced : List Second} {moved : LC} (ht : moveClock b theta s = t)
    (hannounced : announced = if b then [] else s.lc.announced)
    (hmoved : moved = { s.lc with
      rx := s.lc.rx.map (fun x => { x with preMove := true })
      ring := s.lc.ring.map (fun e => { e with preMove := true })
      dispatcher := s.lc.dispatcher.map (fun e => { e with preMove := true })
      announced := announced }) :
    (t.tb.tick < 3000000 ∨ t.tb.second ∈ announced → t.lc = moved ∧ t.draws = s.draws)
      ∧ (3000000 ≤ t.tb.tick → t.tb.second ∉ announced →
          t.lc.announced = t.tb.second :: announced
            ∧ (composing s = false → t.lc = { moved with announced := t.tb.second :: announced } ∧ t.draws = s.draws)
            ∧ (composing s = true → t.lc.announceSeq = s.lc.announceSeq + 1)
            ∧ (s.powered = true → ∃ u : State, exec .announcePoint u = .next t ∧ u.lc = moved ∧ u.draws = s.draws
                ∧ t = { u with lc := t.lc, draws := t.draws })) := by
  obtain ⟨hlc, hdraws, htb, hsul, hpowered⟩ := movedNode_keeps b theta s
  have hnode : t = announceWhenDue (movedNode b theta s) := by rw [← ht, moveClock_eq]; rfl
  have hclock : t.tb = movedTb b theta s.tb := ht ▸ moveClock_tb b theta s
  generalize movedNode b theta s = e at hlc hdraws htb hsul hpowered hnode
  have hetb : e.tb = t.tb := htb.trans hclock.symm
  have helc : e.lc = moved := by
    rw [hlc, hmoved, hannounced]
    cases b <;> rfl
  have heannounced : e.lc.announced = announced := by rw [helc, hmoved]
  have hcomposing : composing e = composing s := composing_of_same hsul (by rw [helc, hmoved]) (by rw [helc, hmoved])
  refine ⟨fun hwait => ?_, fun hlate hnew => ?_⟩
  · rw [hnode, announceWhenDue_waits (by rw [hetb, heannounced]; exact hwait)]
    exact ⟨helc, hdraws⟩
  · obtain ⟨hdone, hidle, hseq, hframe⟩ := announceNow_parts e
    have hfalls : t = announceNow e :=
      hnode.trans (announceWhenDue_falls (hetb ▸ hlate) (by rw [hetb, heannounced]; exact hnew))
    rw [← hfalls] at hdone hidle hseq hframe
    rw [hetb, heannounced] at hdone hidle
    rw [hcomposing] at hidle hseq
    refine ⟨hdone, fun hno => ?_, fun hyes => ?_, fun hon => ⟨e, next_on (hpowered.trans hon) hnode.symm, helc, hdraws, hframe⟩⟩
    · rw [helc] at hidle
      exact ⟨congrArg State.lc (hidle hno), (congrArg State.draws (hidle hno)).trans hdraws⟩
    · rw [hseq hyes, helc, hmoved]

/-- Settles O31. -/
theorem sampleMovesClock : Obligations.SampleMovesClock := by
  unfold Obligations.SampleMovesClock
  intro r theta s t b announced moved href htick hmoves hb hannounced hmoved ht
  obtain ⟨outliers, run, hduSample⟩ := duSample_moves href hmoves hb
  rw [hduSample] at ht
  generalize hu : s.setDu { s.du with outliers := outliers, outlierRun := run } = u at ht
  have hutb : u.tb = s.tb := hu ▸ rfl
  have hudu : u.du = { s.du with outliers := outliers, outlierRun := run } := hu ▸ rfl
  have hustate : u.du.state = s.du.state := hu ▸ rfl
  have hubound : u.du.errorBound = s.du.errorBound := hu ▸ rfl
  have hupt : u.pt = s.pt := hu ▸ rfl
  have hulc : u.lc = s.lc := hu ▸ rfl
  have hudraws : u.draws = s.draws := hu ▸ rfl
  have husul : u.sul = s.sul := hu ▸ rfl
  have hupowered : u.powered = s.powered := hu ▸ rfl
  have huties : u.ties = s.ties := hu ▸ rfl
  have huscn : u.scn = s.scn := hu ▸ rfl
  have hsmall : b = false → theta.natAbs < 1000000000 := fun h => by
    have hnot : ¬ 1000000000 ≤ theta.natAbs := fun hle => absurd (hb.mpr hle) (by rw [h]; decide)
    omega
  have htb : t.tb = movedTb b theta s.tb := ht ▸ hutb ▸ moveClock_tb b theta u
  have hdu : t.du = movedDu b u.du := ht ▸ moveClock_du b theta u
  have hpt : t.pt = clockMovePt s.pt := ht ▸ hupt ▸ moveClock_pt b theta u
  obtain ⟨hticks, hclock⟩ := movedTb_clock hsmall htick
  obtain ⟨hepoch, hslew, htrim, hschedule, hremainder⟩ := movedTb_keeps b theta s.tb
  generalize hc : asReActs b (clockMoved b theta u) = c
  have hcre : c.re = s.re := by rw [← hc, ← hu]; rfl
  have hcrs : c.rs = s.rs := by rw [← hc, ← hu]; rfl
  have hcbw : c.bw = s.bw := by rw [← hc, ← hu]; rfl
  have hcvfe : c.vfe = s.vfe := by rw [← hc, ← hu]; rfl
  have hcdru : c.dru = s.dru := by rw [← hc, ← hu]; rfl
  have hcmdm : c.mdm = s.mdm := by rw [← hc, ← hu]; rfl
  have hcsul : c.sul = s.sul := by rw [← hc, ← hu]; rfl
  have hctb : c.tb = t.tb := by rw [← hc, htb, ← hutb]; rfl
  have hcdu : c.du = if s.ties.closeBeforeDu then u.du else movedDu b u.du := by rw [← hc, ← huties]; rfl
  obtain ⟨hre, hvfe, hdru, hmdm, hbw, hrs, hscn⟩ := moveClock_blocks ht (by rw [hc])
  generalize hw : moveNotice b c = w at hre hvfe hdru hmdm hbw hrs
  have hseconds : t.rs.seconds = w.rs.seconds := by rw [hrs, raiseEvent_seconds]
  have hwsul : w.sul = s.sul := by simp [← hw, hcsul]
  obtain ⟨hwaits, hfalls⟩ := moveClock_line (announced := announced) (moved := moved) ht (by rw [hulc]; exact hannounced)
    (by rw [hulc]; exact hmoved)
  rw [hulc, hudraws, hupowered, composing_of_same husul (congrArg LC.joinListen hulc) (congrArg LC.duplicateId hulc)] at hfalls
  rw [hudraws] at hwaits
  have hleaves : b = true ∨ 0 < signedDiff t.tb.second s.re.second → b = true ∨ 0 < signedDiff c.tb.second c.re.second := by
    rw [hctb, hcre]
    exact id
  refine ⟨htb ▸ hticks, htb ▸ hclock, htb ▸ hepoch, htb ▸ hslew, htb ▸ htrim, htb ▸ hschedule, htb ▸ hremainder, ?_, ?_, ?_, ?_, ?_, ?_,
    ?_, ?_, hpt ▸ rfl, ?_, ?_, ?_, ?_, ?_, hwaits, hfalls, ?_⟩
  · rw [hdu]
    rfl
  · rw [hdu, hudu]
    exact href
  · rw [hdu]
    rfl
  · rw [hdu]
    rfl
  · rw [hdu]
    rfl
  · rw [hdu]
    rfl
  · rintro rfl
    rw [hdu, hudu]
    exact ⟨rfl, rfl⟩
  · rintro rfl
    rw [hdu, hudu]
    exact ⟨rfl, rfl⟩
  · rintro rfl hle
    rw [moveNotice_stays (by rw [hctb, hcre]; exact hle)] at hw
    rw [← hw] at hre hvfe hdru hmdm hbw hrs
    refine ⟨hre.trans (by rw [State.setRe_re, hcre]), hvfe.trans hcvfe, hdru.trans hcdru, hmdm.trans hcmdm, hbw.trans hcbw, ?_⟩
    rw [hrs, raiseEvent_rs, raiseEvent_rs, State.setRe_rs, State.setRe_sul, hcrs, hcsul]
  · intro hleave
    obtain ⟨hsecond, hep, htaken, hn, hclipped, hblanked, hsums, hclip, hblank, hstep, hrelabel, hopens, hpassed⟩ :=
      moveNotice_opens (hleaves hleave) hw.symm
    rw [hctb, hcre] at hep
    rw [hctb] at hsecond
    rw [hcre, hcrs] at hpassed
    rw [hre, hseconds]
    refine ⟨hsecond, hep, htaken, hn, hclipped, hblanked, hsums, hclip, hblank, hstep, hrelabel, hopens, hpassed, fun hopen => ?_⟩
    obtain ⟨x, hlast, hkeys, hxn, hxstep, hxrelabel, hxdist, hxdisc, hxbound⟩ :=
      moveNotice_record (hleaves hleave) hw.symm (hcre ▸ hopen)
    rw [hcre] at hxn hxstep hxrelabel hkeys
    rw [hcrs] at hkeys
    rw [hcbw] at hxdist
    rw [hcdu] at hxdisc hxbound
    refine ⟨x, hlast, hkeys, hxn, hxstep, hxrelabel, hxdist, fun hbefore => ?_, fun hafter => ?_⟩
    · rw [if_pos hbefore] at hxdisc hxbound
      exact ⟨hxdisc.trans hustate, hxbound.trans hubound⟩
    · rw [hafter, if_neg (by decide)] at hxdisc hxbound
      exact ⟨hxdisc, hxbound⟩
  · intro hmask
    rw [hrs, raiseEvent_rs, if_pos (show admits w.sul.image.eventMask .clockStep = true by rw [hwsul]; exact hmask)]
    exact raiseRs_newest .clockStep t.tb.second w.rs
  · intro hin
    rw [hscn, abortCycle_aborts (huscn ▸ hin), ← huscn]
    rfl
  · intro hp hd hg
    rw [hscn, abortCycle_stands (huscn ▸ hp) (huscn ▸ hd) (huscn ▸ hg), huscn]
  · rw [← ht]
    simp [← hu]

end Sys2Proof.Machine
end

section
/-! PROOF. The records in hand at a restart: what finishing them writes (R148, R162). -/

namespace Sys2Proof.Machine

/-! ## A run of writes into the second ring -/

/-- One write after the other, each into the record of its sequence. -/
def writeEach {α : Type} (seq : α → Sequence) (w : α → SecondRecord → SecondRecord) (l : List α) (rs : RS) : RS :=
  l.foldl (fun rs a => writeRecord (seq a) (w a) rs) rs

section Writes

variable {α : Type} {seq : α → Sequence} {w : α → SecondRecord → SecondRecord}

theorem mem_writeRecord {q : Sequence} {f : SecondRecord → SecondRecord} {rs : RS} {r : SecondRecord}
    (h : r ∈ (writeRecord q f rs).seconds) : ∃ u ∈ rs.seconds, u.sequence = q ∧ r = f u ∨ u.sequence ≠ q ∧ r = u := by
  obtain ⟨u, hu, rfl⟩ := List.mem_map.mp h
  refine ⟨u, hu, ?_⟩
  split
  next hq => exact .inl ⟨hq, rfl⟩
  next hq => exact .inr ⟨hq, rfl⟩

theorem writeEach_rest (l : List α) (rs : RS) : writeEach seq w l rs = { rs with seconds := (writeEach seq w l rs).seconds } := by
  induction l generalizing rs with
  | nil => rfl
  | cons a l ih => exact (ih (writeRecord (seq a) (w a) rs)).trans rfl

theorem writeEach_map {β : Type} {key : SecondRecord → β} (hkey : ∀ a r, key (w a r) = key r) (l : List α) (rs : RS) :
    (writeEach seq w l rs).seconds.map key = rs.seconds.map key := by
  induction l generalizing rs with
  | nil => rfl
  | cons a l ih =>
    refine (ih (writeRecord (seq a) (w a) rs)).trans ?_
    unfold writeRecord
    rw [List.map_map]
    refine List.map_congr_left fun r _ => ?_
    dsimp only [Function.comp]
    split
    · exact hkey a r
    · rfl

theorem writeEach_keeps {P : SecondRecord → Prop} (hkeep : ∀ a r, P r → P (w a r)) (l : List α) {rs : RS}
    (h : ∀ r ∈ rs.seconds, P r) : ∀ r ∈ (writeEach seq w l rs).seconds, P r := by
  induction l generalizing rs with
  | nil => exact h
  | cons a l ih =>
    refine ih (rs := writeRecord (seq a) (w a) rs) fun r hr => ?_
    obtain ⟨u, hu, ⟨-, rfl⟩ | ⟨-, rfl⟩⟩ := mem_writeRecord hr
    · exact hkeep a u (h u hu)
    · exact h r hu

theorem writeEach_holds {P : SecondRecord → Prop} (hkeep : ∀ a r, P r → P (w a r)) (l : List α) {rs : RS}
    (h : ∃ r ∈ rs.seconds, P r) : ∃ r ∈ (writeEach seq w l rs).seconds, P r := by
  induction l generalizing rs with
  | nil => exact h
  | cons a l ih =>
    obtain ⟨r, hr, hP⟩ := h
    refine ih (rs := writeRecord (seq a) (w a) rs) ⟨_, List.mem_map_of_mem hr, ?_⟩
    split
    · exact hkeep a r hP
    · exact hP

/-- What one of the writes establishes and all keep holds of the records of its sequence. -/
theorem writeEach_writes {Q : SecondRecord → Prop} {a : α} (hseq : ∀ b r, (w b r).sequence = r.sequence)
    (hkeep : ∀ b r, Q r → Q (w b r)) (hwrites : ∀ r, Q (w a r)) {l : List α} (ha : a ∈ l) (rs : RS) :
    ∀ r ∈ (writeEach seq w l rs).seconds, r.sequence = seq a → Q r := by
  induction l generalizing rs with
  | nil => cases ha
  | cons b l ih =>
    rcases List.mem_cons.mp ha with rfl | hin
    · refine writeEach_keeps (P := fun r => r.sequence = seq a → Q r) (fun b r h hr => hkeep b r (h ((hseq b r).symm.trans hr))) l
        (rs := writeRecord (seq a) (w a) rs) fun r hr hq => ?_
      obtain ⟨u, -, ⟨-, rfl⟩ | ⟨hne, rfl⟩⟩ := mem_writeRecord hr
      · exact hwrites u
      · exact absurd hq hne
    · exact ih hin (writeRecord (seq b) (w b) rs)

end Writes

/-! ## The writes of a restart -/

/-- What MDM writes into the record of an entry (R162). -/
def entryFinished (e : PendingEntry) (r : SecondRecord) : SecondRecord :=
  finalRecord e.magnitude none none .restart r

/-- What RE writes into a record of the chain list (R148). -/
def chainFinished (c : ChainRecord) (r : SecondRecord) : SecondRecord :=
  { r with
    final := true
    reason := some .restart
    axes := axesOf (fun a =>
      if axisGet c.steps a = .ended then axisGet r.axes a else { axisGet r.axes a with value := none })
    flags := { r.flags with arith := r.flags.arith || !chainsEnded c } }

theorem finishEntries_rs (s : State) :
    (finishEntries s).rs = writeEach PendingEntry.sequence entryFinished s.mdm.list s.rs := rfl

theorem finishChains_rs (s : State) : (finishChains s).rs = writeEach ChainRecord.sequence chainFinished s.re.chain s.rs := rfl

theorem chainFinished_axis (c : ChainRecord) (r : SecondRecord) (a : Axis) : axisGet (chainFinished c r).axes a
    = if axisGet c.steps a = .ended then axisGet r.axes a else { axisGet r.axes a with value := none } :=
  axisGet_axesOf _ a

theorem chainFinished_value_none {c : ChainRecord} {r : SecondRecord} {a : Axis} (h : (axisGet r.axes a).value = none) :
    (axisGet (chainFinished c r).axes a).value = none := by
  rw [chainFinished_axis]
  split
  · exact h
  · rfl

theorem chainFinished_n (c : ChainRecord) (r : SecondRecord) (a : Axis) :
    (axisGet (chainFinished c r).axes a).n = (axisGet r.axes a).n := by
  rw [chainFinished_axis]
  split <;> rfl

theorem chainFinished_unended {c : ChainRecord} {a : Axis} (h : axisGet c.steps a ≠ .ended) (r : SecondRecord) :
    (axisGet (chainFinished c r).axes a).value = none ∧ (chainFinished c r).flags.arith = true := by
  have hopen : chainsEnded c = false := by
    rw [← Bool.not_eq_true, chainsEnded, allAxes_iff]
    intro hall
    exact h (by simpa using hall a)
  refine ⟨?_, ?_⟩
  · rw [chainFinished_axis, if_neg h]
  · change (r.flags.arith || !chainsEnded c) = true
    rw [hopen]
    exact Bool.or_true _

/-! ## The record of an OPEN second at a restart -/

@[simp] theorem takeMinuteKey_seconds (k : Minute) (s : State) : (takeMinuteKey k s).rs.seconds = s.rs.seconds := by
  unfold takeMinuteKey
  split
  · rfl
  · split
    · rfl
    · rw [testHead, testHeads_seconds, startMinuteRs]
      split <;> rfl

theorem mem_applyPendingF {ep : Epoch} {q : Second} {rs : RS} {r : SecondRecord} (h : r ∈ (applyPendingF ep q rs).seconds) :
    ∃ u ∈ rs.seconds, ∃ o, r = { u with ownF := o } := by
  unfold applyPendingF at h
  split at h
  · exact ⟨r, h, r.ownF, rfl⟩
  · split at h
    · obtain ⟨u, hu, rfl⟩ := List.mem_map.mp h
      refine ⟨u, hu, ?_⟩
      split
      · exact ⟨_, rfl⟩
      · exact ⟨u.ownF, rfl⟩
    · split at h
      · exact ⟨r, h, r.ownF, rfl⟩
      · exact ⟨r, h, r.ownF, rfl⟩

theorem displaceOld_empty {s : State} (q : Sequence) (h : s.mdm.list = []) : (displaceOld q s).rs = s.rs := by
  unfold displaceOld
  rw [h]
  rfl

/-- With no entry pending an entering record moves the ring and its own F alone (R178). -/
theorem enterRecord_seconds {r : SecondRecord} {s : State} (h : s.mdm.list = []) : (enterRecord r s).rs.seconds
    = (applyPendingF r.epoch r.second { s.rs with seconds := pushRecord r s.rs.seconds }).seconds := by
  unfold enterRecord
  dsimp only
  rw [takeMinuteKey_seconds, displaceOld_empty]
  · rfl
  · exact h

theorem mem_pushRecord {r u : SecondRecord} {xs : List SecondRecord} (h : u ∈ pushRecord r xs) : u ∈ xs ∨ u = r := by
  unfold pushRecord at h
  rcases List.mem_append.mp h with h | h
  · split at h
    · exact .inl (List.mem_of_mem_drop h)
    · exact .inl h
  · exact .inr (List.mem_singleton.mp h)

theorem applyPendingF_holds (ep : Epoch) (q : Second) {rs : RS} {u : SecondRecord} (h : u ∈ rs.seconds) :
    ∃ o, { u with ownF := o } ∈ (applyPendingF ep q rs).seconds := by
  unfold applyPendingF
  split
  · exact ⟨u.ownF, h⟩
  · split
    next f _ _ =>
      have hmem := List.mem_map_of_mem (f := fun r : SecondRecord =>
        if r.epoch = f.epoch ∧ r.second = f.second then { r with ownF := some f.value } else r) h
      split at hmem
      · exact ⟨_, hmem⟩
      · exact ⟨u.ownF, hmem⟩
    · split <;> exact ⟨u.ownF, h⟩

/-- What the ring holds after the OPEN second of a restart is closed (R148). -/
theorem mem_closeAtRestart {s : State} {r : SecondRecord} (hempty : s.mdm.list = []) (h : r ∈ (closeAtRestart s).rs.seconds) :
    ∃ u o, r = { u with ownF := o } ∧ (u ∈ s.rs.seconds ∨ s.re.isOpen = true ∧ u = restartRecord s) := by
  unfold closeAtRestart at h
  split at h
  next hopen =>
    rw [enterRecord_seconds hempty] at h
    obtain ⟨u, hu, o, rfl⟩ := mem_applyPendingF h
    exact ⟨u, o, rfl, (mem_pushRecord hu).imp_right fun h => ⟨hopen, h⟩⟩
  next => exact ⟨r, r.ownF, rfl, .inl h⟩

theorem closeAtRestart_holds {s : State} (hempty : s.mdm.list = []) (hopen : s.re.isOpen = true) :
    ∃ o, { restartRecord s with ownF := o } ∈ (closeAtRestart s).rs.seconds := by
  unfold closeAtRestart
  rw [if_pos hopen, enterRecord_seconds hempty]
  refine applyPendingF_holds _ _ (rs := { s.rs with seconds := pushRecord (restartRecord s) s.rs.seconds }) ?_
  exact List.mem_append.mpr (.inr (List.mem_singleton.mpr rfl))

theorem closeAtRestart_map {β : Type} {key : SecondRecord → β} (hkey : ∀ r, key (settledPart r) = key r) (s : State) :
    (closeAtRestart s).rs.seconds.map key
      = (if s.re.isOpen then pushRecord (restartRecord s) s.rs.seconds else s.rs.seconds).map key := by
  have hmap : ∀ xs : List SecondRecord, xs.map key = (xs.map settledPart).map key := by
    intro xs
    rw [List.map_map]
    exact List.map_congr_left fun r _ => (hkey r).symm
  unfold closeAtRestart
  split
  · exact (hmap _).trans ((congrArg (List.map key) (enterRecord_settled ..)).trans (hmap _).symm)
  · rfl

/-! ## The ring after every record in hand is finished -/

/-- RS after MDM and RE have finished their records, before its own restart (R148, R162). -/
def finishedRs (s : State) : RS :=
  (finishChains (closeAtRestart (finishEntries s))).rs

theorem finishedRs_eq (s : State) : finishedRs s
    = writeEach ChainRecord.sequence chainFinished s.re.chain (closeAtRestart (finishEntries s)).rs := by
  have hchain : (closeAtRestart (finishEntries s)).re.chain = s.re.chain := by simp
  unfold finishedRs
  rw [finishChains_rs, hchain]

/-- A property of a record in hand that every later write of a restart keeps. -/
structure KeptByRestart (P : SecondRecord → Prop) : Prop where
  entry : ∀ e r, P r → P (entryFinished e r)
  chain : ∀ c r, P r → P (chainFinished c r)
  ownF : ∀ r o, P r → P { r with ownF := o }

theorem finishedRs_of_entry {P : SecondRecord → Prop} (hP : KeptByRestart P) {s : State} {e : PendingEntry} (he : e ∈ s.mdm.list)
    (hwrites : ∀ r, P (entryFinished e r)) (hrestart : s.re.isOpen = true → P (restartRecord (finishEntries s))) :
    ∀ r ∈ (finishedRs s).seconds, r.sequence = e.sequence → P r := by
  rw [finishedRs_eq]
  refine writeEach_keeps (P := fun r => r.sequence = e.sequence → P r) (fun c r h hr => hP.chain c r (h hr)) _ fun r hr => ?_
  obtain ⟨u, o, rfl, hu | ⟨hopen, rfl⟩⟩ := mem_closeAtRestart (s := finishEntries s) rfl hr
  · exact fun hseq => hP.ownF u o (writeEach_writes (seq := PendingEntry.sequence) (w := entryFinished) (Q := P)
      (fun _ _ => rfl) hP.entry hwrites he s.rs u hu hseq)
  · exact fun _ => hP.ownF _ o (hrestart (by simpa using hopen))

theorem finishedRs_of_chain {P : SecondRecord → Prop} (hkeep : ∀ c r, P r → P (chainFinished c r)) {s : State} {c : ChainRecord}
    (hc : c ∈ s.re.chain) (hwrites : ∀ r, P (chainFinished c r)) : ∀ r ∈ (finishedRs s).seconds, r.sequence = c.sequence → P r := by
  rw [finishedRs_eq]
  exact writeEach_writes (w := chainFinished) (Q := P) (fun _ _ => rfl) hkeep hwrites hc _

theorem finishedRs_holds {P : SecondRecord → Prop} (hchain : ∀ c r, P r → P (chainFinished c r)) (hown : ∀ r o, P r → P { r with ownF := o })
    {s : State} (hopen : s.re.isOpen = true) (h : P (restartRecord (finishEntries s))) : ∃ r ∈ (finishedRs s).seconds, P r := by
  rw [finishedRs_eq]
  obtain ⟨o, ho⟩ := closeAtRestart_holds (s := finishEntries s) rfl (by simpa using hopen)
  exact writeEach_holds hchain _ ⟨_, ho, hown _ o h⟩

theorem finishedRs_map {β : Type} {key : SecondRecord → β} (hsettled : ∀ r, key (settledPart r) = key r)
    (hentry : ∀ e r, key (entryFinished e r) = key r) (hchain : ∀ c r, key (chainFinished c r) = key r) (s : State) :
    (finishedRs s).seconds.map key = if s.re.isOpen then
        (s.rs.seconds.map key).drop (if 1024 ≤ s.rs.seconds.length then 1 else 0) ++ [key (restartRecord (finishEntries s))]
      else s.rs.seconds.map key := by
  have hentries : (finishEntries s).rs.seconds.map key = s.rs.seconds.map key := writeEach_map hentry _ _
  have hlength : (finishEntries s).rs.seconds.length = s.rs.seconds.length := by
    have hcount := congrArg List.length (writeEach_map (key := fun _ => ()) (fun _ _ => rfl) s.mdm.list s.rs
      (seq := PendingEntry.sequence) (w := entryFinished))
    rwa [List.length_map, List.length_map] at hcount
  have hre : (finishEntries s).re = s.re := by simp
  rw [finishedRs_eq, writeEach_map hchain, closeAtRestart_map hsettled, hre]
  split
  · unfold pushRecord
    rw [List.map_append, ← hentries, hlength]
    split
    · rw [List.map_drop]
      rfl
    · rfl
  · exact hentries

theorem restartRecord_sequence (s : State) :
    (restartRecord (finishEntries s)).sequence = nextSequence (newestSecond s.rs) := by
  have hlast : (finishEntries s).rs.seconds.map SecondRecord.sequence = s.rs.seconds.map SecondRecord.sequence :=
    writeEach_map (w := entryFinished) (fun _ _ => rfl) _ _
  have hnewest : newestSecond (finishEntries s).rs = newestSecond s.rs := by
    unfold newestSecond
    rw [← List.getLast?_map, ← List.getLast?_map, hlast]
  exact congrArg nextSequence hnewest

/-- The records of the pending list are FINAL with reason RESTART (R162). -/
theorem finishedRs_entries {s : State} {e : PendingEntry} (he : e ∈ s.mdm.list) :
    ∀ r ∈ (finishedRs s).seconds, r.sequence = e.sequence → r.final = true ∧ r.reason = some .restart :=
  finishedRs_of_entry (P := fun r => r.final = true ∧ r.reason = some .restart) ⟨fun _ _ _ => ⟨rfl, rfl⟩, fun _ _ _ => ⟨rfl, rfl⟩, fun _ _ h => h⟩ he
    (fun _ => ⟨rfl, rfl⟩) (fun _ => ⟨rfl, rfl⟩)

/-- The records of the chain list are FINAL with reason RESTART, an axis whose chain has not ended absent with ARITH (R148). -/
theorem finishedRs_chains {s : State} {c : ChainRecord} (hc : c ∈ s.re.chain) {r : SecondRecord} (hr : r ∈ (finishedRs s).seconds)
    (hseq : r.sequence = c.sequence) : (r.final = true ∧ r.reason = some .restart)
      ∧ ∀ a, axisGet c.steps a ≠ .ended → (axisGet r.axes a).value = none ∧ r.flags.arith = true := by
  refine ⟨finishedRs_of_chain (P := fun r => r.final = true ∧ r.reason = some .restart) (fun _ _ _ => ⟨rfl, rfl⟩) hc (fun _ => ⟨rfl, rfl⟩)
      r hr hseq, fun a ha => ?_⟩
  refine finishedRs_of_chain (P := fun r => (axisGet r.axes a).value = none ∧ r.flags.arith = true) (fun d r h => ?_) hc
    (chainFinished_unended ha) r hr hseq
  obtain ⟨hvalue, harith⟩ := h
  refine ⟨chainFinished_value_none hvalue, ?_⟩
  change (r.flags.arith || !chainsEnded d) = true
  rw [harith]
  rfl

/-- The record of an OPEN second at the restart (R148). -/
theorem finishedRs_open {s : State} (hopen : s.re.isOpen = true) : ∃ r ∈ (finishedRs s).seconds, r.epoch = s.re.epoch
    ∧ r.second = s.re.second ∧ r.final = true ∧ r.flags.restart = true ∧ r.flags.noTcorr = true ∧ r.reason = some .restart
    ∧ r.deltaF = none ∧ ∀ a, (axisGet r.axes a).value = none ∧ (axisGet r.axes a).n = axisGet s.re.n a := by
  have hre : (finishEntries s).re = s.re := by simp
  refine finishedRs_holds (P := fun r => r.epoch = s.re.epoch ∧ r.second = s.re.second ∧ r.final = true ∧ r.flags.restart = true
      ∧ r.flags.noTcorr = true ∧ r.reason = some .restart ∧ r.deltaF = none
      ∧ ∀ a, (axisGet r.axes a).value = none ∧ (axisGet r.axes a).n = axisGet s.re.n a) ?_ (fun _ _ h => h) hopen ?_
  · rintro c r ⟨hepoch, hsecond, -, hrestart, htcorr, -, hdelta, haxes⟩
    refine ⟨hepoch, hsecond, rfl, hrestart, htcorr, rfl, hdelta, fun a => ?_⟩
    obtain ⟨hvalue, hn⟩ := haxes a
    exact ⟨chainFinished_value_none hvalue, (chainFinished_n c r a).trans hn⟩
  · refine ⟨congrArg RE.epoch hre, congrArg RE.second hre, rfl, rfl, rfl, rfl, rfl, fun a => ?_⟩
    have haxis : axisGet (restartRecord (finishEntries s)).axes a = ⟨none, axisGet (finishEntries s).re.n a⟩ := axisGet_axesOf _ a
    rw [haxis, hre]
    exact ⟨rfl, rfl⟩

end Sys2Proof.Machine
end

section
/-! PROOF. The minute builder at a restart (R180, R186). -/

namespace Sys2Proof.Machine

/-! ## The minute ring -/

/-- A minute ring that has taken more records, the oldest beyond 512 lost. -/
def MinutesGrown (before after : List MinuteRecord) : Prop :=
  ∃ built : List MinuteRecord, after = (before ++ built).drop (before.length + built.length - 512)

theorem MinutesGrown.refl {xs : List MinuteRecord} (h : xs.length ≤ 512) : MinutesGrown xs xs := by
  refine ⟨[], ?_⟩
  rw [List.append_nil, List.length_nil, Nat.add_zero, Nat.sub_eq_zero_of_le h, List.drop_zero]

theorem MinutesGrown.length_le {xs ys : List MinuteRecord} (h : MinutesGrown xs ys) : ys.length ≤ 512 := by
  obtain ⟨built, hys⟩ := h
  rw [hys, List.length_drop, List.length_append]
  omega

theorem MinutesGrown.trans {xs ys zs : List MinuteRecord} (h : MinutesGrown xs ys) (k : MinutesGrown ys zs) : MinutesGrown xs zs := by
  obtain ⟨first, hys⟩ := h
  obtain ⟨second, hzs⟩ := k
  have hlength : ys.length = xs.length + first.length - (xs.length + first.length - 512) := by
    rw [hys, List.length_drop, List.length_append]
  refine ⟨first ++ second, ?_⟩
  rw [hzs, hlength, hys, ← List.drop_append_of_le_length (by rw [List.length_append]; omega), List.drop_drop, List.append_assoc,
    List.length_append]
  exact congrArg (fun n => List.drop n (xs ++ (first ++ second))) (by omega)

theorem MinutesGrown.push {xs : List MinuteRecord} (h : xs.length ≤ 512) (r : MinuteRecord) :
    MinutesGrown xs ((if 512 ≤ xs.length then xs.drop 1 else xs) ++ [r]) := by
  refine ⟨[r], ?_⟩
  rw [List.length_singleton]
  split
  next hfull =>
    rw [show xs.length + 1 - 512 = 1 by omega, List.drop_append_of_le_length (by omega)]
  next hroom =>
    rw [show xs.length + 1 - 512 = 0 by omega, List.drop_zero]

theorem testHeads_grown (k : Nat) {s : State} (h : s.rs.minutes.length ≤ 512) :
    MinutesGrown s.rs.minutes (testHeads k s).rs.minutes := by
  induction k generalizing s with
  | zero => exact .refl h
  | succ k ih =>
    unfold testHeads
    split
    · exact .refl h
    · split
      · exact .refl h
      next m _ _ =>
        dsimp only
        split
        · split
          · have hpush : MinutesGrown s.rs.minutes (enterMinute (gatherMinute m (minuteRecords m s.rs)).body s.rs).minutes := .push h _
            exact hpush.trans (ih hpush.length_le)
          · exact .refl h
        · exact .refl h

theorem takeMinuteKey_grown (key : Minute) {s : State} (h : s.rs.minutes.length ≤ 512) :
    MinutesGrown s.rs.minutes (takeMinuteKey key s).rs.minutes := by
  unfold takeMinuteKey
  split
  · exact .refl h
  · split
    · exact .refl h
    next c _ _ =>
      have hsame : (startMinuteRs c s.rs).minutes = s.rs.minutes := by
        unfold startMinuteRs
        split <;> rfl
      have hgrown := testHeads_grown (startMinuteRs c s.rs).buildList.length
        (s := s.setRs { startMinuteRs c s.rs with current := some key }) (hsame ▸ h)
      rwa [State.setRs_rs, hsame] at hgrown

/-! ## The head of the build list -/

/-- The test of the head leaves all of RS but the minute ring, the build list and the build. -/
theorem testHeads_rs (k : Nat) (s : State) : (testHeads k s).rs = { s.rs with
    minutes := (testHeads k s).rs.minutes
    build := (testHeads k s).rs.build
    buildList := (testHeads k s).rs.buildList } := by
  induction k generalizing s with
  | zero => rfl
  | succ k ih =>
    unfold testHeads
    split
    · rfl
    · split
      · rfl
      · dsimp only
        split
        · split
          · exact (ih _).trans rfl
          · rfl
        · rfl

theorem testHead_building {s : State} (h : s.rs.build.isSome = true) : testHead s = s := by
  unfold testHead testHeads
  split
  · rfl
  · rw [h]
    rfl

theorem placeMinute_idle (d : MinuteDivision) {s : State} (h : s.dru = DRU.reset) :
    (placeMinute d s).dru = { DRU.reset with current := some ⟨⟨.minute, .divide d.sum d.count⟩, 330⟩ } := by
  rw [placeMinute, place_idle (congrArg DRU.current h) (congrArg DRU.queue h)]
  exact congrArg (fun u : DRU => { u with current := some ⟨⟨.minute, .divide d.sum d.count⟩, 330⟩ }) h

/-- The test of the head ends with a build begun, or with no head that could be built. -/
theorem testHeads_ends {k : Nat} {s t : State} (hbuild : s.rs.build = none) (hdiscard : s.rs.discard = false) (hdru : s.dru = DRU.reset)
    (hk : s.rs.buildList.length ≤ k) (ht : testHeads k s = t) :
    (t.rs.build = none ∧ t.dru = DRU.reset
        ∧ ∀ m rest, t.rs.buildList = m :: rest → ∃ r ∈ minuteRecords m t.rs, r.final = false)
      ∨ ∃ m rest d ds, t.rs.buildList = m :: rest ∧ t.rs.build = some (gatherMinute m (minuteRecords m t.rs))
        ∧ (gatherMinute m (minuteRecords m t.rs)).todo = d :: ds
        ∧ t.dru = { DRU.reset with current := some ⟨⟨.minute, .divide d.sum d.count⟩, 330⟩ } := by
  induction k generalizing s with
  | zero =>
    have hnil : s.rs.buildList = [] := List.eq_nil_of_length_eq_zero (Nat.le_zero.mp hk)
    subst ht
    exact .inl ⟨hbuild, hdru, fun m rest h => by cases hnil.symm.trans h⟩
  | succ k ih =>
    unfold testHeads at ht
    rw [if_neg (by rw [hbuild, hdiscard]; decide)] at ht
    split at ht
    next hnil =>
      subst ht
      exact .inl ⟨hbuild, hdru, fun m rest h => by cases hnil.symm.trans h⟩
    next m rest hlist =>
      dsimp only at ht
      split at ht
      next hall =>
        split at ht
        next hnone =>
          refine ih (s := s.setRs (enterMinute (gatherMinute m (minuteRecords m s.rs)).body s.rs)) rfl hdiscard hdru ?_ ht
          rw [hlist] at hk
          change (s.rs.buildList.drop 1).length ≤ k
          rw [hlist]
          exact Nat.le_of_succ_le_succ hk
        next d ds htodo =>
          subst ht
          refine .inr ⟨m, rest, d, ds, hlist, rfl, htodo, ?_⟩
          exact placeMinute_idle d (s := s.setRs { s.rs with build := some (gatherMinute m (minuteRecords m s.rs)) }) hdru
      next hall =>
        subst ht
        refine .inl ⟨hbuild, hdru, fun m' rest' h => ?_⟩
        obtain ⟨rfl, -⟩ := List.cons.inj (hlist.symm.trans h)
        rw [List.all_eq_true] at hall
        push Not at hall
        obtain ⟨r, hr, hfinal⟩ := hall
        exact ⟨r, hr, Bool.eq_false_iff.mpr hfinal⟩

/-! ## The builder while the records in hand are finished -/

theorem applyPendingF_builder (ep : Epoch) (q : Second) (rs : RS) : (applyPendingF ep q rs).minutes = rs.minutes
    ∧ (applyPendingF ep q rs).build = rs.build ∧ (applyPendingF ep q rs).buildList = rs.buildList
    ∧ (applyPendingF ep q rs).current = rs.current := by
  unfold applyPendingF writeOwnF
  split
  · exact ⟨rfl, rfl, rfl, rfl⟩
  · split
    · exact ⟨rfl, rfl, rfl, rfl⟩
    · split <;> exact ⟨rfl, rfl, rfl, rfl⟩

/-- With no entry pending, the builder's part in an entering record is to take its key (R178, R180). -/
theorem enterRecord_builder {r : SecondRecord} {s : State} (h : s.mdm.list = []) :
    ∃ u, enterRecord r s = takeMinuteKey (minuteOf r.epoch r.second) u ∧ u.rs.minutes = s.rs.minutes ∧ u.rs.build = s.rs.build
      ∧ u.rs.buildList = s.rs.buildList ∧ u.rs.current = s.rs.current := by
  have hentered : (displaceOld r.sequence (s.setRs (appendRecord r s.rs))).rs = appendRecord r s.rs := displaceOld_empty _ h
  obtain ⟨hminutes, hbuild, hlist, hcurrent⟩ := applyPendingF_builder r.epoch r.second (appendRecord r s.rs)
  refine ⟨_, rfl, ?_⟩
  rw [State.setRs_rs, hentered]
  exact ⟨hminutes, hbuild, hlist, hcurrent⟩

/-- A build in progress and its minute at the head stand while a record's key is taken, unless a full list loses its head. -/
theorem takeMinuteKey_building {key m : Minute} {rest : List Minute} {b : MinuteBuild} {s : State} (hbuild : s.rs.build = some b)
    (hlist : s.rs.buildList = m :: rest) (hkept : s.rs.buildList.length < 16 ∨ s.rs.current = none ∨ s.rs.current = some key) :
    (takeMinuteKey key s).rs.build = some b ∧ ∃ more, (takeMinuteKey key s).rs.buildList = m :: more := by
  unfold takeMinuteKey
  split
  · exact ⟨hbuild, rest, hlist⟩
  next c hc =>
    split
    · exact ⟨hbuild, rest, hlist⟩
    next hne =>
      have hroom : ¬ 16 ≤ s.rs.buildList.length := by
        rcases hkept with h | h | h
        · omega
        · cases hc.symm.trans h
        · exact absurd (Option.some.inj (hc.symm.trans h)) hne
      have hstays := testHead_building (s := s.setRs { s.rs with buildList := s.rs.buildList ++ [c], current := some key })
        (congrArg Option.isSome hbuild)
      rw [startMinuteRs, if_neg hroom, hstays]
      refine ⟨hbuild, rest ++ [c], ?_⟩
      change s.rs.buildList ++ [c] = _
      rw [hlist]
      rfl

theorem finishedRs_builder (s : State) : (finishedRs s).minutes = (closeAtRestart (finishEntries s)).rs.minutes
    ∧ (finishedRs s).build = (closeAtRestart (finishEntries s)).rs.build
    ∧ (finishedRs s).buildList = (closeAtRestart (finishEntries s)).rs.buildList
    ∧ (finishedRs s).current = (closeAtRestart (finishEntries s)).rs.current := by
  rw [finishedRs_eq, writeEach_rest]
  exact ⟨rfl, rfl, rfl, rfl⟩

theorem finishEntries_builder (s : State) : (finishEntries s).rs.minutes = s.rs.minutes ∧ (finishEntries s).rs.build = s.rs.build
    ∧ (finishEntries s).rs.buildList = s.rs.buildList ∧ (finishEntries s).rs.current = s.rs.current := by
  rw [finishEntries_rs, writeEach_rest]
  exact ⟨rfl, rfl, rfl, rfl⟩

theorem finishedRs_minutes {s : State} (h : s.rs.minutes.length ≤ 512) : MinutesGrown s.rs.minutes (finishedRs s).minutes := by
  obtain ⟨hentries, -⟩ := finishEntries_builder s
  obtain ⟨hfinished, -⟩ := finishedRs_builder s
  rw [hfinished, closeAtRestart]
  split
  · obtain ⟨u, hu, hminutes, -⟩ := enterRecord_builder (r := restartRecord (finishEntries s)) (s := finishEntries s) rfl
    have hsame := hminutes.trans hentries
    rw [hu, ← hsame]
    exact takeMinuteKey_grown _ (hsame ▸ h)
  · rw [hentries]
    exact .refl h

/-- A PASSED second leaves the builder as it stands. -/
theorem finishedRs_passed {s : State} (h : s.re.isOpen = false) : (finishedRs s).build = s.rs.build
    ∧ (finishedRs s).buildList = s.rs.buildList ∧ (finishedRs s).current = s.rs.current := by
  obtain ⟨-, hbuild, hlist, hcurrent⟩ := finishedRs_builder s
  obtain ⟨-, hbuild', hlist', hcurrent'⟩ := finishEntries_builder s
  have hpassed : (finishEntries s).re.isOpen = false := by simpa using h
  rw [closeAtRestart, hpassed, if_neg (by decide)] at hbuild hlist hcurrent
  exact ⟨hbuild.trans hbuild', hlist.trans hlist', hcurrent.trans hcurrent'⟩

/-- The minute under build stays at the head while the records in hand are finished. -/
theorem finishedRs_building {s : State} {b : MinuteBuild} {m : Minute} {rest : List Minute} (hbuild : s.rs.build = some b)
    (hlist : s.rs.buildList = m :: rest) (hkept : s.re.isOpen = false ∨ s.rs.buildList.length < 16 ∨ s.rs.current = none
      ∨ s.rs.current = some (minuteOf s.re.epoch s.re.second)) :
    (finishedRs s).build = some b ∧ ∃ more, (finishedRs s).buildList = m :: more := by
  cases hopen : s.re.isOpen with
  | false =>
    obtain ⟨hbuild', hlist', -⟩ := finishedRs_passed hopen
    exact ⟨hbuild'.trans hbuild, rest, hlist'.trans hlist⟩
  | true =>
    obtain ⟨-, hfbuild, hflist, -⟩ := finishedRs_builder s
    obtain ⟨-, hbuild', hlist', hcurrent'⟩ := finishEntries_builder s
    obtain ⟨u, hu, -, hub, hul, huc⟩ := enterRecord_builder (r := restartRecord (finishEntries s)) (s := finishEntries s) rfl
    have hre : (finishEntries s).re = s.re := by simp
    have hkey : minuteOf (restartRecord (finishEntries s)).epoch (restartRecord (finishEntries s)).second
        = minuteOf s.re.epoch s.re.second := congrArg (fun e : RE => minuteOf e.epoch e.second) hre
    rw [hfbuild, hflist, closeAtRestart, if_pos (by rw [hre]; exact hopen), hu, hkey]
    refine takeMinuteKey_building (hub.trans (hbuild'.trans hbuild)) (hul.trans (hlist'.trans hlist)) ?_
    rw [hul, huc, hlist', hcurrent']
    exact hkept.resolve_left (by rw [hopen]; decide)

/-- The minute under build stays at the head over the start of the current minute (the model's choice, log 28). -/
theorem restartBuildList_head {rs : RS} {b : MinuteBuild} {m : Minute} {rest : List Minute} (hbuild : rs.build = some b)
    (hlist : rs.buildList = m :: rest) : ∃ more, restartBuildList rs = m :: more := by
  obtain ⟨hnone, hroom, hfull, -⟩ := restartBuildList_cases rs
  cases hcurrent : rs.current with
  | none => exact ⟨rest, (hnone hcurrent).trans hlist⟩
  | some c =>
    by_cases hlength : rs.buildList.length < 16
    · exact ⟨rest ++ [c], by rw [hroom c hcurrent hlength, hlist]; rfl⟩
    · cases rest with
      | nil =>
        rw [hlist] at hlength
        exact absurd (show 1 < 16 by decide) hlength
      | cons lost more =>
        exact ⟨more ++ [c], hfull c b m lost more hcurrent (by omega) hbuild hlist⟩

end Sys2Proof.Machine
end

section
/-! PROOF. The restart takes place (O20; R19, R191). -/

namespace Sys2Proof.Machine

/-! ## What every block does at a restart -/

/-- The blocks that start anew at a restart, whatever stood in them (R40, R58, R110, R125, R148, R161). -/
theorem restartNode_blocks (memory : Option MemoryRecord) (s : State) :
    (restartNode memory s).sul = readRecord s.sul.stationId memory
      ∧ (restartNode memory s).tb = restartTb (readRecord s.sul.stationId memory).image.timePulse s.tb
      ∧ (restartNode memory s).lc = restartLc s.lc ∧ (restartNode memory s).pt = PT.reset ∧ (restartNode memory s).bw = BW.reset
      ∧ (restartNode memory s).du = restartDu s.sul.stationId s.du
      ∧ (restartNode memory s).scn = startScn (readRecord s.sul.stationId memory).image
      ∧ (restartNode memory s).tu = startTu (readRecord s.sul.stationId memory).image
      ∧ (restartNode memory s).mdm = startMdm (readRecord s.sul.stationId memory)
      ∧ (restartNode memory s).re
        = restartRe (restartTb (readRecord s.sul.stationId memory).image.timePulse s.tb) (restartRs (finishedRs s)) := by
  simp [restartNode, finishedRs, readRecord_stationId]

/-- The VFE and its pins start as at a power-on under the new image (R77, R95). -/
theorem restartNode_vfe (memory : Option MemoryRecord) (s : State) : ∃ u : State, u.sul = readRecord s.sul.stationId memory
    ∧ u.pins = { s.pins with memory := memory } ∧ (restartNode memory s).vfe = (startVfe u).vfe
    ∧ (restartNode memory s).pins = (startVfe u).pins := by
  obtain ⟨u, l, heq, hsul, hpins⟩ : ∃ u l, restartNode memory s = testHead ((startVfe u).setLc l)
      ∧ u.sul = readRecord s.sul.stationId memory ∧ u.pins = { s.pins with memory := memory } :=
    ⟨_, _, rfl, by simp, by simp⟩
  refine ⟨u, hsul, hpins, ?_⟩
  rw [heq]
  simp

theorem startVfe_pins (s : State) : (startVfe s).pins = { s.pins with loopGood := false } := by
  cases hrole : s.sul.image.vectorRole with
  | false => exact (startVfe_off hrole).2
  | true => exact (startVfe_on hrole).2

/-- The restart ends with the test of the head, the DRU free and RS restarted (R186). -/
theorem restartNode_testHead (memory : Option MemoryRecord) (s : State) :
    ∃ u, restartNode memory s = testHead u ∧ u.rs = restartRs (finishedRs s) ∧ u.dru = DRU.reset :=
  ⟨_, rfl, by simp [finishedRs], by simp⟩

theorem restartDu_locked {own : StationId} {d : DU} (h : d.state = .locked) : restartDu own d = { DU.reset own with
    state := .holdover
    boundAtEntry := some d.errorBound
    heldClass := some d.cls
    errorBound := min 65535 d.errorBound
    cls := if d.cls = 2 then 2 else 1 } := by
  unfold restartDu
  rw [h, if_pos rfl, if_pos rfl, if_pos rfl, ← satBound_eq_min]
  simp [fixAdvertisement, rebound, boundOf, rootClass, DU.reset]

theorem restartDu_unlocked {own : StationId} {d : DU} (h : d.state ≠ .locked) : restartDu own d = DU.reset own := by
  unfold restartDu
  rw [if_neg h, if_neg h, if_neg h]
  rfl

/-- DU keeps its bound and class over a restart in LOCKED, and nothing in another state (R58, R59). -/
theorem restartDu_eq (own : StationId) (d : DU) : restartDu own d = { DU.reset own with
    state := (restartDu own d).state
    boundAtEntry := (restartDu own d).boundAtEntry
    heldClass := (restartDu own d).heldClass
    errorBound := (restartDu own d).errorBound
    cls := (restartDu own d).cls } := by
  by_cases h : d.state = .locked
  · rw [restartDu_locked h]
  · rw [restartDu_unlocked h]

/-- MDM's source at a start (R154, R161). -/
theorem startMdm_cases (u : SUL) : (u.image.scalarRole = true → startMdm u = { MDM.reset with source := .own })
    ∧ (u.image.scalarRole = false → u.image.scalarPeer ≠ 0 → u.image.scalarPeer ≠ u.stationId →
        startMdm u = { MDM.reset with source := .configured u.image.scalarPeer })
    ∧ (u.image.scalarRole = false → u.image.scalarPeer = 0 ∨ u.image.scalarPeer = u.stationId →
        startMdm u = { MDM.reset with source := .none }) := by
  unfold startMdm sourceAtReset configuredPeer
  refine ⟨fun hrole => ?_, fun hrole hzero hown => ?_, fun hrole hnone => ?_⟩
  · rw [if_pos hrole]
  · rw [hrole, if_neg (by decide), if_neg hown, if_neg hzero]
  · rw [hrole, if_neg (by decide)]
    split
    · rfl
    next hown => rw [if_pos (hnone.resolve_right hown)]

/-! ## The restart answer leaves its slot -/

/-- A node as `s` but for LC and the events an attempt carries, with DUPLICATE_ID kept. -/
structure LeftSlot (s u : State) : Prop where
  same : u = { s with lc := u.lc, rs := { s.rs with carried := u.rs.carried } }
  latched : s.lc.duplicateId = true → u.lc.duplicateId = true

theorem LeftSlot.trans {s u w : State} (h : LeftSlot s u) (k : LeftSlot u w) : LeftSlot s w := by
  refine ⟨?_, fun hs => k.latched (h.latched hs)⟩
  rw [k.same, h.same]

theorem leftSlot_setLc {s : State} {l : LC} (h : s.lc.duplicateId = true → l.duplicateId = true) : LeftSlot s (s.setLc l) :=
  ⟨rfl, h⟩

theorem leftSlot_freeSlot (n : SlotName) (s : State) : LeftSlot s (freeSlot n s) := by
  rw [freeSlot_eq]
  exact ⟨rfl, fun h => by cases n <;> exact h⟩

theorem leftSlot_abandonSlot (n : SlotName) (s : State) : LeftSlot s (abandonSlot n s) :=
  (leftSlot_freeSlot n s).trans (leftSlot_setLc fun h => h)

theorem answer_of_restart {v : Slot} (h : holdsRestart (some v) = true) : ∃ a, v.frame = .answer a := by
  obtain ⟨sending, frame, attempts, expiry⟩ := v
  cases frame with
  | announce a => cases h
  | answer a => exact ⟨a, rfl⟩

theorem abandonFrame_restarts {memory : Option MemoryRecord} {n : SlotName} {v : Slot} {s : State} (hv : getSlot n s.lc = some v)
    (hrestart : holdsRestart (some v) = true) : abandonFrame memory n s = restartNode memory (abandonSlot n s) := by
  unfold abandonFrame afterLeaving
  rw [hv]
  exact if_pos hrestart

theorem frameGone_restarts {memory : Option MemoryRecord} {n : SlotName} {v : Slot} {k : Nat} {os : List Octet} {s : State}
    (hone : OneSlotSends s) (hattempt : s.lc.contention = .attempt k os) (hv : getSlot n s.lc = some v) (hsends : v.sending = true)
    (hrestart : holdsRestart (some v) = true) : frameGone memory s = restartNode memory (freeSlot n s) := by
  obtain ⟨a, ha⟩ := answer_of_restart hrestart
  unfold frameGone
  rw [hattempt, sendingSlot_of hone hv hsends]
  dsimp only
  rw [hv]
  dsimp only
  rw [ha, afterLeaving, hrestart]
  rfl

theorem latchDuplicate_restarts {memory : Option MemoryRecord} {n : SlotName} {v : Slot} {s : State} (hnew : s.lc.duplicateId = false)
    (hv : getSlot n s.lc = some v) (hrestart : holdsRestart (some v) = true) :
    ∃ u, latchDuplicate memory s = restartNode memory u ∧ LeftSlot s u := by
  have heither : (holdsRestart s.lc.slotA || holdsRestart s.lc.slotB) = true := by
    cases n with
    | a => rw [show s.lc.slotA = some v from hv, hrestart]; rfl
    | b => rw [show s.lc.slotB = some v from hv, hrestart, Bool.or_true]
  unfold latchDuplicate
  dsimp only
  rw [if_neg (by rw [hnew]; decide), if_pos heither]
  refine ⟨_, rfl, ?_⟩
  have hlatch : LeftSlot s (s.setLc { s.lc with duplicateId := true }) := leftSlot_setLc fun _ => rfl
  have hheld : ∀ (m : SlotName) (b : Bool) (u : State), LeftSlot u (if b then abandonSlot m u else u) := by
    intro m b u
    cases b with
    | true => exact leftSlot_abandonSlot m u
    | false => exact ⟨rfl, id⟩
  exact (hlatch.trans (hheld .a _ _)).trans (hheld .b _ _)

/-- The ways the restart answer leaves its slot (R8, R9, R10, R14, R19). -/
theorem restart_comes {s t : State} {n : SlotName} {v : Slot} {memory : Option MemoryRecord} (hon : s.powered = true)
    (hone : OneSlotSends s) (hv : getSlot n s.lc = some v) (hrestart : holdsRestart (some v) = true)
    (hways : (v.sending = true ∧ (∃ k os, s.lc.contention = .attempt k os) ∧ exec (.frameSent memory) s = .next t)
      ∨ (v.sending = true ∧ driving s.lc.contention = true ∧ exec (.jabberCut memory) s = .next t)
      ∨ (v.sending = true ∧ (∃ k, s.lc.contention = .jam k) ∧ 8 ≤ v.attempts + 1 ∧ exec (.jamEnd memory) s = .next t)
      ∨ (v.sending = false ∧ exec (.answerExpiry n memory) s = .next t)
      ∨ (s.lc.duplicateId = false ∧ ∃ r levels kind dest body, s.lc.rx = some r ∧ r.own = false ∧ r.judged = false
          ∧ judgeFrame (receiveOctets levels) = some (kind, s.sul.stationId.setWidth 8, dest, body)
          ∧ exec (.frameReceived levels memory) s = .next t)) :
    ∃ u, t = restartNode memory u ∧ LeftSlot s u := by
  have hnext : ∀ {f : State → State} {t : State},
      (Host.Outcome.next (whenOn s f) : Host.Outcome State Fault Refusal) = .next t → t = f s := by
    intro f t h
    rw [whenOn_on hon] at h
    exact (Host.Outcome.next.inj h).symm
  rcases hways with ⟨hsends, ⟨k, os, hattempt⟩, h⟩ | ⟨hsends, hdriving, h⟩ | ⟨hsends, ⟨k, hjam⟩, height, h⟩ | ⟨hready, h⟩
    | ⟨hnew, r, levels, kind, dest, body, hrx, hown, hjudged, hjudge, h⟩
  · exact ⟨_, (hnext h).trans (frameGone_restarts hone hattempt hv hsends hrestart), leftSlot_freeSlot n s⟩
  · have hcut : jabberCuts memory s = abandonFrame memory n (s.setLc { s.lc with jabberSeen := true, silence := some 10000000 }) := by
      unfold jabberCuts
      rw [hdriving, sendingSlot_of hone hv hsends]
    have hv' : getSlot n (s.setLc { s.lc with jabberSeen := true, silence := some 10000000 }).lc = some v := by cases n <;> exact hv
    have hseen : LeftSlot s (s.setLc { s.lc with jabberSeen := true, silence := some 10000000 }) := leftSlot_setLc id
    exact ⟨_, (hnext h).trans (hcut.trans (abandonFrame_restarts hv' hrestart)), hseen.trans (leftSlot_abandonSlot n _)⟩
  · have hlast : jamEnds memory s = abandonFrame memory n
        (s.setLc (setSlot n (some { v with attempts := v.attempts + 1 }) { s.lc with driverActive := 0 })) := by
      rw [jamEnds_afterJam memory hone hjam hv hsends]
      exact if_pos height
    refine ⟨_, (hnext h).trans (hlast.trans (abandonFrame_restarts (v := { v with attempts := v.attempts + 1 }) (by simp)
      (holdsRestart_attempts .. ▸ hrestart))), LeftSlot.trans (leftSlot_setLc ?_) (leftSlot_abandonSlot n _)⟩
    cases n <;> exact id
  · obtain ⟨a, ha⟩ := answer_of_restart hrestart
    have hanswer : readyAnswer (getSlot n s.lc) = true := by
      obtain ⟨sending, frame, attempts, expiry⟩ := v
      obtain rfl : sending = false := hready
      obtain rfl : frame = .answer a := ha
      rw [hv]
      rfl
    have hexpires : answerExpires n memory s = restartNode memory ((freeSlot n s).setLc
        { (freeSlot n s).lc with queryExpired := bump (freeSlot n s).lc.queryExpired }) := by
      unfold answerExpires afterLeaving
      rw [if_pos hanswer, hv, hrestart]
      rfl
    exact ⟨_, (hnext h).trans hexpires, (leftSlot_freeSlot n s).trans (leftSlot_setLc id)⟩
  · have hv' : getSlot n (s.setLc (markJudged s.lc)).lc = some v := by cases n <;> exact hv
    have hmarked : LeftSlot s (s.setLc (markJudged s.lc)) := leftSlot_setLc id
    obtain ⟨u, hu, hleft⟩ := latchDuplicate_restarts (memory := memory) (s := s.setLc (markJudged s.lc)) hnew hv' hrestart
    refine ⟨u, (hnext h).trans (Eq.trans ?_ hu), hmarked.trans hleft⟩
    rw [receives_run levels memory hrx hown hjudged, judgeRun]
    dsimp only
    rw [hjudge]
    exact if_pos rfl

/-! ## The builder over a restart -/

theorem testHead_rs {s t : State} (ht : testHead s = t) : t.rs = { s.rs with
    minutes := t.rs.minutes
    build := t.rs.build
    buildList := t.rs.buildList } := by
  subst ht
  exact testHeads_rs _ s

theorem minuteRecords_of_same {a b : RS} (h : a.seconds = b.seconds) (m : Minute) : minuteRecords m a = minuteRecords m b := by
  unfold minuteRecords
  rw [h]

theorem ringHolds_of_same {a b : RS} (h : a.seconds = b.seconds) (ep : Epoch) (q : Second) : ringHolds ep q a = ringHolds ep q b := by
  unfold ringHolds
  rw [h]

/-- A head whose records are all FINAL and that needs a division is built and stays at the head (R180). -/
theorem testHead_keeps_head {s t : State} {m : Minute} {rest : List Minute} (ht : testHead s = t) (hlist : s.rs.buildList = m :: rest)
    (hbuild : s.rs.build = none) (hdiscard : s.rs.discard = false) (hfinal : ∀ r ∈ minuteRecords m t.rs, r.final = true)
    (htodo : (gatherMinute m (minuteRecords m t.rs)).todo ≠ []) :
    t.rs.buildList = m :: rest ∧ t.rs.build = some (gatherMinute m (minuteRecords m t.rs)) := by
  have hsame : minuteRecords m t.rs = minuteRecords m s.rs := minuteRecords_of_same (congrArg RS.seconds (testHead_rs ht)) m
  rw [hsame] at hfinal htodo ⊢
  obtain ⟨d, ds, hd⟩ := List.exists_cons_of_ne_nil htodo
  rw [testHead_builds hlist hbuild hdiscard hfinal hd] at ht
  subst ht
  exact ⟨hlist, rfl⟩

/-- The build list after a restart that finds no OPEN second (the model's choice, log 28). -/
theorem restartBuildList_passed {s : State} {b : MinuteBuild} {m c : Minute} {rest : List Minute} (hpassed : s.re.isOpen = false)
    (hbuild : s.rs.build = some b) (hlist : s.rs.buildList = m :: rest) (hcurrent : s.rs.current = some c) :
    (s.rs.buildList.length < 16 → restartBuildList (finishedRs s) = m :: rest ++ [c])
      ∧ ∀ lost more, 16 ≤ s.rs.buildList.length → rest = lost :: more → restartBuildList (finishedRs s) = m :: more ++ [c] := by
  obtain ⟨hfbuild, hflist, hfcurrent⟩ := finishedRs_passed hpassed
  obtain ⟨-, hroom, hfull, -⟩ := restartBuildList_cases (finishedRs s)
  rw [hflist, hlist] at hroom hfull
  rw [hlist]
  refine ⟨fun h => hroom c (hfcurrent.trans hcurrent) h, ?_⟩
  rintro lost more h rfl
  exact hfull c b m lost more (hfcurrent.trans hcurrent) h (hfbuild.trans hbuild) rfl

/-- What a restart leaves in RS, beside the second ring (R180, R186). -/
theorem restartNode_stores {memory : Option MemoryRecord} {s t : State} (ht : restartNode memory s = t) :
    t.rs = { restartRs (finishedRs s) with minutes := t.rs.minutes, build := t.rs.build, buildList := t.rs.buildList }
      ∧ (s.rs.minutes.length ≤ 512 → MinutesGrown s.rs.minutes t.rs.minutes)
      ∧ (t.rs.build = none → t.dru = DRU.reset)
      ∧ (∀ b, t.rs.build = some b → ∃ d rest, b.todo = d :: rest
          ∧ t.dru = { DRU.reset with current := some ⟨⟨.minute, .divide d.sum d.count⟩, 330⟩ })
      ∧ (∀ m rest, t.rs.buildList = m :: rest → (∀ r ∈ minuteRecords m t.rs, r.final = true) →
          t.rs.build = some (gatherMinute m (minuteRecords m t.rs)))
      ∧ (∀ m more, restartBuildList (finishedRs s) = m :: more → (∀ r ∈ minuteRecords m t.rs, r.final = true) →
          (gatherMinute m (minuteRecords m t.rs)).todo ≠ [] →
          t.rs.buildList = m :: more ∧ t.rs.build = some (gatherMinute m (minuteRecords m t.rs))) := by
  obtain ⟨u, hu, hurs, hudru⟩ := restartNode_testHead memory s
  rw [hu] at ht
  have hrs := testHead_rs ht
  have hbuild : u.rs.build = none := by rw [hurs]; rfl
  have hdiscard : u.rs.discard = false := by rw [hurs]; rfl
  have hlist : u.rs.buildList = restartBuildList (finishedRs s) := by rw [hurs]; rfl
  have hends := testHeads_ends hbuild hdiscard hudru (Nat.le_refl _) ht
  refine ⟨hurs ▸ hrs, fun h => ?_, fun hno => ?_, fun b hb => ?_, fun m rest hm hfinal => ?_, fun m more hm hfinal htodo =>
    testHead_keeps_head ht (hlist.trans hm) hbuild hdiscard hfinal htodo⟩
  · have hfinished := finishedRs_minutes h
    have hsame : u.rs.minutes = (finishedRs s).minutes := by rw [hurs]; rfl
    have hgrown := testHeads_grown u.rs.buildList.length (s := u) (hsame ▸ hfinished.length_le)
    rw [hsame] at hgrown
    subst ht
    exact hfinished.trans hgrown
  · rcases hends with ⟨-, hdru, -⟩ | ⟨m, rest, d, ds, -, hb, -, -⟩
    · exact hdru
    · cases hno.symm.trans hb
  · rcases hends with ⟨hno, -, -⟩ | ⟨m, rest, d, ds, -, hb', htodo, hdru⟩
    · cases hb.symm.trans hno
    · obtain rfl := Option.some.inj (hb.symm.trans hb')
      exact ⟨d, ds, htodo, hdru⟩
  · rcases hends with ⟨-, -, hopen⟩ | ⟨m', rest', d, ds, hm', hb, -, -⟩
    · obtain ⟨r, hr, hno⟩ := hopen m rest hm
      exact absurd (hfinal r hr) (by rw [hno]; decide)
    · obtain ⟨rfl, -⟩ := List.cons.inj (hm.symm.trans hm')
      exact hb

theorem LeftSlot.parts {s u : State} (h : LeftSlot s u) : ∃ l c, u = { s with lc := l, rs := { s.rs with carried := c } }
    ∧ (s.lc.duplicateId = true → l.duplicateId = true) :=
  ⟨u.lc, u.rs.carried, h.same, h.latched⟩

/-- The second ring after a restart, by the keys of its records (R148, R178). -/
theorem finishedRs_keys (s : State) : (finishedRs s).seconds.map (fun r => (r.sequence, r.epoch, r.second)) = if s.re.isOpen then
      (s.rs.seconds.map (fun r => (r.sequence, r.epoch, r.second))).drop (if 1024 ≤ s.rs.seconds.length then 1 else 0)
        ++ [(nextSequence (newestSecond s.rs), s.re.epoch, s.re.second)]
    else s.rs.seconds.map (fun r => (r.sequence, r.epoch, r.second)) := by
  have hre : (finishEntries s).re = s.re := by simp
  have hepoch : (restartRecord (finishEntries s)).epoch = s.re.epoch := congrArg RE.epoch hre
  have hsecond : (restartRecord (finishEntries s)).second = s.re.second := congrArg RE.second hre
  rw [finishedRs_map (fun _ => rfl) (fun _ _ => rfl) (fun _ _ => rfl), restartRecord_sequence, hepoch, hsecond]

/-- Settles O20. -/
theorem restartTakesPlace : Obligations.RestartTakesPlace := by
  unfold Obligations.RestartTakesPlace
  intro s t n v memory hon hone hv hrestart hminutes hways
  obtain ⟨u, hcomes, hleft⟩ := restart_comes hon hone hv hrestart hways
  obtain ⟨l, c, rfl, hlatched⟩ := hleft.parts
  generalize hu : ({ s with lc := l, rs := { s.rs with carried := c } } : State) = u at hcomes
  have hure : u.re = s.re := hu ▸ rfl
  have humdm : u.mdm = s.mdm := hu ▸ rfl
  have hurs : u.rs = { s.rs with carried := c } := hu ▸ rfl
  have hutb : u.tb = s.tb := hu ▸ rfl
  have hudu : u.du = s.du := hu ▸ rfl
  have husul : u.sul = s.sul := hu ▸ rfl
  have hupins : u.pins = s.pins := hu ▸ rfl
  have hulc : u.lc = l := hu ▸ rfl
  obtain ⟨hsul, htb, hlc, hpt, hbw, hdu, hscn, htu, hmdm, hre⟩ := restartNode_blocks memory u
  obtain ⟨x, hxsul, hxpins, hvfe, hpins⟩ := restartNode_vfe memory u
  obtain ⟨-, -, -, hnotices, hinstants, hpending⟩ := restartNode_frame memory u
  obtain ⟨hrs, hgrown, hidle, hbusy, hhead, hkeeps⟩ := restartNode_stores hcomes.symm
  rw [← hcomes, husul] at hsul
  rw [← hcomes, husul, hutb] at htb hre
  rw [← hcomes, hulc] at hlc
  rw [← hcomes] at hpt hbw hvfe hpins hnotices hinstants hpending
  rw [← hcomes, husul, hudu] at hdu
  rw [← hcomes, husul] at hscn htu hmdm
  rw [husul] at hxsul
  rw [hupins] at hxpins
  rw [hurs] at hgrown
  have hseconds : t.rs.seconds = (finishedRs u).seconds := (congrArg RS.seconds hrs).trans rfl
  have hfinished : ∀ ep q, ringHolds ep q (restartRs (finishedRs u)) = ringHolds ep q t.rs :=
    fun ep q => (ringHolds_of_same hseconds ep q).symm
  obtain ⟨hown, hconfigured, hnosource⟩ := startMdm_cases (readRecord s.sul.stationId memory)
  rw [readRecord_stationId] at hconfigured hnosource
  rw [htb, hlc, hpt, hbw, hsul, hdu, hscn, htu, hmdm, hre]
  refine ⟨rfl, rfl, rfl, rfl, rfl, rfl, rfl, rfl, rfl, rfl, rfl, rfl, rfl, rfl, rfl, rfl, rfl, rfl, hlatched, rfl, rfl, rfl,
    restartDu_eq _ _, fun h => ?_, fun h => restartDu_unlocked h, congrArg RS.events hrs, congrArg RS.pendingF hrs,
    congrArg RS.current hrs, congrArg RS.eventsLost hrs, congrArg RS.minuteLost hrs, ?_, fun hrole => ?_, fun hrole hgood => ?_,
    fun hrole hgood => ?_, rfl, rfl, hown, hconfigured, hnosource, hidle, hbusy, hhead, ?_, ?_, hnotices.trans (hu ▸ rfl),
    hinstants.trans (hu ▸ rfl), hpending.trans (hu ▸ rfl), ?_, ?_, ?_, ?_, ?_, hgrown hminutes⟩
  · rw [restartDu_locked h]
    exact ⟨rfl, rfl, rfl, rfl, rfl, rfl⟩
  · unfold restartRe
    rw [hfinished]
    rfl
  · rw [hvfe]
    exact (startVfe_off (hxsul ▸ hrole)).1
  · rw [hvfe, (startVfe_on (s := x) (hxsul ▸ hrole)).1, hxpins, if_neg (by rw [hgood]; decide)]
  · rw [hvfe, (startVfe_on (s := x) (hxsul ▸ hrole)).1, hxpins, if_pos hgood]
  · intro b m rest hbuild hlist hkept hfinal htodo
    have hubuild : u.rs.build = some b := (congrArg RS.build hurs).trans hbuild
    have hulist : u.rs.buildList = m :: rest := (congrArg RS.buildList hurs).trans hlist
    obtain ⟨hfbuild, first, hflist⟩ := finishedRs_building hubuild hulist (by rw [hure, hurs]; exact hkept)
    obtain ⟨more, hmore⟩ := restartBuildList_head hfbuild hflist
    obtain ⟨htlist, htbuild⟩ := hkeeps m more hmore hfinal htodo
    refine ⟨by rw [htlist]; rfl, htbuild, fun c' hpassed hcurrent => ?_⟩
    obtain ⟨hroom, hfull⟩ := restartBuildList_passed (by rw [hure]; exact hpassed) hubuild hulist
      ((congrArg RS.current hurs).trans hcurrent)
    rw [hurs, hmore, ← htlist] at hroom hfull
    exact ⟨hroom, fun lost more' hlength hrest => hfull lost more' hlength hrest⟩
  · rw [hpins]
    rw [startVfe_pins, hxpins]
  · intro hopen
    rw [hseconds]
    have hrecord := finishedRs_open (s := u) (by rw [hure]; exact hopen)
    rw [hure] at hrecord
    exact hrecord
  · rw [hseconds]
    rintro r hr (⟨d, hd, hseq⟩ | ⟨e, he, hseq⟩)
    · obtain ⟨⟨hfinal, -⟩, -⟩ := finishedRs_chains (hure ▸ hd) hr hseq.symm
      exact hfinal
    · exact (finishedRs_entries (humdm ▸ he) r hr hseq.symm).1
  · rw [hseconds]
    intro d hd r hr hseq
    obtain ⟨⟨-, hreason⟩, haxes⟩ := finishedRs_chains (hure ▸ hd) hr hseq
    exact ⟨hreason, haxes⟩
  · rw [hseconds]
    intro e he r hr hseq
    exact (finishedRs_entries (humdm ▸ he) r hr hseq).2
  · rintro key rfl
    rw [hseconds]
    have hkeys := finishedRs_keys u
    rw [hure, hurs] at hkeys
    refine ⟨fun hpassed => ?_, fun hopen hroom => ?_, fun hopen hfull => ?_⟩
    · rw [hkeys, hpassed]
      rfl
    · rw [hkeys, if_pos hopen, if_neg (Nat.not_le.mpr hroom)]
      rfl
    · rw [hkeys, if_pos hopen, if_pos hfull]
      rfl

end Sys2Proof.Machine
end
